-- ==== Sys2Proof/Word.lean ====
section
/-! DEFINITION. The one word type of the part: the 8-bit character that its serial links and its track line carry. -/

namespace Sys2Proof

/-- A character's eight data bits (R134, R203), and one byte of every frame, block and table entry. -/
abbrev Byte := BitVec 8

end Sys2Proof
end

