-- ==== Sys2Proof/Syntax.lean ====
section
/-! DEFINITION. The commands of the block: one constructor of `Instr` per row of spec/opcode_table.json, with the names its
operands use. A request carries its sending port and the body bytes of its frame (R205), so that every length and value a master
can send is a command. -/

namespace Sys2Proof

/-- The three station links (00_scope, "Station links"): drive port D, lower station port LS, upper station port US. -/
inductive Port where
  | d | ls | us
  deriving DecidableEq, Repr

/-- The two cars, at track line addresses 1 and 2. -/
inductive Car where
  | a | b
  deriving DecidableEq, Repr

/-- The side of a car or platform, as seen by a person facing uphill. -/
inductive Side where
  | left | right
  deriving DecidableEq, Repr

/-- The four berths, from the lower terminus B0 to the upper terminus B3. -/
inductive Berth where
  | b0 | b1 | b2 | b3
  deriving DecidableEq, Repr

/-- The two encoder channels: ENC1 on the drive sheave, ENC2 on the deflection sheave. -/
inductive Chan where
  | ch1 | ch2
  deriving DecidableEq, Repr

/-- One phase line of an encoder channel. -/
inductive PhaseLine where
  | a | b
  deriving DecidableEq, Repr

/-- The two brakes whose feedback the part watches (R93). -/
inductive Brake where
  | eb | sb
  deriving DecidableEq, Repr

/-- The free track marker inputs M4 to M7. -/
inductive FreeInput where
  | m4 | m5 | m6 | m7
  deriving DecidableEq, Repr

/-- A marker input: the level switch of a berth (M0 to M3) or a free marker (M4 to M7). -/
inductive MarkerInput where
  | switch (b : Berth)
  | free (i : FreeInput)
  deriving DecidableEq, Repr

/-- A character as received from the track line (R134): its 8 data bits, its parity bit and its stop bit. -/
structure LineChar where
  data : Byte
  parity : Bool
  stop : Bool
  deriving DecidableEq, Repr

/-- The commands the block takes: requests of the station ports, edges and characters on its inputs, and expiries of its own
timers, as spec/opcode_table.json lists them. -/
inductive Instr where
  /-- POWER_ON (R58): the PORST input. -/
  | powerOn
  /-- LINE_RESET (R59): the LRST input. -/
  | lineReset
  /-- STATION_CHARACTER_RECEIVED (R203, R206): three samples of each of the eleven bits, start bit first. -/
  | stationCharacterReceived (p : Port) (samples : List (BitVec 3))
  /-- GAP_LIMIT_EXPIRY (R206). -/
  | gapLimitExpiry (p : Port)
  /-- ANSWER_SENT (R208). -/
  | answerSent (p : Port)
  /-- STATUS_READ (R216). -/
  | statusRead (p : Port) (body : List Byte)
  /-- NOTICE_CLEAR (R214). -/
  | noticeClear (p : Port) (body : List Byte)
  /-- NOTICE_ENABLE (R215). -/
  | noticeEnable (p : Port) (body : List Byte)
  /-- COUNTS_READ (R217). -/
  | countsRead (p : Port) (body : List Byte)
  /-- EMERGENCY_STOP (R108). -/
  | emergencyStop (p : Port) (body : List Byte)
  /-- TABLE_BEGIN (R9). -/
  | tableBegin (p : Port) (body : List Byte)
  /-- TABLE_ENTRIES (R10). -/
  | tableEntries (p : Port) (body : List Byte)
  /-- TABLE_COMMIT (R11). -/
  | tableCommit (p : Port) (body : List Byte)
  /-- TABLE_READ (R17). -/
  | tableRead (p : Port) (body : List Byte)
  /-- OPEN_LINE (R47). -/
  | openLine (p : Port) (body : List Byte)
  /-- CLOSE_LINE (R51). -/
  | closeLine (p : Port) (body : List Byte)
  /-- MODE_SET (R49). -/
  | modeSet (p : Port) (body : List Byte)
  /-- RUN (R60). -/
  | run (p : Port) (body : List Byte)
  /-- HOLD (R66, R78, R87). -/
  | hold (p : Port) (body : List Byte)
  /-- RESUME (R83). -/
  | resume (p : Port) (body : List Byte)
  /-- TRIP_RESET (R112). -/
  | tripReset (p : Port) (body : List Byte)
  /-- RECOVERY_MOVE (R84). -/
  | recoveryMove (p : Port) (body : List Byte)
  /-- BRAKE_TEST (R123). -/
  | brakeTest (p : Port) (body : List Byte)
  /-- RAIL_TEST (R127). -/
  | railTest (p : Port) (body : List Byte)
  /-- DEPART_CONSENT (R53). -/
  | departConsent (p : Port) (body : List Byte)
  /-- DOOR_RELEASE (R166). -/
  | doorRelease (p : Port) (body : List Byte)
  /-- DOOR_CLOSE (R171). -/
  | doorClose (p : Port) (body : List Byte)
  /-- BOARDING_OPEN (R180). -/
  | boardingOpen (p : Port) (body : List Byte)
  /-- BOARDING_CLOSE (R183). -/
  | boardingClose (p : Port) (body : List Byte)
  /-- ADMIT (R189). -/
  | admission (p : Port) (body : List Byte)
  /-- PASSAGE (R192). -/
  | passage (p : Port) (body : List Byte)
  /-- STATION_CLEAR (R198). -/
  | stationClear (p : Port) (body : List Byte)
  /-- WEATHER (R55). -/
  | weather (p : Port) (body : List Byte)
  /-- STALENESS_LIMIT_EXPIRY (R56). -/
  | stalenessLimitExpiry
  /-- COUNT_STEP (R19): the phase line that changes, and the reading of the part's microsecond time at the step. -/
  | countStep (ch : Chan) (line : PhaseLine) (at_ : Nat)
  /-- QUADRATURE_ERROR (R19): both phase lines of the channel change together. -/
  | quadratureError (ch : Chan)
  /-- STANDSTILL_GAP_EXPIRY (R23). -/
  | standstillGapExpiry (ch : Chan)
  /-- STANDSTILL_DWELL_EXPIRY (R28). -/
  | standstillDwellExpiry
  /-- MARKER_EDGE (R30): the level the input takes, `true` for active. -/
  | markerEdge (m : MarkerInput) (level : Bool)
  /-- SUPERVISION_SAMPLE (R99). -/
  | supervisionSample
  /-- PROFILE_STEP (R67). -/
  | profileStep
  /-- BRAKE_FEEDBACK_CHANGE (R93): the report the feedback input takes, `true` for released. -/
  | brakeFeedbackChange (br : Brake) (released : Bool)
  /-- BRAKE_FEEDBACK_LIMIT_EXPIRY (R93). -/
  | brakeFeedbackLimitExpiry (br : Brake)
  /-- DISPATCH_TIMEOUT (R65). -/
  | dispatchTimeout
  /-- EB_TEST_WINDOW_EXPIRY (R125). -/
  | ebTestWindowExpiry
  /-- CREEP_LIMIT_EXPIRY (R128). -/
  | creepLimitExpiry
  /-- BRAKE_LIMIT_EXPIRY (R130). -/
  | brakeLimitExpiry
  /-- OBLIGATION_MINUTE (R118). -/
  | obligationMinute
  /-- PASSAGE_WINDOW_EXPIRY (R191): the berth whose oldest pending admission's window ends. -/
  | passageWindowExpiry (b : Berth)
  /-- POLL_TIMER_EXPIRY (R139). -/
  | pollTimerExpiry
  /-- FREE_INTERVAL_REACHED (R135). -/
  | freeIntervalReached
  /-- SELECTION_SENT (R136). -/
  | selectionSent
  /-- ACCEPT_RECEIVED (R136): a transmission of one character, as received. -/
  | acceptReceived (c : LineChar)
  /-- COMMAND_BLOCK_SENT (R136). -/
  | commandBlockSent
  /-- ACCEPT_LIMIT_EXPIRY (R138). -/
  | acceptLimitExpiry
  /-- ANSWER_LIMIT_EXPIRY (R138). -/
  | answerLimitExpiry
  /-- INVALID_ANSWER_RECEIVED (R138): a complete answer that fails its checks, whatever its characters. -/
  | invalidAnswerReceived
  /-- STATUS_BLOCK_RECEIVED (R154): the seventeen characters of R152, as received. -/
  | statusBlockReceived (chars : List LineChar)
  /-- ABILITY_RECORD_RECEIVED (R145): the fifteen characters of R152, as received. -/
  | abilityRecordReceived (chars : List LineChar)
  /-- CALL_RECEIVED (R140): a transmission of one character, as received. -/
  | callReceived (c : LineChar)
  /-- GARBLED_CALL (R141). -/
  | garbledCall
  /-- CALL_WINDOW_EXPIRY (R140). -/
  | callWindowExpiry (x : Car)
  /-- TRACK_DRIVE_START (R142). -/
  | trackDriveStart
  /-- TRACK_DRIVE_END (R134). -/
  | trackDriveEnd
  /-- DRIVE_LIMIT_EXPIRY (R142). -/
  | driveLimitExpiry
  /-- SILENCE_LIMIT_EXPIRY (R149). -/
  | silenceLimitExpiry (x : Car)
  /-- FRESHNESS_LIMIT_EXPIRY (R154). -/
  | freshnessLimitExpiry (x : Car)
  /-- START_EDGE (R206): a falling edge on the port's idle RXD line. -/
  | startEdge (p : Port)
  deriving DecidableEq, Repr

end Sys2Proof
end

