-- ==== Sys2Proof/Decode.lean ====
section
/-! DEFINITION. Words of commands. No row of spec/opcode_table.json gives a command any bits, so no word spells a command. The encodings
that the spec does give, of the frames and blocks on its wires, stand in Machine/Operands.lean. -/

namespace Sys2Proof

/-- The command that a word spells by the table's bits: none, since no row of the table gives bits (log entry 2). -/
def decodeTableWord (nbits w : Nat) : Option Instr :=
  match nbits, w with
  | _, _ => none

end Sys2Proof
end

