-- ==== Sys2Proof/Config.lean ====
section
/-! DEFINITION. What an implementation or a station fixes outside the part: the inputs as they stand at the reset of the model, and
the line values in effect before the first LINE commit (R18). No value of the spec is left to an opaque constant: the log says why. -/

namespace Sys2Proof

/-- The character rate a strap selects (R203). -/
inductive Rate where
  | slow   -- 57,600 bit/s
  | fast   -- 230,400 bit/s
  deriving DecidableEq, Repr

/-- Bit rate of a strap position, in bit/s (R203). -/
def Rate.bitsPerSecond : Rate → Nat
  | .slow => 57600
  | .fast => 230400

/-- The strap position at the reset of the model. DESIGN CHOICE (log entry 3): the spec leaves the straps to the board. -/
def Config.resetStrap : Rate := .slow

/-- EB_INTERVAL in effect before the first LINE commit, in minutes (R18). -/
def Config.ebInterval : Nat := 480

/-- RAIL_A_INTERVAL and RAIL_B_INTERVAL in effect before the first LINE commit, in minutes (R18). -/
def Config.railInterval : Nat := 1440

/-- COLD_LIMIT in effect before the first LINE commit, in °C (R18). -/
def Config.coldLimit : Int := 3

end Sys2Proof
end

