-- ==== Sys2Proof/Machine/State.lean ====
section
/-! DEFINITION. The state of the part as plain data: one structure per block of 00_scope's block overview, the queue of waiting
commands, the faults and refusals, and the state after power-on. Figures that the spec keeps equal to a formula over other state
(positions, speeds, quotas, doors secure, attention lines) are computed from it in Machine/Figures.lean and Machine/Flags.lean. -/

namespace Sys2Proof.Machine

/-! ### Fixed groups of like things -/

/-- One value per car. -/
structure PerCar (α : Type) where
  a : α
  b : α
  deriving DecidableEq, Repr

def PerCar.get {α : Type} (t : PerCar α) : Car → α
  | .a => t.a
  | .b => t.b

def PerCar.set {α : Type} (t : PerCar α) : Car → α → PerCar α
  | .a, v => { t with a := v }
  | .b, v => { t with b := v }

def PerCar.map {α β : Type} (f : α → β) (t : PerCar α) : PerCar β := ⟨f t.a, f t.b⟩

/-- One value per side. -/
structure PerSide (α : Type) where
  left : α
  right : α
  deriving DecidableEq, Repr

def PerSide.get {α : Type} (t : PerSide α) : Side → α
  | .left => t.left
  | .right => t.right

def PerSide.set {α : Type} (t : PerSide α) : Side → α → PerSide α
  | .left, v => { t with left := v }
  | .right, v => { t with right := v }

/-- One value per berth. -/
structure PerBerth (α : Type) where
  b0 : α
  b1 : α
  b2 : α
  b3 : α
  deriving DecidableEq, Repr

def PerBerth.get {α : Type} (t : PerBerth α) : Berth → α
  | .b0 => t.b0
  | .b1 => t.b1
  | .b2 => t.b2
  | .b3 => t.b3

def PerBerth.set {α : Type} (t : PerBerth α) : Berth → α → PerBerth α
  | .b0, v => { t with b0 := v }
  | .b1, v => { t with b1 := v }
  | .b2, v => { t with b2 := v }
  | .b3, v => { t with b3 := v }

def PerBerth.map {α β : Type} (f : α → β) (t : PerBerth α) : PerBerth β := ⟨f t.b0, f t.b1, f t.b2, f t.b3⟩

/-- One value per station port. -/
structure PerPort (α : Type) where
  d : α
  ls : α
  us : α
  deriving DecidableEq, Repr

def PerPort.get {α : Type} (t : PerPort α) : Port → α
  | .d => t.d
  | .ls => t.ls
  | .us => t.us

def PerPort.set {α : Type} (t : PerPort α) : Port → α → PerPort α
  | .d, v => { t with d := v }
  | .ls, v => { t with ls := v }
  | .us, v => { t with us := v }

def PerPort.map {α β : Type} (f : α → β) (t : PerPort α) : PerPort β := ⟨f t.d, f t.ls, f t.us⟩

/-- One value per encoder channel. -/
structure PerChan (α : Type) where
  ch1 : α
  ch2 : α
  deriving DecidableEq, Repr

def PerChan.get {α : Type} (t : PerChan α) : Chan → α
  | .ch1 => t.ch1
  | .ch2 => t.ch2

def PerChan.set {α : Type} (t : PerChan α) : Chan → α → PerChan α
  | .ch1, v => { t with ch1 := v }
  | .ch2, v => { t with ch2 := v }

/-- One value per free marker input. -/
structure PerFree (α : Type) where
  m4 : α
  m5 : α
  m6 : α
  m7 : α
  deriving DecidableEq, Repr

def PerFree.get {α : Type} (t : PerFree α) : FreeInput → α
  | .m4 => t.m4
  | .m5 => t.m5
  | .m6 => t.m6
  | .m7 => t.m7

def PerFree.set {α : Type} (t : PerFree α) : FreeInput → α → PerFree α
  | .m4, v => { t with m4 := v }
  | .m5, v => { t with m5 := v }
  | .m6, v => { t with m6 := v }
  | .m7, v => { t with m7 := v }

/-- One value per compartment, 1 to 6. -/
structure Six (α : Type) where
  c1 : α
  c2 : α
  c3 : α
  c4 : α
  c5 : α
  c6 : α
  deriving DecidableEq, Repr

/-- The values in compartment order. -/
def Six.toList {α : Type} (t : Six α) : List α := [t.c1, t.c2, t.c3, t.c4, t.c5, t.c6]

/-- Each compartment's value as a function of its bit position in a compartment set (compartment k at position k - 1). -/
def Six.ofFn {α : Type} (f : Nat → α) : Six α := ⟨f 0, f 1, f 2, f 3, f 4, f 5⟩

def Six.zipWith {α β γ : Type} (f : α → β → γ) (s : Six α) (t : Six β) : Six γ :=
  ⟨f s.c1 t.c1, f s.c2 t.c2, f s.c3 t.c3, f s.c4 t.c4, f s.c5 t.c5, f s.c6 t.c6⟩

/-! ### The table store (chapter 01) -/

/-- The seven tables, ids 0x01 to 0x07 (section 1.1). -/
inductive TableId where
  | line | sections | berths | markers | cars | gates | rules
  deriving DecidableEq, Repr

/-- The LINE header's 21 fields in index order (R1), as active: defaults substituted and a_dec clamped (R2). -/
structure Header where
  lineLen : Nat
  vLine : Nat
  aAcc : Nat
  aDec : Nat
  aSb : Nat
  vCr : Nat
  dM : Nat
  creepRun : Nat
  scale : Nat
  reducedCap : Nat
  inspectionCap : Nat
  uncertainCap : Nat
  windCap1 : Nat
  windCap2 : Nat
  windCap3 : Nat
  ebInterval : Nat
  railAInterval : Nat
  railBInterval : Nat
  coldLimit : Int
  passageWindow : Nat
  alightAllow : Nat
  deriving DecidableEq, Repr

/-- One speed section (R3): the half-open stretch from `start` to `stop` of car position. -/
structure SectionEntry where
  start : Nat
  stop : Nat
  limit : Nat
  deriving DecidableEq, Repr

/-- One berth (R4). `sides` is the platform set: LEFT 1, RIGHT 2. -/
structure BerthEntry where
  position : Nat
  zoneLo : Int
  zoneHi : Int
  sides : Byte
  first : Nat
  last : Nat
  autoRelease : Nat
  deriving DecidableEq, Repr

/-- One free marker (R5). `car` is A 1, B 2, EITHER 3. -/
structure MarkerEntry where
  input : Nat
  position : Nat
  car : Nat
  window : Nat
  deriving DecidableEq, Repr

/-- An ability record's thirteen bytes (R6), as expected in the CARS table and as reported by a car. -/
structure Ability where
  identity : Nat
  count : Nat
  capacities : Six Byte
  left : Byte
  right : Byte
  railKind : Byte
  digest : Byte
  deriving DecidableEq, Repr

/-- One ticket gate (R7). `kind` is UNUSED 0, ENTRY 1, EXIT 2. -/
structure GateEntry where
  kind : Nat
  berth : Nat
  deriving DecidableEq, Repr

/-- One admission rule (R8). `berths` is the berth set; `action` is ADMIT 1, REFUSE 2. -/
structure RuleEntry where
  classValue : Byte
  ignore : Byte
  berths : Byte
  action : Nat
  limit : Nat
  deriving DecidableEq, Repr

/-- The staging area's one table under construction (section 1.2): raw entries, absent until written, and the staged count. -/
structure Staging where
  table : TableId
  entries : List (Option (List Byte))
  count : Nat
  deriving DecidableEq, Repr

/-- The table store. A table that holds no committed mark is `none`; RULES always has its list (R8, R17). -/
structure Tables where
  header : Option Header
  sections : Option (List SectionEntry)
  berths : Option (PerBerth BerthEntry)
  markers : Option (List MarkerEntry)
  cars : Option (PerCar Ability)
  gates : Option (List GateEntry)
  rules : List RuleEntry
  rulesMark : Bool
  staging : Option Staging
  deriving DecidableEq, Repr

/-! ### The rope measurement unit (chapter 02) -/

/-- Travel direction: UP raises car A, DOWN lowers it. -/
inductive Dir where
  | up | down
  deriving DecidableEq, Repr

/-- Position certainty (section 2.6). -/
inductive Certainty where
  | unknown | uncertain | known
  deriving DecidableEq, Repr

/-- The time and direction of a channel's last counted step (R22). -/
structure StepMark where
  time : Nat
  dir : Dir
  deriving DecidableEq, Repr

/-- One encoder channel: its count, its two phase line levels, its period history (oldest first), whether the next step starts a new
history, its last step, its standstill gap limit, and its quadrature error counter (R19, R22, R23). -/
structure ChanState where
  count : Int
  levelA : Bool
  levelB : Bool
  periods : List Nat
  restart : Bool
  last : Option StepMark
  gap : Bool
  errors : Nat
  deriving DecidableEq, Repr

/-- The rope measurement unit (the state table of chapter 02). -/
structure Rope where
  chans : PerChan ChanState
  base : Int
  base2 : Int
  offs : PerCar Int
  dir : Dir
  disagree : Nat
  flag : Bool
  sRef : Int
  dwell : Bool
  certainty : Certainty
  switches : PerBerth Bool
  frees : PerFree Bool
  spurious : Nat
  deriving DecidableEq, Repr

/-! ### The trip controller (chapters 03 and 04) -/

/-- Line mode (R42): codes NORMAL 0, REDUCED 1, INSPECTION 2. -/
inductive Mode where
  | normal | reduced | inspection
  deriving DecidableEq, Repr

/-- RUNNING phase (R42). -/
inductive Phase where
  | accel | cruise | decel | creep | stopping | holding
  deriving DecidableEq, Repr

/-- The three brake test duties and test kinds (chapter 06). -/
inductive TestKind where
  | eb | railA | railB
  deriving DecidableEq, Repr

/-- One value per obligation. -/
structure PerTest (α : Type) where
  eb : α
  railA : α
  railB : α
  deriving DecidableEq, Repr

def PerTest.get {α : Type} (t : PerTest α) : TestKind → α
  | .eb => t.eb
  | .railA => t.railA
  | .railB => t.railB

def PerTest.set {α : Type} (t : PerTest α) : TestKind → α → PerTest α
  | .eb, v => { t with eb := v }
  | .railA, v => { t with railA := v }
  | .railB, v => { t with railB := v }

/-- The line state with its sub-state (R42). `recovery false` is IDLE, `recovery true` is MOVING. -/
inductive LineState where
  | closed
  | parked
  | dispatch
  | running (ph : Phase)
  | held
  | tripped
  | recovery (moving : Bool)
  | testing (k : TestKind)
  deriving DecidableEq, Repr

/-- Kind of a trip record (R61, R85). -/
inductive TripKind where
  | run | recovery
  deriving DecidableEq, Repr

/-- How a trip or move ended (R62). -/
inductive Ending where
  | berthed | idle | cancelled | timedOut | tripped
  deriving DecidableEq, Repr

/-- The trip record (R61, R85); it is live while `ending` is absent. -/
structure TripRecord where
  number : Nat
  kind : TripKind
  dir : Dir
  speed : Nat
  start : Option Berth
  target : PerCar Berth
  halt : Option Berth
  ending : Option Ending
  deriving DecidableEq, Repr

/-- Stage of a dispatch in hand (R61, R64). -/
inductive DispatchStage where
  | waiting | releasing
  deriving DecidableEq, Repr

/-- The stop in hand in a trip or move. -/
inductive StopKind where
  | none | profile | hold | service
  deriving DecidableEq, Repr

/-- Why the line is stopping or stopped mid-trip. -/
inductive HoldCause where
  | request (p : Port)
  | alarm
  | service
  deriving DecidableEq, Repr

/-- The hold save slot's contents (R82). -/
structure HoldSlot where
  number : Nat
  dir : Dir
  target : PerCar Berth
  runCap : Nat
  cause : HoldCause
  deriving DecidableEq, Repr

/-- One car's learned stop offsets at one berth, by arrival direction (R77). -/
structure ByArrival where
  ascending : Int
  descending : Int
  deriving DecidableEq, Repr

/-- The trip origin (R52): whether TRIPPED was entered from CLOSED. -/
inductive TripOrigin where
  | none | closed | open
  deriving DecidableEq, Repr

/-- The weather record (section 3.6). -/
structure Weather where
  temp : Option Int
  wind : Nat
  stale : Bool
  limit : Bool
  deriving DecidableEq, Repr

/-- A setpoint frame as sent on SETPT (R72), before its sync and check bytes. -/
structure SetpointFrame where
  dir : Dir
  speed : Nat
  number : Nat
  count : Nat
  deriving DecidableEq, Repr

/-- The trip controller. `frame` is the last setpoint frame sent on SETPT; `distances` says that a profile step has computed distances since
the profile step was started (R68, R74, R86). -/
structure Trip where
  line : LineState
  mode : Mode
  number : Nat
  record : Option TripRecord
  stage : Option DispatchStage
  dispatchLimit : Bool
  stop : StopKind
  holdCause : Option HoldCause
  slot : Option HoldSlot
  offsets : PerCar (PerBerth ByArrival)
  forming : Nat
  held : Nat
  stepping : Bool
  distances : Bool
  frameCount : Nat
  frame : SetpointFrame
  moveStart : Int
  resumeRelease : Bool
  moveRelease : Bool
  parkedBerth : Option Berth
  origin : TripOrigin
  consentLower : Bool
  consentUpper : Bool
  weather : Weather
  deriving DecidableEq, Repr

/-! ### The speed supervisor (chapter 05) -/

/-- The trip causes (section 5.5). -/
inductive Cause where
  | envelopeExceeded | absoluteOverspeed | encoderDisagree | rollaway | doorZoneMovement | wrongDirection | endOverrun
  | carLinkLost | trackLineJammed | doorUnlockedMoving | carOverspeed | brakeFeedback | emergencyRequest | resetInMotion
  deriving DecidableEq, Repr

/-- An entry of the active cause list: the cause, with the port of an EMERGENCY_REQUEST (R110). -/
structure CauseEntry where
  cause : Cause
  port : Option Port
  deriving DecidableEq, Repr

/-- Service-stop causes (R100). -/
inductive ServiceCause where
  | envelopeService | berthOverrun
  deriving DecidableEq, Repr

/-- The last trip record (R113). -/
structure LastTrip where
  number : Nat
  causes : List CauseEntry
  overflow : Bool
  deriving DecidableEq, Repr

/-- A rail brake order (R111). -/
inductive RailOrder where
  | none | trip | test
  deriving DecidableEq, Repr

/-- The direction watch while RUNNING (R104). -/
structure DirWatch where
  dir : Dir
  reach : Int
  deriving DecidableEq, Repr

/-- The speed supervisor. `ebFb` and `sbFb` are the feedback inputs, `true` when they report released. `orderClears` marks a car whose
present rail brake order is cleared at the next setting of the standstill flag (R111, R122). -/
structure Sup where
  ebRel : Bool
  sbRel : Bool
  drvEn : Bool
  ebFb : Bool
  sbFb : Bool
  ebLimit : Bool
  sbLimit : Bool
  windCap : Option Nat
  certCap : Option Nat
  envelope : Nat
  overS : Nat
  warning : Bool
  rollaway : Option Int
  dirWatch : Option DirWatch
  causes : List CauseEntry
  overflow : Bool
  lastService : Option ServiceCause
  lastTrip : Option LastTrip
  railOrder : PerCar RailOrder
  orderClears : PerCar Bool
  serviceCount : Nat
  tripCount : Nat
  deriving DecidableEq, Repr

/-! ### The brake test scheduler (chapter 06) -/

/-- One obligation's elapsed minutes, debt, and the effective interval formed at the last minute (R117). -/
structure Obligation where
  elapsed : Nat
  debt : Int
  effective : Nat
  deriving DecidableEq, Repr

/-- Stage of a test in hand. -/
inductive TestStage where
  | applying | window | releasing | creep | braking | ending
  deriving DecidableEq, Repr

/-- Result of a test (R119, R122). -/
inductive TestResult where
  | pass | fail | aborted
  deriving DecidableEq, Repr

/-- The last test record (R121). -/
structure TestRecord where
  kind : TestKind
  result : TestResult
  movement : Nat
  debt : Int
  deriving DecidableEq, Repr

/-- The brake test scheduler. -/
structure Sched where
  obligations : PerTest Obligation
  test : Option (TestKind × TestStage)
  anchor : Int
  creepStart : Int
  orderAnchor : Int
  windowLimit : Bool
  creepLimit : Bool
  brakeLimit : Bool
  targets : PerCar Berth
  largest : Nat
  lastTest : Option TestRecord
  deriving DecidableEq, Repr

/-! ### The track line controller (chapter 07) -/

/-- Track line phase. -/
inductive TrackPhase where
  | free | select | command | status | jammed
  deriving DecidableEq, Repr

/-- Turn kind (R135). -/
inductive TurnKind where
  | poll | identify
  deriving DecidableEq, Repr

/-- The turn in hand. -/
structure Turn where
  car : Car
  kind : TurnKind
  deriving DecidableEq, Repr

/-- Car link state (R143). -/
inductive Link where
  | down | listen | ability | confirm | complete | check | mismatch
  deriving DecidableEq, Repr

/-- A command block (R152, R153), before its check byte. -/
structure CommandBlock where
  car : Car
  line : LineState
  number : Nat
  dir : Dir
  next : Option Berth
  release : PerSide Byte
  close : PerSide Bool
  order : RailOrder
  railTest : Bool
  standstill : Bool
  confirm : Bool
  digest : Byte
  deriving DecidableEq, Repr

/-- The state a status block reports of one leaf (R152). -/
inductive LeafState where
  | absent | locked | closed | moving | open | obstructed | fault
  deriving DecidableEq, Repr

/-- A valid status block's contents (R152). -/
structure StatusBlock where
  leaves : PerSide (Six LeafState)
  boarded : Byte
  alighted : Byte
  alarm : Bool
  overspeed : Bool
  railApplied : Bool
  ack : Bool
  deriving DecidableEq, Repr

/-- What the part last sent on the track line. -/
inductive TrackTx where
  | none
  | selection (t : Turn)
  | command (c : CommandBlock)
  deriving DecidableEq, Repr

/-- The per-car state of the track line controller. `fresh` is the freshness, its one-shot limit running exactly while FRESH. -/
structure CarLink where
  link : Link
  refusals : Nat
  window : Bool
  silence : Bool
  fresh : Bool
  block : Option StatusBlock
  reported : Option Ability
  ability : Option Ability
  baselines : Option (Byte × Byte)
  missed : Nat
  missedOverflow : Bool
  calls : Nat
  deriving DecidableEq, Repr

/-- The track line controller. `quiet` says that the quiet time has reached FREE_INTERVAL; `othersDrive` that another participant
drives the line, `unheard` that the last drive of another participant in the turn has overlapped one of the part's, so that no answer
in it is heard (R136). -/
structure Track where
  phase : TrackPhase
  quiet : Bool
  othersDrive : Bool
  unheard : Bool
  driveLimit : Bool
  nextTurn : Car
  owed : Option Car
  outOfTurn : List Car
  turn : Option Turn
  acceptLimit : Bool
  answerLimit : Bool
  sent : TrackTx
  cars : PerCar CarLink
  jams : Nat
  deriving DecidableEq, Repr

/-! ### The door controller (chapter 08) -/

/-- A leaf record (R160). -/
inductive LeafRecord where
  | absent | unreported | locked | closed | moving | open | obstructed | fault
  deriving DecidableEq, Repr

/-- A car's alignment (R164). -/
inductive Alignment where
  | none | aligned | misaligned
  deriving DecidableEq, Repr

/-- Origin of a release grant (R165). -/
inductive GrantOrigin where
  | request (p : Port)
  | auto
  deriving DecidableEq, Repr

/-- A release grant for one car and side (R165). -/
structure Grant where
  berth : Berth
  set : Byte
  number : Nat
  origin : GrantOrigin
  deriving DecidableEq, Repr

/-- The per-car state of the door controller. -/
structure CarDoors where
  leaves : PerSide (Six LeafRecord)
  alignment : Alignment
  grants : PerSide (Option Grant)
  close : PerSide Bool
  marks : PerSide Byte
  deriving DecidableEq, Repr

/-! ### The boarding controller (chapter 09) -/

/-- The boarding state of a berth (R178). -/
inductive BoardingState where
  | closed | armed | open | closing | sealed
  deriving DecidableEq, Repr

/-- A pending admission (R190): its gate as an index 0 to 15 of the GATES table, its group, and its window end in the part's
microsecond time. -/
structure Pending where
  gate : Nat
  group : Nat
  windowEnd : Nat
  deriving DecidableEq, Repr

/-- The per-berth state of the boarding controller. -/
structure BerthBoard where
  state : BoardingState
  pen : Nat
  alighting : Nat
  pending : List Pending
  quotaRefused : Nat
  late : Nat
  excess : Nat
  deriving DecidableEq, Repr

/-- The per-car state of the boarding controller. -/
structure CarBoard where
  onboard : Nat
  uncertain : Bool
  deriving DecidableEq, Repr

/-- The boarding controller. -/
structure Board where
  berths : PerBerth BerthBoard
  cars : PerCar CarBoard
  deriving DecidableEq, Repr

/-! ### The link interface (chapter 10) -/

/-- Receiver state (R206). -/
inductive Receiver where
  | hunt | kind | length | body | check
  deriving DecidableEq, Repr

/-- A complete request frame: its kind and body (R205). -/
structure Frame where
  kind : Byte
  body : List Byte
  deriving DecidableEq, Repr

/-- Result codes (R211). -/
inductive Result where
  | done | accepted | granted | late
  | notPermitted | wrongState | badArgument | busy | tablesInvalid | interlock | quota | rule | gateBusy | alreadyHeld | notHeld
  | restricted | weather | badTable | notServing | boardingClosed
  deriving DecidableEq, Repr

/-- Reasons of BAD_TABLE (R11). -/
inductive TableReason where
  | range | missing | order | coverage | zone | mirror | digest | duplicate | noHeader
  deriving DecidableEq, Repr

/-- Reasons of DOOR RELEASE's INTERLOCK (R166). -/
inductive DoorReason where
  | noCar | alignment | standstill | brake | noPlatform | link | noLeaf
  deriving DecidableEq, Repr

/-- A notice set: code k of R212 at bit k. -/
abbrev NoticeSet := BitVec 20

/-- Section 0 LINE of STATUS READ (R216). -/
structure LineSection where
  line : LineState
  mode : Mode
  parkedBerth : Option Berth
  number : Nat
  record : Option TripRecord
  stage : Option DispatchStage
  stop : StopKind
  holdCause : Option HoldCause
  slot : Option HoldSlot
  consentLower : Bool
  consentUpper : Bool
  temp : Option Int
  wind : Nat
  stale : Bool
  deriving DecidableEq, Repr

/-- Section 1 MOTION of STATUS READ (R216). -/
structure MotionSection where
  certainty : Certainty
  coord : Int
  position : PerCar Int
  vSup : Nat
  ropeDir : Dir
  flag : Bool
  sRef : Int
  envelope : Nat
  windCap : Option Nat
  certCap : Option Nat
  ebRel : Bool
  sbRel : Bool
  drvEn : Bool
  ebFb : Bool
  sbFb : Bool
  railOrder : PerCar RailOrder
  lastService : Option ServiceCause
  deriving DecidableEq, Repr

/-- Section 2 CAUSES of STATUS READ (R216). -/
structure CausesSection where
  causes : List CauseEntry
  overflow : Bool
  lastTrip : Option LastTrip
  deriving DecidableEq, Repr

/-- Sections 3 and 4 DOORS of STATUS READ (R176, R216). -/
structure DoorsSection where
  alignment : Alignment
  stale : Bool
  secure : Bool
  notLocked : Nat
  grants : PerSide (Option Grant)
  close : PerSide Bool
  marks : PerSide Byte
  leaves : PerSide (Six LeafRecord)
  reported : Option Ability
  deriving DecidableEq, Repr

/-- One berth's figures in section 5 (R200). -/
structure BerthFigures where
  state : BoardingState
  pen : Nat
  alighting : Nat
  reserved : Nat
  pending : Nat
  quota : Nat
  deriving DecidableEq, Repr

/-- Section 5 PLATFORMS of STATUS READ (R216). -/
structure PlatformsSection where
  link : PerCar Link
  jammed : Bool
  cars : PerCar CarBoard
  berths : PerBerth BerthFigures
  deriving DecidableEq, Repr

/-- Section 6 OBLIGATIONS of STATUS READ (R216). -/
structure ObligationsSection where
  obligations : PerTest Obligation
  test : Option (TestKind × TestStage)
  lastTest : Option TestRecord
  deriving DecidableEq, Repr

/-- Error report of a port (R207). -/
inductive ErrorReport where
  | armed | spent
  deriving DecidableEq, Repr

/-- Section 7 NOTICES of STATUS READ (R216). -/
structure NoticesSection where
  enables : NoticeSet
  normal : Bool
  abnormal : Bool
  attention : Bool
  report : ErrorReport
  deriving DecidableEq, Repr

/-- The contents of a section of STATUS READ. -/
inductive SectionData where
  | line (d : LineSection)
  | motion (d : MotionSection)
  | causes (d : CausesSection)
  | doors (d : DoorsSection)
  | platforms (d : PlatformsSection)
  | obligations (d : ObligationsSection)
  | notices (d : NoticesSection)
  deriving DecidableEq, Repr

/-- The data after an answer's result code (R211). -/
inductive ReplyData where
  | none
  | line (l : LineState)
  | tableFault (table : TableId) (index : Nat) (reason : TableReason)
  | withdrawn (sections berths markers : Bool)
  | entries (table : TableId) (first : Nat) (list : List (List Byte))
  | run (number : Nat) (targetA targetB : Berth) (speed : Nat)
  | weather (temp : Int) (wind : Nat)
  | doorReason (r : DoorReason)
  | grant (x : Car) (side : Side) (set : Byte)
  | closeOrders (orders : PerCar (PerSide Bool))
  | boarding (state : BoardingState) (quota : Nat)
  | boardingState (state : BoardingState)
  | quota (n : Nat)
  | admitted (b : Berth) (group window quota : Nat)
  | counted (b : Berth) (n : Nat)
  | notices (flags : NoticeSet)
  | enables (set : NoticeSet) (normal abnormal : Bool)
  | counts (bytes : List Byte)
  | snapshot (number : Nat) (flags : NoticeSet) (data : SectionData)
  deriving DecidableEq, Repr

/-- What an owner answers to a request: the result and its data. -/
structure Reply where
  code : Result
  data : ReplyData
  deriving DecidableEq, Repr

/-- An answer frame in transmission on a port's TXD (R204, R211). -/
structure Answer where
  kind : Byte
  reply : Reply
  deriving DecidableEq, Repr

/-- The link interface's state of one port. `strap` is the rate strap input, `rate` the rate taken from it at power-on (R203, R218);
`answer` is the answer in transmission of the frame in the executing slot; `waitHigh` says that after a FRAMING error the line has not yet
read high (R203). -/
structure PortState where
  rx : Receiver
  kind : Byte
  len : Nat
  body : List Byte
  gap : Bool
  waitHigh : Bool
  executing : Option Frame
  answer : Option Answer
  waiting : Option Frame
  parity : Nat
  framing : Nat
  gaps : Nat
  check : Nat
  overrun : Nat
  report : ErrorReport
  flags : NoticeSet
  enables : NoticeSet
  normal : Bool
  abnormal : Bool
  strap : Rate
  rate : Rate
  deriving DecidableEq, Repr

/-! ### The whole part -/

/-- The part: its nine blocks, its microsecond time, and the queue of commands that wait, first in first out. -/
structure State where
  tables : Tables
  rope : Rope
  trip : Trip
  sup : Sup
  sched : Sched
  track : Track
  doors : PerCar CarDoors
  board : Board
  links : PerPort PortState
  now : Nat
  pending : List Instr
  deriving DecidableEq, Repr

/-- Reasons a step stops with a fault. The spec gives every command of the table an effect or says that it changes nothing, so the
part has no fault and this type has no constructor. -/
inductive Fault where
  deriving DecidableEq, Repr

/-- Reasons a step is refused. -/
inductive Refusal where
  /-- Raised by `exec` for a command that has no meaning yet; no arm raises it now. Safe: the machine stops. -/
  | notModelled (mnemonic : String)
  deriving DecidableEq, Repr

/-! ### The state after power-on -/

/-- A channel at power-on (R40), its phase lines low. -/
def ChanState.reset : ChanState :=
  { count := 0, levelA := false, levelB := false, periods := [], restart := true, last := none, gap := true, errors := 0 }

/-- The table store at power-on (R18). -/
def Tables.reset : Tables :=
  { header := none, sections := none, berths := none, markers := none, cars := none, gates := none, rules := [], rulesMark := false,
    staging := none }

/-- The rope measurement unit at power-on (R40), the marker inputs inactive. -/
def Rope.reset : Rope :=
  { chans := ⟨.reset, .reset⟩, base := 0, base2 := 0, offs := ⟨0, 0⟩, dir := .up, disagree := 0, flag := false, sRef := 0, dwell := true,
    certainty := .unknown, switches := ⟨false, false, false, false⟩, frees := ⟨false, false, false, false⟩, spurious := 0 }

/-- The learned stop offsets at power-on and after a BERTHS commit (R77). -/
def offsetsReset : PerCar (PerBerth ByArrival) :=
  ⟨⟨⟨0, 0⟩, ⟨0, 0⟩, ⟨0, 0⟩, ⟨0, 0⟩⟩, ⟨⟨0, 0⟩, ⟨0, 0⟩, ⟨0, 0⟩, ⟨0, 0⟩⟩⟩

/-- The trip controller at power-on (R58), with the power-on setpoint frame sent (R71). -/
def Trip.reset : Trip :=
  { line := .closed, mode := .normal, number := 0, record := none, stage := none, dispatchLimit := false, stop := .none,
    holdCause := none, slot := none, offsets := offsetsReset, forming := 0, held := 0, stepping := false, distances := false, frameCount := 0,
    frame := ⟨.up, 0, 0, 0⟩, moveStart := 0, resumeRelease := false, moveRelease := false, parkedBerth := none, origin := .none,
    consentLower := false, consentUpper := false, weather := ⟨none, 1, true, false⟩ }

/-- The speed supervisor at power-on (R115), both brakes reporting applied. -/
def Sup.reset : Sup :=
  { ebRel := false, sbRel := false, drvEn := false, ebFb := false, sbFb := false, ebLimit := false, sbLimit := false,
    windCap := none, certCap := none, envelope := 0, overS := 0, warning := false, rollaway := none, dirWatch := none, causes := [],
    overflow := false, lastService := none, lastTrip := none, railOrder := ⟨.none, .none⟩, orderClears := ⟨false, false⟩,
    serviceCount := 0, tripCount := 0 }

/-- The brake test scheduler at power-on (R133). The effective intervals are those of 6.6: halved, since the weather is stale. -/
def Sched.reset : Sched :=
  { obligations := ⟨⟨0, 3, Config.ebInterval / 2⟩, ⟨0, 3, Config.railInterval / 2⟩, ⟨0, 3, Config.railInterval / 2⟩⟩, test := none,
    anchor := 0, creepStart := 0, orderAnchor := 0, windowLimit := false, creepLimit := false, brakeLimit := false,
    targets := ⟨.b0, .b3⟩, largest := 0, lastTest := none }

/-- One car's link at power-on (R158). -/
def CarLink.reset : CarLink :=
  { link := .down, refusals := 0, window := false, silence := false, fresh := false, block := none, reported := none, ability := none,
    baselines := none, missed := 0, missedOverflow := false, calls := 0 }

/-- The track line controller at power-on (R158). -/
def Track.reset : Track :=
  { phase := .free, quiet := false, othersDrive := false, unheard := false, driveLimit := false, nextTurn := .a, owed := none, outOfTurn := [],
    turn := none, acceptLimit := false, answerLimit := false, sent := .none, cars := ⟨.reset, .reset⟩, jams := 0 }

/-- One car's doors at power-on (R177). -/
def CarDoors.reset : CarDoors :=
  { leaves := ⟨.ofFn fun _ => .absent, .ofFn fun _ => .absent⟩, alignment := .none, grants := ⟨none, none⟩, close := ⟨false, false⟩,
    marks := ⟨0, 0⟩ }

/-- One berth's boarding at power-on (R201). -/
def BerthBoard.reset : BerthBoard :=
  { state := .closed, pen := 0, alighting := 0, pending := [], quotaRefused := 0, late := 0, excess := 0 }

/-- The boarding controller at power-on (R201). -/
def Board.reset : Board :=
  { berths := ⟨.reset, .reset, .reset, .reset⟩, cars := ⟨⟨0, true⟩, ⟨0, true⟩⟩ }

/-- One port at power-on (R218), with its strap: only the RESET notice (code 19) is set. -/
def PortState.reset (strap : Rate) : PortState :=
  { rx := .hunt, kind := 0, len := 0, body := [], gap := false, waitHigh := false, executing := none, answer := none, waiting := none, parity := 0,
    framing := 0, gaps := 0, check := 0, overrun := 0, report := .armed, flags := 1#20 <<< 19, enables := 0, normal := false,
    abnormal := false, strap := strap, rate := strap }

/-- The machine right after power-on, with the inputs that Config names and no command waiting. -/
def State.reset : State :=
  { tables := .reset, rope := .reset, trip := .reset, sup := .reset, sched := .reset, track := .reset, doors := ⟨.reset, .reset⟩,
    board := .reset,
    links := ⟨.reset Config.resetStrap, .reset Config.resetStrap, .reset Config.resetStrap⟩, now := 0, pending := [] }

end Sys2Proof.Machine
end

