-- ==== Sys2Proof/Machine/Arith.lean ====
section
/-! DEFINITION. The manual's integer arithmetic (00_scope, "Arithmetic"), its byte order and its CRC-8, as functions the kernel can
evaluate. -/

namespace Sys2Proof.Machine

/-- The largest r whose square is at most n, bit by bit from bit `k - 1` down, above the root `r` already found. -/
def isqrtBits : Nat → Nat → Nat → Nat
  | 0, _, r => r
  | k + 1, n, r => if (r + 2 ^ k) * (r + 2 ^ k) ≤ n then isqrtBits k n (r + 2 ^ k) else isqrtBits k n r

/-- isqrt(n), exact for every n below 2^80; the part forms none at or above 1.7 × 10^10 (R95). -/
def isqrt (n : Nat) : Nat := isqrtBits 40 n 0

/-- round_half_away(n / d): the nearest integer, halves away from zero. -/
def roundHalfAway (n : Int) (d : Nat) : Int :=
  if n < 0 then -(((2 * n.natAbs + d) / (2 * d) : Nat) : Int) else (((2 * n.natAbs + d) / (2 * d) : Nat) : Int)

/-- Clamp x to lo..hi. -/
def clamp (lo hi x : Int) : Int := max lo (min hi x)

/-- A saturating counter's increment by k: it stops at `top`. -/
def satAdd (top n k : Nat) : Nat := min top (n + k)

/-- The least of a value and a list of values. -/
def leastOf (n : Nat) (l : List Nat) : Nat := l.foldl min n

/-- Magnitude of an Int as a Nat. -/
def distance (a b : Int) : Nat := (a - b).natAbs

/-- An unsigned field, most significant byte first. -/
def beNat (l : List Byte) : Nat := l.foldl (fun n b => n * 256 + b.toNat) 0

/-- `k` bytes of a value, most significant byte first. -/
def beBytes : Nat → Nat → List Byte
  | 0, _ => []
  | k + 1, n => BitVec.ofNat 8 (n / 256 ^ k) :: beBytes k n

/-- A two's complement field of `bits` bits. -/
def signed (bits n : Nat) : Int := if n < 2 ^ (bits - 1) then (n : Int) else (n : Int) - ((2 ^ bits : Nat) : Int)

/-- Four bytes of a possibly negative value in two's complement. -/
def beSigned4 (n : Int) : List Byte := beBytes 4 (n % 4294967296).toNat

/-- The field of `w` bytes at offset `off` of an entry. -/
def fieldAt (e : List Byte) (off w : Nat) : Nat := beNat ((e.drop off).take w)

/-- The byte at offset `off`, 0 past the end. -/
def byteAt (e : List Byte) (off : Nat) : Byte := e.getD off 0

/-- One byte of a small value. -/
def byteOf (n : Nat) : Byte := BitVec.ofNat 8 n

def boolByte (b : Bool) : Byte := if b then 1 else 0

/-- `k` steps of the CRC-8 division by x⁸ + x² + x + 1, most significant bit first (R205). -/
def crcBits : Nat → Byte → Byte
  | 0, c => c
  | k + 1, c => crcBits k (if c.msb then (c <<< 1) ^^^ 0x07#8 else c <<< 1)

/-- The CRC-8 of R72, R138 and R205: initial value 0, no final inversion. -/
def crc8 (l : List Byte) : Byte := l.foldl (fun c b => crcBits 8 (c ^^^ b)) 0

/-- Whether the member at bit `k` is in a set sent as one byte (section 1.1). -/
def memberAt (set : Byte) (k : Nat) : Bool := set.getLsbD k

end Sys2Proof.Machine
end

