-- ==== Sys2Proof/Machine/Flags.lean ====
section
/-! DEFINITION. Notices, notice flags, attention lines and link errors (sections 10.2 and 10.6). -/

namespace Sys2Proof.Machine

/-- The twenty notices of R212. -/
inductive Notice where
  | lineState | berthed | envelopeWarning | testDone | obligationDue | latePassage | quotaFull | linkErrors | weatherStale
  | serviceStop | trip | dispatchTimeout | testFailed | restricted | carLink | position | passengerAlarm | doorUnauthorised
  | countUncertain | reset
  deriving DecidableEq, Repr

/-- Notice codes (R212). -/
def Notice.code : Notice → Nat
  | .lineState => 0
  | .berthed => 1
  | .envelopeWarning => 2
  | .testDone => 3
  | .obligationDue => 4
  | .latePassage => 5
  | .quotaFull => 6
  | .linkErrors => 7
  | .weatherStale => 8
  | .serviceStop => 9
  | .trip => 10
  | .dispatchTimeout => 11
  | .testFailed => 12
  | .restricted => 13
  | .carLink => 14
  | .position => 15
  | .passengerAlarm => 16
  | .doorUnauthorised => 17
  | .countUncertain => 18
  | .reset => 19

/-- The set of one notice. -/
def Notice.bit (n : Notice) : NoticeSet := 1#20 <<< n.code

/-- The notices of class normal: codes 0 to 8 (R212). -/
def normalNotices : NoticeSet := 0x001FF#20

/-- The notices of class abnormal: codes 9 to 19 (R212). -/
def abnormalNotices : NoticeSet := 0xFFE00#20

/-- A port's attention line (R215): asserted while an enabled summary has a notice with both its flag and its enable on. -/
def PortState.attention (q : PortState) : Bool :=
  (q.normal && (q.flags &&& q.enables &&& normalNotices) != 0) || (q.abnormal && (q.flags &&& q.enables &&& abnormalNotices) != 0)

/-- A port with one more flag set (R213); a flag already set stays set. -/
def PortState.raise (q : PortState) (n : Notice) : PortState := { q with flags := q.flags ||| n.bit }

/-- Replace one port's state. -/
def State.setPort (s : State) (p : Port) (q : PortState) : State := { s with links := s.links.set p q }

/-- Raise a notice on one port. -/
def raiseOn (n : Notice) (p : Port) (s : State) : State := s.setPort p ((s.links.get p).raise n)

/-- Raise a notice on all three ports. -/
def raiseAll (n : Notice) (s : State) : State := { s with links := s.links.map (fun q => q.raise n) }

/-- The five error counters of a port (R207). -/
inductive LinkError where
  | parity | framing | gap | check | overrun
  deriving DecidableEq, Repr

/-- A port with one error counted, saturating at 255 (R207). -/
def PortState.count (q : PortState) : LinkError → PortState
  | .parity => { q with parity := satAdd 255 q.parity 1 }
  | .framing => { q with framing := satAdd 255 q.framing 1 }
  | .gap => { q with gaps := satAdd 255 q.gaps 1 }
  | .check => { q with check := satAdd 255 q.check 1 }
  | .overrun => { q with overrun := satAdd 255 q.overrun 1 }

/-- A link error of a port (R207): the counter increments and, where the error report is ARMED, LINK_ERRORS is raised on all three
ports and the report becomes SPENT. -/
def linkError (p : Port) (e : LinkError) (s : State) : State :=
  match (s.links.get p).report with
  | .armed => raiseAll .linkErrors (s.setPort p { (s.links.get p).count e with report := .spent })
  | .spent => s.setPort p ((s.links.get p).count e)

/-- A notice set from its three bytes, or none where it names a code above 19 (R212, R214). -/
def noticeSetOf (x y z : Byte) : Option NoticeSet :=
  if z.toNat < 16 then some (BitVec.ofNat 20 (z.toNat * 65536 + y.toNat * 256 + x.toNat)) else none

/-- The three bytes of a notice set (R212). -/
def noticeBytes (n : NoticeSet) : List Byte :=
  [BitVec.ofNat 8 n.toNat, BitVec.ofNat 8 (n.toNat / 256), BitVec.ofNat 8 (n.toNat / 65536)]

end Sys2Proof.Machine
end

