-- ==== Sys2Proof/Machine/Operands.lean ====
section
/-! DEFINITION. The forms operands and answers take on the wires: codes and sets (R42, R152, R211), frames and characters
(R203, R205), table entries (section 1.1), track line transmissions (R152), setpoint frames (R72). -/

namespace Sys2Proof

/-! ### Names and their codes -/

def Berth.ofCode : Nat → Option Berth
  | 0 => some .b0
  | 1 => some .b1
  | 2 => some .b2
  | 3 => some .b3
  | _ => none

def Berth.idx : Berth → Nat
  | .b0 => 0
  | .b1 => 1
  | .b2 => 2
  | .b3 => 3

/-- The mirror berth: berth k mirrors berth 3 - k. -/
def Berth.mirror : Berth → Berth
  | .b0 => .b3
  | .b1 => .b2
  | .b2 => .b1
  | .b3 => .b0

def Berth.isTerminus : Berth → Bool
  | .b0 => true
  | .b3 => true
  | _ => false

def berthList : List Berth := [.b0, .b1, .b2, .b3]

/-- The station port that serves a berth: LS serves B0 and B1, US serves B2 and B3 (R209). -/
def Berth.station : Berth → Port
  | .b0 => .ls
  | .b1 => .ls
  | .b2 => .us
  | .b3 => .us

def Car.other : Car → Car
  | .a => .b
  | .b => .a

/-- Track line address of a car (00_scope). -/
def Car.address : Car → Byte
  | .a => 1
  | .b => 2

/-- The accept code of a car (R152). -/
def Car.acceptCode : Car → Byte
  | .a => 0x61
  | .b => 0x62

/-- The call code of a car (R152). -/
def Car.callCode : Car → Byte
  | .a => 0x71
  | .b => 0x72

/-- The place of a side in a set of sides: LEFT 1, RIGHT 2, as bits 0 and 1. -/
def Side.bit : Side → Nat
  | .left => 0
  | .right => 1

def sideList : List Side := [.left, .right]

def carList : List Car := [.a, .b]

/-- A set of sides from its byte. -/
def sidesOf (b : Byte) : List Side := sideList.filter (fun d => b.getLsbD d.bit)

end Sys2Proof

namespace Sys2Proof.Machine

/-- Line state code (R42). -/
def LineState.code : LineState → Nat
  | .closed => 0
  | .parked => 1
  | .dispatch => 2
  | .running _ => 3
  | .held => 4
  | .tripped => 5
  | .recovery _ => 6
  | .testing _ => 7

def Phase.code : Phase → Nat
  | .accel => 1
  | .cruise => 2
  | .decel => 3
  | .creep => 4
  | .stopping => 5
  | .holding => 6

def TestKind.code : TestKind → Nat
  | .eb => 1
  | .railA => 2
  | .railB => 3

/-- Sub-state code (R42): a RUNNING phase, a RECOVERY sub-state, a TESTING kind, otherwise 0. -/
def LineState.subCode : LineState → Nat
  | .running ph => ph.code
  | .recovery m => if m then 1 else 0
  | .testing k => k.code
  | _ => 0

def Mode.ofCode : Nat → Option Mode
  | 0 => some .normal
  | 1 => some .reduced
  | 2 => some .inspection
  | _ => none

def Dir.ofCode : Nat → Option Dir
  | 0 => some .up
  | 1 => some .down
  | _ => none

def Dir.code : Dir → Nat
  | .up => 0
  | .down => 1

/-- Whether a car ascends when the rope travels in this direction. -/
def Dir.ascends : Dir → Car → Bool
  | .up, .a => true
  | .up, .b => false
  | .down, .a => false
  | .down, .b => true

/-- Result codes (R211). -/
def Result.code : Result → Byte
  | .done => 0x00
  | .accepted => 0x01
  | .granted => 0x02
  | .late => 0x03
  | .notPermitted => 0x40
  | .wrongState => 0x41
  | .badArgument => 0x42
  | .busy => 0x43
  | .tablesInvalid => 0x44
  | .interlock => 0x45
  | .quota => 0x46
  | .rule => 0x47
  | .gateBusy => 0x48
  | .alreadyHeld => 0x49
  | .notHeld => 0x4A
  | .restricted => 0x4B
  | .weather => 0x4C
  | .badTable => 0x4D
  | .notServing => 0x4E
  | .boardingClosed => 0x4F

/-- BAD_TABLE reason codes (R11). -/
def TableReason.code : TableReason → Byte
  | .range => 1
  | .missing => 2
  | .order => 3
  | .coverage => 4
  | .zone => 5
  | .mirror => 6
  | .digest => 7
  | .duplicate => 8
  | .noHeader => 9

/-- DOOR RELEASE reason codes (R166). -/
def DoorReason.code : DoorReason → Byte
  | .noCar => 1
  | .alignment => 2
  | .standstill => 3
  | .brake => 4
  | .noPlatform => 5
  | .link => 6
  | .noLeaf => 7

def BoardingState.code : BoardingState → Byte
  | .closed => 0
  | .armed => 1
  | .open => 2
  | .closing => 3
  | .sealed => 4

/-! ### Tables (section 1.1) -/

def TableId.ofCode : Nat → Option TableId
  | 1 => some .line
  | 2 => some .sections
  | 3 => some .berths
  | 4 => some .markers
  | 5 => some .cars
  | 6 => some .gates
  | 7 => some .rules
  | _ => none

def TableId.code : TableId → Byte
  | .line => 1
  | .sections => 2
  | .berths => 3
  | .markers => 4
  | .cars => 5
  | .gates => 6
  | .rules => 7

/-- Bytes of one entry. -/
def TableId.entrySize : TableId → Nat
  | .line => 4
  | .sections => 10
  | .berths => 16
  | .markers => 8
  | .cars => 13
  | .gates => 2
  | .rules => 5

/-- Largest index plus one (R10). -/
def TableId.maxEntries : TableId → Nat
  | .line => 21
  | .sections => 32
  | .berths => 4
  | .markers => 4
  | .cars => 2
  | .gates => 16
  | .rules => 16

/-- Least number of entries at a commit (R11). -/
def TableId.minEntries : TableId → Nat
  | .line => 21
  | .sections => 1
  | .berths => 4
  | .markers => 0
  | .cars => 2
  | .gates => 16
  | .rules => 0

def SectionEntry.ofBytes (e : List Byte) : SectionEntry := ⟨fieldAt e 0 4, fieldAt e 4 4, fieldAt e 8 2⟩

def SectionEntry.bytes (x : SectionEntry) : List Byte := beBytes 4 x.start ++ beBytes 4 x.stop ++ beBytes 2 x.limit

def BerthEntry.ofBytes (e : List Byte) : BerthEntry :=
  { position := fieldAt e 0 4, zoneLo := signed 32 (fieldAt e 4 4), zoneHi := signed 32 (fieldAt e 8 4), sides := byteAt e 12,
    first := fieldAt e 13 1, last := fieldAt e 14 1, autoRelease := fieldAt e 15 1 }

def BerthEntry.bytes (x : BerthEntry) : List Byte :=
  beBytes 4 x.position ++ beSigned4 x.zoneLo ++ beSigned4 x.zoneHi ++ [x.sides, byteOf x.first, byteOf x.last, byteOf x.autoRelease]

def MarkerEntry.ofBytes (e : List Byte) : MarkerEntry := ⟨fieldAt e 0 1, fieldAt e 1 4, fieldAt e 5 1, fieldAt e 6 2⟩

def MarkerEntry.bytes (x : MarkerEntry) : List Byte :=
  byteOf x.input :: beBytes 4 x.position ++ byteOf x.car :: beBytes 2 x.window

/-- The thirteen bytes of an ability record (R6). -/
def Ability.ofBytes (e : List Byte) : Ability :=
  { identity := fieldAt e 0 2, count := fieldAt e 2 1, capacities := .ofFn fun k => byteAt e (3 + k), left := byteAt e 9,
    right := byteAt e 10, railKind := byteAt e 11, digest := byteAt e 12 }

/-- The twelve bytes an ability digest sums. -/
def Ability.bytes12 (x : Ability) : List Byte :=
  beBytes 2 x.identity ++ byteOf x.count :: x.capacities.toList ++ [x.left, x.right, x.railKind]

def Ability.bytes (x : Ability) : List Byte := x.bytes12 ++ [x.digest]

/-- The sum modulo 256 of the twelve bytes before the digest (R6). -/
def Ability.sum (x : Ability) : Byte := x.bytes12.foldl (· + ·) 0

/-- A car's capacity: the sum of its compartment capacities (R6). -/
def Ability.capacity (x : Ability) : Nat := (x.capacities.toList.map BitVec.toNat).sum

/-- The compartment set of leaves present on a side. -/
def Ability.leaves (x : Ability) : Side → Byte
  | .left => x.left
  | .right => x.right

def GateEntry.ofBytes (e : List Byte) : GateEntry := ⟨fieldAt e 0 1, fieldAt e 1 1⟩

def GateEntry.bytes (x : GateEntry) : List Byte := [byteOf x.kind, byteOf x.berth]

def RuleEntry.ofBytes (e : List Byte) : RuleEntry := ⟨byteAt e 0, byteAt e 1, byteAt e 2, fieldAt e 3 1, fieldAt e 4 1⟩

def RuleEntry.bytes (x : RuleEntry) : List Byte := [x.classValue, x.ignore, x.berths, byteOf x.action, byteOf x.limit]

/-- The LINE fields in index order (R1). -/
def Header.fields (h : Header) : List Int :=
  [h.lineLen, h.vLine, h.aAcc, h.aDec, h.aSb, h.vCr, h.dM, h.creepRun, h.scale, h.reducedCap, h.inspectionCap, h.uncertainCap,
   h.windCap1, h.windCap2, h.windCap3, h.ebInterval, h.railAInterval, h.railBInterval, h.coldLimit, h.passageWindow, h.alightAllow]

/-- A header from its fields in index order, before the clamp of R2. -/
def Header.ofFields (l : List Int) : Header :=
  { lineLen := (l.getD 0 0).toNat, vLine := (l.getD 1 0).toNat, aAcc := (l.getD 2 0).toNat, aDec := (l.getD 3 0).toNat,
    aSb := (l.getD 4 0).toNat, vCr := (l.getD 5 0).toNat, dM := (l.getD 6 0).toNat, creepRun := (l.getD 7 0).toNat,
    scale := (l.getD 8 0).toNat, reducedCap := (l.getD 9 0).toNat, inspectionCap := (l.getD 10 0).toNat,
    uncertainCap := (l.getD 11 0).toNat, windCap1 := (l.getD 12 0).toNat, windCap2 := (l.getD 13 0).toNat,
    windCap3 := (l.getD 14 0).toNat, ebInterval := (l.getD 15 0).toNat, railAInterval := (l.getD 16 0).toNat,
    railBInterval := (l.getD 17 0).toNat, coldLimit := l.getD 18 0, passageWindow := (l.getD 19 0).toNat,
    alightAllow := (l.getD 20 0).toNat }

/-- The active entries of a table as the bytes TABLE READ returns, or none where it holds no committed mark (R17). -/
def Tables.entryBytes (t : Tables) : TableId → Option (List (List Byte))
  | .line => t.header.map fun h => h.fields.map beSigned4
  | .sections => t.sections.map fun l => l.map SectionEntry.bytes
  | .berths => t.berths.map fun l => [l.b0.bytes, l.b1.bytes, l.b2.bytes, l.b3.bytes]
  | .markers => t.markers.map fun l => l.map MarkerEntry.bytes
  | .cars => t.cars.map fun l => [l.a.bytes, l.b.bytes]
  | .gates => t.gates.map fun l => l.map GateEntry.bytes
  | .rules => some (t.rules.map RuleEntry.bytes)

/-! ### Station link characters and frames -/

/-- The majority of a bit's three samples (R203). -/
def vote (x : BitVec 3) : Bool := (x.getLsbD 0 && x.getLsbD 1) || (x.getLsbD 1 && x.getLsbD 2) || (x.getLsbD 0 && x.getLsbD 2)

/-- How a received character is judged (R203). -/
inductive CharJudgement where
  | noise
  | framing
  | parity
  | good (b : Byte)
  deriving DecidableEq, Repr

/-- The number of ones among some bits. -/
def ones (l : List Bool) : Nat := (l.filter id).length

/-- The value of bits given least significant first. -/
def bitsValue : List Bool → Nat
  | [] => 0
  | b :: l => (if b then 1 else 0) + 2 * bitsValue l

/-- The judgement of eleven voted bits: start, eight data bits least significant first, parity, stop. A missing bit reads as the idle
line, high. -/
def judgeBits (l : List Bool) : CharJudgement :=
  if l.getD 0 true then .noise
  else if !l.getD 10 true then .framing
  else if ones ((l.drop 1).take 9) % 2 = 1 then .parity
  else .good (byteOf (bitsValue ((l.drop 1).take 8)))

/-- The judgement of a sampled character (R203). -/
def judgeChar (samples : List (BitVec 3)) : CharJudgement := judgeBits (samples.map vote)

/-- The data bits of a byte, least significant first. -/
def byteBits (b : Byte) : List Bool := (List.range 8).map (fun k => b.getLsbD k)

/-- The clean samples of a good character: every sample of a bit reads the bit (R203). -/
def charSamples (b : Byte) : List (BitVec 3) :=
  (false :: byteBits b ++ [decide (ones (byteBits b) % 2 = 1), true]).map fun v => if v then 7#3 else 0#3

/-- A frame as sent: sync, kind, length, body, check (R205). -/
def frameBytes (kind : Byte) (body : List Byte) : List Byte :=
  0xC3#8 :: kind :: byteOf body.length :: body ++ [crc8 (kind :: byteOf body.length :: body)]

/-! ### Setpoint frames -/

/-- The eight characters of a setpoint frame (R72). -/
def SetpointFrame.bytes (f : SetpointFrame) : List Byte :=
  0xA5#8 :: (byteOf f.dir.code :: beBytes 2 f.speed ++ beBytes 2 f.number ++ [byteOf f.count]) ++
    [crc8 (byteOf f.dir.code :: beBytes 2 f.speed ++ beBytes 2 f.number ++ [byteOf f.count])]

/-! ### Track line transmissions (R152) -/

def TurnKind.code : TurnKind → Byte
  | .poll => 0x5A
  | .identify => 0x5B

/-- Codes of the car link states (R143). -/
def Link.code : Link → Byte
  | .down => 0
  | .listen => 1
  | .ability => 2
  | .confirm => 3
  | .complete => 4
  | .check => 5
  | .mismatch => 6

/-- A character as sent: even parity over its data bits, and the stop bit 1 (R134). -/
def lineChar (b : Byte) : LineChar := ⟨b, decide (ones (byteBits b) % 2 = 1), true⟩

/-- Whether a character is free of character error (R134): its parity agrees and its stop bit reads 1. -/
def soundChar (c : LineChar) : Bool := c.stop && c.parity == decide (ones (byteBits c.data) % 2 = 1)

/-- The car whose ACCEPT a character is, where it is a valid one. -/
def acceptOf (c : LineChar) : Option Car := if soundChar c then carList.find? fun x => x.acceptCode == c.data else none

/-- The car whose call a character is, where it is a valid one (R140). -/
def callOf (c : LineChar) : Option Car := if soundChar c then carList.find? fun x => x.callCode == c.data else none

def RailOrder.code : RailOrder → Byte
  | .none => 0
  | .trip => 1
  | .test => 2

/-- The fourteen bytes of a command block. -/
def CommandBlock.bytes (c : CommandBlock) : List Byte :=
  let l := [c.car.address, byteOf c.line.code, byteOf c.line.subCode] ++ beBytes 2 c.number ++
    [byteOf c.dir.code, byteOf (match c.next with | some b => b.idx | none => 4), c.release.left, c.release.right,
     byteOf ((if c.close.left then 1 else 0) + (if c.close.right then 2 else 0)), c.order.code,
     byteOf ((if c.railTest then 1 else 0) + (if c.standstill then 2 else 0) + (if c.confirm then 4 else 0)), c.digest]
  l ++ [crc8 l]

/-- What the part sends, as bytes. -/
def TrackTx.bytes : TrackTx → List Byte
  | .none => []
  | .selection t => [t.kind.code, t.car.address]
  | .command c => c.bytes

/-- A leaf code; a code above 6 is kept as FAULT (R154). -/
def LeafState.ofCode : Nat → LeafState
  | 0 => .absent
  | 1 => .locked
  | 2 => .closed
  | 3 => .moving
  | 4 => .open
  | 5 => .obstructed
  | _ => .fault

def LeafState.code : LeafState → Byte
  | .absent => 0
  | .locked => 1
  | .closed => 2
  | .moving => 3
  | .open => 4
  | .obstructed => 5
  | .fault => 6

def Car.ofAddress (b : Byte) : Option Car :=
  if b = 1 then some .a else if b = 2 then some .b else none

/-- Whether the last byte of a transmission is the CRC-8 over the bytes before it (R138). -/
def checkHolds (l : List Byte) : Bool := crc8 l.dropLast = l.getLastD 0

/-- A status block's contents from its bytes. -/
def StatusBlock.ofBytes (l : List Byte) : StatusBlock :=
  { leaves := ⟨.ofFn fun k => LeafState.ofCode (byteAt l (1 + 2 * k)).toNat, .ofFn fun k => LeafState.ofCode (byteAt l (2 + 2 * k)).toNat⟩,
    boarded := byteAt l 13, alighted := byteAt l 14, alarm := memberAt (byteAt l 15) 0, overspeed := memberAt (byteAt l 15) 1,
    railApplied := memberAt (byteAt l 15) 2, ack := memberAt (byteAt l 15) 3 }

/-- The judgement of seventeen bytes as a status block from a car (R138): the length of its kind, the address, the check. -/
def parseStatus (x : Car) (l : List Byte) : Option StatusBlock :=
  if l.length = 17 ∧ byteAt l 0 = x.address ∧ checkHolds l then some (StatusBlock.ofBytes l) else none

/-- The bytes of a status block, as a car sends it (R152). -/
def statusBytes (x : Car) (k : StatusBlock) : List Byte :=
  let l := x.address ::
    ((k.leaves.left.toList.zip k.leaves.right.toList).flatMap fun p => [p.1.code, p.2.code]) ++
    [k.boarded, k.alighted,
     byteOf ((if k.alarm then 1 else 0) + (if k.overspeed then 2 else 0) + (if k.railApplied then 4 else 0) + (if k.ack then 8 else 0))]
  l ++ [crc8 l]

/-- The judgement of fifteen bytes as an ability record from a car (R138): address, check, and the digest of its twelve bytes. -/
def parseAbility (x : Car) (l : List Byte) : Option Ability :=
  let r := Ability.ofBytes ((l.drop 1).take 13)
  if l.length = 15 ∧ byteAt l 0 = x.address ∧ checkHolds l ∧ r.digest = r.sum then some r else none

/-- The bytes of an ability record, as a car sends it (R152). -/
def abilityBytes (x : Car) (r : Ability) : List Byte :=
  let l := x.address :: r.bytes
  l ++ [crc8 l]

/-- The bytes of some characters, where every one is free of character error (R138). -/
def soundBytes (l : List LineChar) : Option (List Byte) := if l.all soundChar then some (l.map fun c => c.data) else none

/-- The judgement of received characters as a status block from a car (R138). -/
def readStatus (x : Car) (l : List LineChar) : Option StatusBlock := (soundBytes l).bind (parseStatus x)

/-- The judgement of received characters as an ability record from a car (R138). -/
def readAbility (x : Car) (l : List LineChar) : Option Ability := (soundBytes l).bind (parseAbility x)

/-! ### Snapshots (R216)

The order is that of the table of R216, the widths are the figures' ranges, and an optional figure is a presence byte followed by the figure
where it is present (DESIGN CHOICE, log entry 9). The codes are the spec's where it gives one. -/

/-- A figure that may have no value: its presence, and its bytes where it has one. -/
def optBytes {α : Type} (f : α → List Byte) : Option α → List Byte
  | none => [0]
  | some v => 1 :: f v

/-- Bits in one byte, the first at bit 0. -/
def bitsByte (l : List Bool) : Byte := byteOf (bitsValue l)

/-- A possibly negative value in one byte. -/
def signedByte (n : Int) : Byte := byteOf (n % 256).toNat

/-- A berth, or 4 for none, as in a command block (R152). -/
def berthByte : Option Berth → Byte
  | some b => byteOf b.idx
  | none => 4

/-- Line mode code (R42). -/
def Mode.code : Mode → Byte
  | .normal => 0
  | .reduced => 1
  | .inspection => 2

def Certainty.code : Certainty → Byte
  | .unknown => 0
  | .uncertain => 1
  | .known => 2

def TripKind.code : TripKind → Byte
  | .run => 0
  | .recovery => 1

def Ending.code : Ending → Byte
  | .berthed => 1
  | .idle => 2
  | .cancelled => 3
  | .timedOut => 4
  | .tripped => 5

/-- A trip record's ending, 0 while it holds none. -/
def endingByte : Option Ending → Byte
  | some e => e.code
  | none => 0

def DispatchStage.code : DispatchStage → Byte
  | .waiting => 1
  | .releasing => 2

/-- The dispatch stage, 0 for none. -/
def stageByte : Option DispatchStage → Byte
  | some g => g.code
  | none => 0

def StopKind.code : StopKind → Byte
  | .none => 0
  | .profile => 1
  | .hold => 2
  | .service => 3

def portCode : Port → Byte
  | .d => 1
  | .ls => 2
  | .us => 3

/-- A port, 0 for none. -/
def portByte : Option Port → Byte
  | some p => portCode p
  | none => 0

/-- A hold cause with its port: the port of a request, 4 for an alarm, 5 for a service stop. -/
def HoldCause.code : HoldCause → Byte
  | .request p => portCode p
  | .alarm => 4
  | .service => 5

/-- A hold cause, 0 for none. -/
def holdCauseByte : Option HoldCause → Byte
  | some c => c.code
  | none => 0

/-- Trip cause codes as returned in STATUS READ (section 5.5). -/
def Cause.code : Cause → Byte
  | .envelopeExceeded => 1
  | .absoluteOverspeed => 2
  | .encoderDisagree => 3
  | .rollaway => 4
  | .doorZoneMovement => 5
  | .wrongDirection => 6
  | .endOverrun => 7
  | .carLinkLost => 8
  | .trackLineJammed => 9
  | .doorUnlockedMoving => 10
  | .carOverspeed => 11
  | .brakeFeedback => 12
  | .emergencyRequest => 13
  | .resetInMotion => 14

def ServiceCause.code : ServiceCause → Byte
  | .envelopeService => 1
  | .berthOverrun => 2

/-- The last service-stop cause, 0 for none. -/
def serviceByte : Option ServiceCause → Byte
  | some c => c.code
  | none => 0

/-- A leaf record: the leaf codes of the status block, with UNREPORTED as code 7 (R216). -/
def LeafRecord.code : LeafRecord → Byte
  | .absent => 0
  | .locked => 1
  | .closed => 2
  | .moving => 3
  | .open => 4
  | .obstructed => 5
  | .fault => 6
  | .unreported => 7

def Alignment.code : Alignment → Byte
  | .none => 0
  | .aligned => 1
  | .misaligned => 2

/-- A grant's origin: the port of a request, 4 for AUTO. -/
def GrantOrigin.code : GrantOrigin → Byte
  | .request p => portCode p
  | .auto => 4

/-- A grant, or 0 for none: its origin, berth, compartment set and trip number. -/
def grantBytes : Option Grant → List Byte
  | some g => g.origin.code :: byteOf g.berth.idx :: g.set :: beBytes 2 g.number
  | none => [0]

def TestStage.code : TestStage → Byte
  | .applying => 1
  | .window => 2
  | .releasing => 3
  | .creep => 4
  | .braking => 5
  | .ending => 6

/-- A test's result. -/
def TestResult.code : TestResult → Byte
  | .pass => 1
  | .fail => 2
  | .aborted => 3

def ErrorReport.code : ErrorReport → Byte
  | .armed => 0
  | .spent => 1

/-- One value per side in status block order: compartment 1 LEFT, compartment 1 RIGHT, and so on to compartment 6 RIGHT (R152). -/
def blockOrder {α : Type} (t : PerSide (Six α)) : List α :=
  (t.left.toList.zip t.right.toList).flatMap fun p => [p.1, p.2]

def TripRecord.bytes (r : TripRecord) : List Byte :=
  r.kind.code :: byteOf r.dir.code :: beBytes 2 r.speed ++
    [berthByte r.start, byteOf r.target.a.idx, byteOf r.target.b.idx, berthByte r.halt, endingByte r.ending]

def HoldSlot.bytes (h : HoldSlot) : List Byte :=
  beBytes 2 h.number ++ [byteOf h.dir.code, byteOf h.target.a.idx, byteOf h.target.b.idx] ++ beBytes 2 h.runCap ++ [h.cause.code]

def LineSection.bytes (d : LineSection) : List Byte :=
  [byteOf d.line.code, byteOf d.line.subCode, d.mode.code, berthByte d.parkedBerth] ++ beBytes 2 d.number ++
    optBytes TripRecord.bytes d.record ++ [stageByte d.stage, d.stop.code, holdCauseByte d.holdCause] ++
    optBytes HoldSlot.bytes d.slot ++ [bitsByte [d.consentLower, d.consentUpper]] ++
    optBytes (fun t => [signedByte t]) d.temp ++ [byteOf d.wind, boolByte d.stale]

/-- Section 1. The coordinates go in four bytes, modulo 2^32, which counts far out of the line's range exceed (DESIGN CHOICE, log entry 71). -/
def MotionSection.bytes (d : MotionSection) : List Byte :=
  d.certainty.code :: beSigned4 d.coord ++ beSigned4 d.position.a ++ beSigned4 d.position.b ++ beBytes 2 d.vSup ++
    [byteOf d.ropeDir.code, boolByte d.flag] ++ beSigned4 d.sRef ++ beBytes 2 d.envelope ++
    optBytes (beBytes 2) d.windCap ++ optBytes (beBytes 2) d.certCap ++
    [bitsByte [d.ebRel, d.sbRel, d.drvEn], bitsByte [d.ebFb, d.sbFb], d.railOrder.a.code, d.railOrder.b.code, serviceByte d.lastService]

/-- A cause list: the number of its entries, each with its cause and its port. -/
def causeBytes (l : List CauseEntry) : List Byte := byteOf l.length :: l.flatMap fun e => [e.cause.code, portByte e.port]

def LastTrip.bytes (r : LastTrip) : List Byte := beBytes 2 r.number ++ causeBytes r.causes ++ [boolByte r.overflow]

def CausesSection.bytes (d : CausesSection) : List Byte :=
  causeBytes d.causes ++ boolByte d.overflow :: optBytes LastTrip.bytes d.lastTrip

/-- Sections 3 and 4: the door summary (R176), then the twelve leaf records, then the reported ability. -/
def DoorsSection.bytes (d : DoorsSection) : List Byte :=
  [d.alignment.code, bitsByte [d.stale, d.secure], byteOf d.notLocked] ++ grantBytes d.grants.left ++ grantBytes d.grants.right ++
    [bitsByte [d.close.left, d.close.right], d.marks.left, d.marks.right] ++
    (blockOrder d.leaves).map LeafRecord.code ++ optBytes Ability.bytes d.reported

def BerthFigures.bytes (f : BerthFigures) : List Byte :=
  [f.state.code, byteOf f.pen, byteOf f.alighting, byteOf f.reserved, byteOf f.pending, byteOf f.quota]

def PlatformsSection.bytes (d : PlatformsSection) : List Byte :=
  [d.link.a.code, d.link.b.code, boolByte d.jammed, byteOf d.cars.a.onboard, boolByte d.cars.a.uncertain, byteOf d.cars.b.onboard,
   boolByte d.cars.b.uncertain] ++
    d.berths.b0.bytes ++ d.berths.b1.bytes ++ d.berths.b2.bytes ++ d.berths.b3.bytes

def Obligation.bytes (o : Obligation) : List Byte := signedByte o.debt :: beBytes 2 o.elapsed ++ beBytes 2 o.effective

def TestRecord.bytes (r : TestRecord) : List Byte :=
  [byteOf r.kind.code, r.result.code] ++ beBytes 2 r.movement ++ [signedByte r.debt]

def ObligationsSection.bytes (d : ObligationsSection) : List Byte :=
  d.obligations.eb.bytes ++ d.obligations.railA.bytes ++ d.obligations.railB.bytes ++
    optBytes (fun t : TestKind × TestStage => [byteOf t.1.code, t.2.code]) d.test ++ optBytes TestRecord.bytes d.lastTest

def NoticesSection.bytes (d : NoticesSection) : List Byte :=
  noticeBytes d.enables ++ [bitsByte [d.normal, d.abnormal], boolByte d.attention, d.report.code]

/-- The contents of a section as bytes (R216). -/
def SectionData.bytes : SectionData → List Byte
  | .line d => d.bytes
  | .motion d => d.bytes
  | .causes d => d.bytes
  | .doors d => d.bytes
  | .platforms d => d.bytes
  | .obligations d => d.bytes
  | .notices d => d.bytes

/-! ### Answers (R211) -/

/-- The bytes after an answer's result code, in the order the owner's rule names them, each in the width of its range, most
significant byte first (log entry 10). The line state entered by OPEN LINE and TRIP RESET is its code alone, without its sub-state (DESIGN
CHOICE, log entry 10). A STATUS READ snapshot is its section number, the notice flags and the section's contents (R216). -/
def ReplyData.bytes : ReplyData → List Byte
  | .none => []
  | .line l => [byteOf l.code]
  | .tableFault t i r => [t.code, byteOf i, r.code]
  | .withdrawn x y z => [byteOf ((if x then 2 else 0) + (if y then 4 else 0) + (if z then 8 else 0))]
  | .entries t first l => t.code :: byteOf first :: byteOf l.length :: l.flatten
  | .run n x y v => beBytes 2 n ++ [byteOf (x.idx), byteOf (y.idx)] ++ beBytes 2 v
  | .weather t w => [byteOf (t % 256).toNat, byteOf w]
  | .doorReason r => [r.code]
  | .grant x d set => [x.address, byteOf (2 ^ d.bit), set]
  | .closeOrders o =>
      [byteOf ((if o.a.left then 1 else 0) + (if o.a.right then 2 else 0)),
        byteOf ((if o.b.left then 1 else 0) + (if o.b.right then 2 else 0))]
  | .boarding st q => [st.code, byteOf q]
  | .boardingState st => [st.code]
  | .quota q => [byteOf q]
  | .admitted b g w q => [byteOf (b.idx), byteOf g, byteOf w, byteOf q]
  | .counted b n => [byteOf (b.idx), byteOf n]
  | .notices f => noticeBytes f
  | .enables f x y => noticeBytes f ++ [byteOf ((if x then 1 else 0) + (if y then 2 else 0))]
  | .counts l => l
  | .snapshot n f d => byteOf n :: noticeBytes f ++ d.bytes

/-- An answer frame as sent on TXD (R205, R211). -/
def Answer.bytes (x : Answer) : List Byte := frameBytes x.kind (x.reply.code.code :: x.reply.data.bytes)

end Sys2Proof.Machine
end

