-- ==== Sys2Proof/Machine/Figures.lean ====
section
/-! DEFINITION. The figures every block reads, formed from the state as it stands: rope coordinate, positions and speeds (chapter 02),
caps, planned speed and envelope (chapters 04 and 05), the berthed judgement (R46), doors secure (R163), a car at a berth and the
quota (chapter 09), the interlocks (R63, R83, R84, R123, R127), table validity (R16), coldness (R57). -/

namespace Sys2Proof.Machine

/-! ### Tables and modes -/

/-- The tables are valid when each of the six holds a committed mark (R16). -/
def Tables.valid (t : Tables) : Bool :=
  t.header.isSome && t.sections.isSome && t.berths.isSome && t.markers.isSome && t.cars.isSome && t.gates.isSome

/-- The mode cap (R50). -/
def modeCap (m : Mode) (h : Header) : Nat :=
  match m with
  | .normal => h.vLine
  | .reduced => h.reducedCap
  | .inspection => h.inspectionCap

/-- The weather is cold when the record is stale or the rail temperature is below COLD_LIMIT (R57). -/
def State.cold (s : State) : Bool :=
  s.trip.weather.stale ||
    (match s.trip.weather.temp with
     | some t => decide (t < (match s.tables.header with | some h => h.coldLimit | none => Config.coldLimit))
     | none => true)

/-! ### Rope (R20, R21, R24) -/

/-- The rope coordinate of a count on a base, 0 while no LINE header is active (R20). -/
def coordOf (h : Option Header) (base count : Int) : Int :=
  match h with
  | some h => base + roundHalfAway (count * h.scale) 1000
  | none => 0

/-- The rope coordinate s. -/
def State.coord (s : State) : Int := coordOf s.tables.header s.rope.base s.rope.chans.ch1.count

/-- The second coordinate s2. -/
def State.coord2 (s : State) : Int := coordOf s.tables.header s.rope.base2 s.rope.chans.ch2.count

/-- A car's position x_A or x_B (R21), 0 while no LINE header is active. -/
def State.pos (s : State) (x : Car) : Int :=
  match s.tables.header with
  | some h =>
    match x with
    | .a => s.coord + s.rope.offs.a
    | .b => h.lineLen - s.coord + s.rope.offs.b
  | none => 0

/-- A channel's speed from its period history (R24), 0 while no LINE header is active. -/
def chanSpeed (h : Option Header) (c : ChanState) : Nat :=
  match h with
  | some h => if c.periods = [] then 0 else min 32767 (c.periods.length * h.scale * 1000 / c.periods.sum)
  | none => 0

/-- v1 or v2. -/
def State.speed (s : State) (ch : Chan) : Nat := chanSpeed s.tables.header (s.rope.chans.get ch)

/-- The supervised speed v_sup (R24). -/
def State.vSup (s : State) : Nat := max (s.speed .ch1) (s.speed .ch2)

/-- The level of a marker input. -/
def State.level (s : State) : MarkerInput → Bool
  | .switch b => s.rope.switches.get b
  | .free i => s.rope.frees.get i

/-! ### Berths and alignment -/

/-- A berth's entry in the active BERTHS table. -/
def State.berthEntry (s : State) (b : Berth) : Option BerthEntry := s.tables.berths.map fun t => t.get b

/-- The alignment test of R46 and R75 for one car at one berth: the berth's level switch is active and the car stands within 150 mm
of the nominal position. -/
def State.alignedAt (s : State) (x : Car) (b : Berth) : Bool :=
  match s.berthEntry b with
  | some e => s.rope.switches.get b && decide (distance (s.pos x) e.position ≤ 150)
  | none => false

/-- The pair k at which the line is berthed aligned, as car A's berth (R46). -/
def State.berthedPair (s : State) : Option Berth :=
  if s.tables.valid && s.rope.flag then berthList.find? fun b => s.alignedAt .a b && s.alignedAt .b b.mirror else none

/-! ### Tests and courses -/

/-- The test direction of a rail test: the car under test descends (R104). -/
def testDir : TestKind → Dir
  | .railA => .down
  | .railB => .up
  | .eb => .up

/-- The car under test of a rail test. -/
def testCar : TestKind → Car
  | .railB => .b
  | _ => .a

/-- Whether the line is in a rail test. -/
def LineState.isRail : LineState → Bool
  | .testing .railA => true
  | .testing .railB => true
  | _ => false

/-- Whether the line is RUNNING or RECOVERY-MOVING. -/
def LineState.inMotion : LineState → Bool
  | .running _ => true
  | .recovery true => true
  | _ => false

/-- Whether E is formed in this line state (R94). -/
def LineState.supervised (l : LineState) : Bool := l.inMotion || l.isRail

/-- A direction with both cars' targets. -/
structure Course where
  dir : Dir
  target : PerCar Berth
  deriving DecidableEq, Repr

/-- The course the cars are on: the test direction and targets in a rail test, otherwise those of the trip record (R68, R94, R128). -/
def State.course (s : State) : Option Course :=
  match s.trip.line with
  | .testing .railA => some ⟨.down, s.sched.targets⟩
  | .testing .railB => some ⟨.up, s.sched.targets⟩
  | _ => s.trip.record.map fun r => ⟨r.dir, r.target⟩

/-- The learned stop offset of a car at a berth for its arrival direction (R77). -/
def State.offset (s : State) (x : Car) (b : Berth) (ascending : Bool) : Int :=
  if ascending then ((s.trip.offsets.get x).get b).ascending else ((s.trip.offsets.get x).get b).descending

/-- A car's distance to go d_X (R68): target_X = position - L * sign, d_X = (target_X - x_X) * sign. -/
def State.toGo (s : State) (t : PerBerth BerthEntry) (c : Course) (x : Car) : Int :=
  if c.dir.ascends x then ((t.get (c.target.get x)).position : Int) - s.offset x (c.target.get x) true - s.pos x
  else s.pos x - (((t.get (c.target.get x)).position : Int) + s.offset x (c.target.get x) false)

/-- The profile distance d = min(d_A, d_B) (R68), where there are targets. -/
def State.profileDist (s : State) : Option Int :=
  match s.tables.berths, s.course with
  | some t, some c => some (min (s.toGo t c .a) (s.toGo t c .b))
  | _, _ => none

/-- The planned speed P(d) (R69). -/
def planned (h : Header) (d : Int) : Nat :=
  if (h.creepRun : Int) < d then isqrt (h.vCr * h.vCr + 2 * h.aDec * (d - h.creepRun).toNat)
  else if 0 < d then min h.vCr (isqrt (2 * h.aDec * d.toNat))
  else 0

/-! ### The envelope (R94, R95) -/

/-- The limit of the section that contains a position: below 0 the first, above LINE_LEN the last. -/
def currentLimit (l : List SectionEntry) (x : Int) : Option Nat :=
  match (l.filter fun e => decide ((e.start : Int) ≤ x)).getLast? with
  | some e => some e.limit
  | none => l.head?.map fun e => e.limit

/-- A braking candidate: isqrt(v² + 2 × a_sb × max(0, d - d_m)). -/
def candidate (h : Header) (v : Nat) (d : Int) : Nat := isqrt (v * v + 2 * h.aSb * (d - h.dM).toNat)

/-- The section candidates of a car at a position, for its travel direction (R94). -/
def sectionCandidates (h : Header) (l : List SectionEntry) (ascending : Bool) (x : Int) : List Nat :=
  if ascending then (l.filter fun e => decide (x < (e.start : Int))).map fun e => candidate h e.limit (e.start - x)
  else (l.filter fun e => decide ((e.stop : Int) ≤ x)).map fun e => candidate h e.limit (x - e.stop)

/-- Whether the target candidate is present (R95, R128): in a rail test only in stages RELEASING and CREEP. -/
def State.targetPresent (s : State) : Bool :=
  if s.trip.line.isRail then
    match s.sched.test with
    | some (_, .releasing) => true
    | some (_, .creep) => true
    | _ => false
  else true

/-- The target candidate where it is present (R95). -/
def State.targetCandidate (s : State) (h : Header) : Option Nat :=
  if s.targetPresent then s.profileDist.map fun d => candidate h h.vCr d else none

/-- The terms of E beside the mode cap, where certainty is not UNKNOWN (R95). -/
def State.envelopeTerms (s : State) (h : Header) : List Nat :=
  s.sup.windCap.toList ++ s.sup.certCap.toList ++ (s.targetCandidate h).toList ++
    (match s.tables.sections, s.course with
     | some l, some c =>
       (currentLimit l (s.pos .a)).toList ++ (currentLimit l (s.pos .b)).toList ++
         sectionCandidates h l (c.dir.ascends .a) (s.pos .a) ++ sectionCandidates h l (c.dir.ascends .b) (s.pos .b)
     | _, _ => [])

/-- E, formed from the figures as they stand (R94, R95), and equally E_step (R97). Where certainty is UNKNOWN it is v_cr. -/
def State.formE (s : State) (h : Header) : Nat :=
  if s.rope.certainty = .unknown then h.vCr else min 32767 (leastOf (modeCap s.trip.mode h) (s.envelopeTerms h))

/-- Service threshold S (R98). -/
def serviceThreshold (e : Nat) : Nat := e * 17 / 16 + 100

/-- Trip threshold T (R98). -/
def tripThreshold (e : Nat) : Nat := e * 9 / 8 + 200

/-- Absolute threshold V_ABS (R98). -/
def absoluteThreshold (h : Header) : Nat := h.vLine * 115 / 100

/-! ### Links, leaves and doors secure -/

/-- A link is usable in COMPLETE and in CHECK (R143). -/
def Link.usable : Link → Bool
  | .complete => true
  | .check => true
  | _ => false

/-- A car's leaf records are stale while its link is not COMPLETE or CHECK (R162). -/
def State.stale (s : State) (x : Car) : Bool := !(s.track.cars.get x).link.usable

/-- The compartment set of leaves the car ability gives as present on a side (R160). -/
def State.present (s : State) (x : Car) (d : Side) : Byte :=
  match (s.track.cars.get x).ability with
  | some r => r.leaves d
  | none => 0

/-- Whether every record of a present leaf satisfies p, given the set of present leaves. -/
def allPresent {α : Type} (p : α → Bool) (set : Byte) (l : Six α) : Bool :=
  ((Six.ofFn fun k => memberAt set k).zipWith (fun m v => !m || p v) l).toList.all id

/-- Every present leaf's record is LOCKED, on both sides. -/
def State.allLocked (s : State) (x : Car) : Bool :=
  sideList.all fun d => allPresent (fun r => r == LeafRecord.locked) (s.present x d) ((s.doors.get x).leaves.get d)

/-- Whether a release grant is active for a car. -/
def CarDoors.anyGrant (c : CarDoors) : Bool := c.grants.left.isSome || c.grants.right.isSome

/-- Whether any release grant is active. -/
def State.anyGrant (s : State) : Bool := s.doors.a.anyGrant || s.doors.b.anyGrant

/-- Doors secure (R163): records current, status block FRESH, every present leaf LOCKED, no grant active for the car. -/
def State.secure (s : State) (x : Car) : Bool :=
  !s.stale x && (s.track.cars.get x).fresh && s.allLocked x && !(s.doors.get x).anyGrant

/-- Both cars are SECURE. -/
def State.bothSecure (s : State) : Bool := s.secure .a && s.secure .b

/-- Both car links are COMPLETE. -/
def State.linksComplete (s : State) : Bool :=
  s.track.cars.a.link == Link.complete && s.track.cars.b.link == Link.complete

/-- A car's latest status block reports a passenger alarm. -/
def CarLink.alarm (c : CarLink) : Bool :=
  match c.block with
  | some k => k.alarm
  | none => false

/-- A car's latest status block reports the rail brake applied. -/
def CarLink.railApplied (c : CarLink) : Bool :=
  match c.block with
  | some k => k.railApplied
  | none => false

def State.anyAlarm (s : State) : Bool := s.track.cars.a.alarm || s.track.cars.b.alarm

def State.anyRailApplied (s : State) : Bool := s.track.cars.a.railApplied || s.track.cars.b.railApplied

/-! ### Boarding figures -/

/-- The berth where car A stands, for the door and boarding controllers (R171, R179): the parked berth in PARKED and in TESTING of
kind EB, the starting berth in DISPATCH, none otherwise. -/
def State.berthA (s : State) : Option Berth :=
  match s.trip.line with
  | .parked => s.trip.parkedBerth
  | .testing .eb => s.trip.parkedBerth
  | .dispatch => s.trip.record.bind fun r => r.start
  | _ => none

/-- The berth where a car stands; car B stands at car A's mirror. -/
def State.berthOf (s : State) : Car → Option Berth
  | .a => s.berthA
  | .b => s.berthA.map Berth.mirror

/-- The car at a berth (R179). -/
def State.carAt (s : State) (b : Berth) : Option Car :=
  match s.berthA with
  | some k => if b = k then some .a else if b = k.mirror then some .b else none
  | none => none

/-- The reserved count: the sum of the groups of the pending list (R185). -/
def BerthBoard.reserved (b : BerthBoard) : Nat := (b.pending.map fun r => r.group).sum

/-- A car's capacity, 0 with no car ability (R185). -/
def State.capacity (s : State) (x : Car) : Nat :=
  match (s.track.cars.get x).ability with
  | some r => r.capacity
  | none => 0

/-- The quota of a berth (R186). -/
def State.quota (s : State) (b : Berth) : Nat :=
  match s.carAt b with
  | some x =>
    if (s.board.cars.get x).uncertain then 0
    else s.capacity x - (s.board.cars.get x).onboard - (s.board.berths.get b).pen - (s.board.berths.get b).reserved
  | none => 0

/-- Boarding state CLOSED or SEALED. -/
def BerthBoard.shut (b : BerthBoard) : Bool :=
  match b.state with
  | .closed => true
  | .sealed => true
  | _ => false

/-- Every berth is CLOSED or SEALED. -/
def State.allShut (s : State) : Bool := berthList.all fun b => (s.board.berths.get b).shut

/-- A berth and its mirror are CLOSED or SEALED. -/
def State.pairShut (s : State) (b : Berth) : Bool := (s.board.berths.get b).shut && (s.board.berths.get b.mirror).shut

/-! ### Obligations -/

/-- Some debt is 3: the line is restricted (R120). -/
def State.restricted (s : State) : Bool :=
  s.sched.obligations.eb.debt == 3 || s.sched.obligations.railA.debt == 3 || s.sched.obligations.railB.debt == 3

/-! ### Interlocks -/

/-- The departure interlock (R63). Its parts on leaves and grants are the doors secure judgement of both cars (R163). -/
def State.departureHolds (s : State) : Bool :=
  s.linksComplete && s.bothSecure && !s.anyGrant &&
    (match s.trip.record.bind fun r => r.start with | some b => s.pairShut b | none => false) &&
    s.trip.consentLower && s.trip.consentUpper && s.sup.ebFb && !s.anyAlarm && s.rope.certainty != .unknown && s.sup.causes.isEmpty

/-- The resume interlock (R83, step 2). -/
def State.resumeHolds (s : State) : Bool :=
  s.linksComplete && s.bothSecure && !s.anyGrant && s.rope.certainty != .unknown && s.sup.causes.isEmpty && !s.anyAlarm

/-- The recovery move interlock (R84, step 4). -/
def State.moveHolds (s : State) : Bool :=
  s.linksComplete && s.bothSecure && !s.anyGrant && s.allShut && !s.anyRailApplied && s.sup.ebFb

/-- The interlock of BRAKE TEST (R123). -/
def State.brakeTestHolds (s : State) : Bool :=
  s.linksComplete && s.bothSecure && !s.anyGrant &&
    (match s.trip.parkedBerth with | some b => s.pairShut b | none => false) && s.rope.flag

/-- The interlock of RAIL TEST (R127). -/
def State.railTestHolds (s : State) : Bool :=
  s.linksComplete && s.bothSecure && !s.anyGrant && s.board.cars.a.onboard == 0 && s.board.cars.b.onboard == 0 &&
    !s.anyRailApplied && s.rope.flag

/-- What R63 names as the parts whose change is an event at which the departure interlock is evaluated. -/
structure DepartureParts where
  links : PerCar Link
  secure : Bool × Bool
  grant : Bool
  boarding : Option (BoardingState × BoardingState)
  consents : Bool × Bool
  ebFb : Bool
  alarms : Bool × Bool
  certainty : Certainty
  causes : List CauseEntry
  deriving DecidableEq, Repr

def State.departureParts (s : State) : DepartureParts :=
  { links := s.track.cars.map fun c => c.link, secure := (s.secure .a, s.secure .b), grant := s.anyGrant,
    boarding := (s.trip.record.bind fun r => r.start).map fun b => ((s.board.berths.get b).state, (s.board.berths.get b.mirror).state),
    consents := (s.trip.consentLower, s.trip.consentUpper), ebFb := s.sup.ebFb,
    alarms := (s.track.cars.a.alarm, s.track.cars.b.alarm), certainty := s.rope.certainty, causes := s.sup.causes }

end Sys2Proof.Machine
end

