-- ==== Sys2Proof/Machine/Ops.lean ====
section
/-! DEFINITION. The shared operations that change the line record: entering a line state, the output lines, setpoint frames, standstill
and certainty, boarding moves, release grants, trip causes, service stops, test decisions, car link changes. Each is one rule or one
numbered list of the spec; the commands' meanings are written over them. -/

namespace Sys2Proof.Machine

/-! ### Boarding (R182, R184) -/

/-- One berth's move out of OPEN and ARMED (R182); an OPEN berth with an empty pending list passes on to SEALED (R184). -/
def BerthBoard.moveOut (b : BerthBoard) : BerthBoard :=
  match b.state with
  | .open => { b with state := if b.pending.isEmpty then .sealed else .closing }
  | .armed => { b with state := .closed }
  | _ => b

/-- A CLOSING berth whose pending list is empty enters SEALED (R184). -/
def BerthBoard.settle (b : BerthBoard) : BerthBoard :=
  match b.state with
  | .closing => if b.pending.isEmpty then { b with state := .sealed } else b
  | _ => b

/-- A SEALED berth enters CLOSED at a departure (R184). -/
def BerthBoard.depart (b : BerthBoard) : BerthBoard :=
  match b.state with
  | .sealed => { b with state := .closed }
  | _ => b

/-- Replace one berth's boarding. -/
def State.setBoard (s : State) (b : Berth) (v : BerthBoard) : State :=
  { s with board := { s.board with berths := s.board.berths.set b v } }

/-- Move one berth by R182. -/
def moveBerth (b : Berth) (s : State) : State := s.setBoard b (s.board.berths.get b).moveOut

/-- Move every berth by R182. -/
def moveAllBerths (s : State) : State :=
  { s with board := { s.board with berths := s.board.berths.map BerthBoard.moveOut } }

/-- Replace one car's counts. -/
def State.setCarBoard (s : State) (x : Car) (v : CarBoard) : State :=
  { s with board := { s.board with cars := s.board.cars.set x v } }

/-! ### Line state (R42, R46, R54, R164, R184) -/

/-- Whether the change from one line state to another raises LINE_STATE (R42): every change but one of RUNNING phase. -/
def LineState.noticed : LineState → LineState → Bool
  | .running _, .running _ => false
  | x, y => x != y

/-- The line states in which the parked berth is kept (R46). -/
def LineState.keepsBerth : LineState → Bool
  | .parked => true
  | .testing _ => true
  | _ => false

/-- The line states at whose entry the consent flags are cleared (R54). -/
def LineState.clearsConsent : LineState → Bool
  | .parked => true
  | .closed => true
  | _ => false

/-- The line states at whose entry both alignments become NONE (R164). -/
def LineState.clearsAlignment : LineState → Bool
  | .running _ => true
  | .held => true
  | .tripped => true
  | .recovery _ => true
  | .closed => true
  | _ => false

/-- The line states whose entry is a departure of the cars (R184). -/
def LineState.departs : LineState → Bool
  | .running _ => true
  | .recovery true => true
  | .testing .railA => true
  | .testing .railB => true
  | _ => false

/-- Both cars' alignments. -/
def setAlignments (va vb : Alignment) (s : State) : State :=
  { s with doors := ⟨{ s.doors.a with alignment := va }, { s.doors.b with alignment := vb }⟩ }

/-- Enter a line state, with what every entry to it does: the parked berth (R46), the consent flags (R54), the alignments (R164),
SEALED berths at a departure (R184), and the LINE_STATE notice (R42). -/
def enterLine (l : LineState) (s : State) : State :=
  let s1 := if s.trip.line.noticed l then raiseAll .lineState s else s
  let s2 := { s1 with trip := { s1.trip with
    line := l
    parkedBerth := if l.keepsBerth then s1.trip.parkedBerth else none
    consentLower := if l.clearsConsent then false else s1.trip.consentLower
    consentUpper := if l.clearsConsent then false else s1.trip.consentUpper } }
  let s3 := if l.clearsAlignment then setAlignments .none .none s2 else s2
  if l.departs then { s3 with board := { s3.board with berths := s3.board.berths.map BerthBoard.depart } } else s3

/-- Set the parked berth and enter PARKED. -/
def enterParked (b : Berth) (s : State) : State :=
  let s1 := enterLine .parked s
  { s1 with trip := { s1.trip with parkedBerth := some b } }

/-- Set the RUNNING phase; another line state is left as it is. -/
def setPhase (ph : Phase) (s : State) : State :=
  match s.trip.line with
  | .running _ => { s with trip := { s.trip with line := .running ph } }
  | _ => s

/-- Set the ending of a live trip record (R62). -/
def endRecord (e : Ending) (s : State) : State :=
  { s with trip := { s.trip with record := s.trip.record.map fun r => if r.ending.isNone then { r with ending := some e } else r } }

/-- Whether the trip record is live: it holds no ending. -/
def Trip.live (t : Trip) : Bool :=
  match t.record with
  | some r => r.ending.isNone
  | none => false

/-- The stop becomes none and its hold cause with it (log entry 19). -/
def clearStop (s : State) : State := { s with trip := { s.trip with stop := .none, holdCause := none } }

/-! ### Setpoint frames (R71, R72) -/

/-- The direction a setpoint frame carries (R72): the test direction in a rail test, that of a live trip record, otherwise that of the
last frame. -/
def State.frameDir (s : State) : Dir :=
  match s.trip.line with
  | .testing .railA => .down
  | .testing .railB => .up
  | _ =>
    match s.trip.record with
    | some r => if r.ending.isNone then r.dir else s.trip.frame.dir
    | none => s.trip.frame.dir

/-- Send a setpoint frame carrying the held setpoint; the frame count is incremented before it is sent (R72). -/
def emitFrame (s : State) : State :=
  { s with trip := { s.trip with
      frameCount := (s.trip.frameCount + 1) % 256
      frame := ⟨s.frameDir, s.trip.held, s.trip.number, (s.trip.frameCount + 1) % 256⟩ } }

/-- Force both setpoints to 0 and send a frame carrying 0 (R71). -/
def forceZero (s : State) : State :=
  emitFrame { s with trip := { s.trip with held := 0, forming := 0 } }

/-! ### Output lines (R91, R93, R102, R104, R67) -/

/-- Arm the rollaway watch where it is DISARMED, the standstill flag is set and the line is not TESTING of kind EB; the anchor takes
s_ref (R102). -/
def armRollaway (s : State) : State :=
  if s.sup.rollaway.isNone && s.rope.flag && !s.sup.sbRel && s.trip.line != .testing .eb then
    { s with sup := { s.sup with rollaway := some s.rope.sRef } }
  else s

/-- Command EB_REL (R91), starting or stopping its feedback limit (R93). -/
def setEb (v : Bool) (s : State) : State :=
  if s.sup.ebRel = v then s else { s with sup := { s.sup with ebRel := v, ebLimit := s.sup.ebFb != v } }

/-- The commanded direction of a direction watch started now, where one is started (R104): in DISPATCH, HELD, RUNNING,
RECOVERY-MOVING and the rail tests. -/
def State.watchDir (s : State) : Option Dir :=
  match s.trip.line with
  | .dispatch => s.trip.record.map fun r => r.dir
  | .held => s.trip.record.map fun r => r.dir
  | .running _ => s.trip.record.map fun r => r.dir
  | .recovery true => s.trip.record.map fun r => r.dir
  | .testing .railA => some .down
  | .testing .railB => some .up
  | _ => none

/-- Command SB_REL (R91): its feedback limit (R93); energising disarms the rollaway watch (R102) and starts the direction watch with
its reach at s (R104); de-energising stops the direction watch and arms the rollaway watch where the flag is set. -/
def setSb (v : Bool) (s : State) : State :=
  if s.sup.sbRel = v then s
  else
    let s1 := { s with sup := { s.sup with sbRel := v, sbLimit := s.sup.sbFb != v } }
    if v then { s1 with sup := { s1.sup with rollaway := none, dirWatch := s1.watchDir.map fun d => ⟨d, s1.coord⟩ } }
    else armRollaway { s1 with sup := { s1.sup with dirWatch := none } }

/-- Command DRV_EN (R91). Energising it in RUNNING, RECOVERY-MOVING or a rail test starts the profile step with both setpoints 0 and no distances yet, and
de-energising it stops the profile step (R67). -/
def setDrv (v : Bool) (s : State) : State :=
  if s.sup.drvEn = v then s
  else
    let s1 := { s with sup := { s.sup with drvEn := v } }
    if v then
      if s1.trip.line.supervised then { s1 with trip := { s1.trip with stepping := true, distances := false, held := 0, forming := 0 } } else s1
    else { s1 with trip := { s1.trip with stepping := false } }

/-! ### Standstill and certainty (R28, R36) -/

/-- The standstill dwell after an event that may have changed v_sup, given v_sup before it (R28). -/
def dwellAfter (before : Nat) (s : State) : State :=
  if before = 0 then
    if s.vSup = 0 then s else { s with rope := { s.rope with dwell := false } }
  else if s.vSup = 0 && !s.rope.flag then { s with rope := { s.rope with dwell := true } } else s

/-- Set certainty; a fall raises POSITION on all three ports (R36). -/
def setCertainty (c : Certainty) (s : State) : State :=
  let s1 := { s with rope := { s.rope with certainty := c } }
  match s.rope.certainty, c with
  | .known, .uncertain => raiseAll .position s1
  | .known, .unknown => raiseAll .position s1
  | .uncertain, .unknown => raiseAll .position s1
  | _, _ => s1

/-- KNOWN becomes UNCERTAIN; UNCERTAIN and UNKNOWN are kept (R36). -/
def lowerCertainty (s : State) : State :=
  match s.rope.certainty with
  | .known => setCertainty .uncertain s
  | _ => s

/-! ### Doors (R167, R170) -/

/-- Replace one car's doors. -/
def State.setDoors (s : State) (x : Car) (v : CarDoors) : State := { s with doors := s.doors.set x v }

/-- Whether a car holds an active grant at a berth. -/
def CarDoors.grantAt (c : CarDoors) (b : Berth) : Bool :=
  (match c.grants.left with | some g => g.berth == b | none => false) ||
    (match c.grants.right with | some g => g.berth == b | none => false)

/-- One grant removed, its side added to the close orders (R170, steps 1 and 2). -/
def CarDoors.dropGrant (c : CarDoors) (d : Side) : CarDoors :=
  match c.grants.get d with
  | some _ => { c with grants := c.grants.set d none, close := c.close.set d true }
  | none => c

/-- Withdraw a grant (R170): remove it, order the side closed, and hand the withdrawal to the boarding controller, which moves the
berth where no grant then remains active for the car there (R182). -/
def withdraw (x : Car) (d : Side) (s : State) : State :=
  match (s.doors.get x).grants.get d with
  | some g =>
    let s1 := s.setDoors x ((s.doors.get x).dropGrant d)
    if (s1.doors.get x).grantAt g.berth then s1 else moveBerth g.berth s1
  | none => s

/-- Withdraw every grant of a car. -/
def withdrawCar (x : Car) (s : State) : State := withdraw x .right (withdraw x .left s)

/-- Withdraw every grant (R169). -/
def withdrawAll (s : State) : State := withdrawCar .b (withdrawCar .a s)

/-- Close orders on the sides of a car that have a present leaf (R170). -/
def closeCar (x : Car) (s : State) : State :=
  let c := s.doors.get x
  s.setDoors x { c with close :=
    ⟨c.close.left || s.present x .left != 0, c.close.right || s.present x .right != 0⟩ }

/-- Close orders on both sides of both cars that have a present leaf there (R170). -/
def closeAll (s : State) : State := closeCar .b (closeCar .a s)

/-- Make a grant (R167, steps 1 to 3). -/
def makeGrant (x : Car) (d : Side) (g : Grant) (s : State) : State :=
  let c := s.doors.get x
  s.setDoors x { c with
    grants := c.grants.set d (some g)
    close := c.close.set d false
    marks := c.marks.set d (c.marks.get d &&& ~~~g.set) }

/-- The compartments from the berth's first to its last, as a compartment set (R4). -/
def BerthEntry.range (e : BerthEntry) : Byte :=
  ((List.range 6).filter fun k => decide (e.first ≤ k + 1) && decide (k + 1 ≤ e.last)).foldl
    (fun set k => set ||| (1#8 <<< k)) 0

/-- The compartment set of a grant: the berth's compartments that have a leaf on the side in the car's ability (R165). -/
def State.grantSet (s : State) (x : Car) (e : BerthEntry) (d : Side) : Byte := e.range &&& s.present x d

/-- The first of conditions 2 to 7 of R166 that fails, for a car at a berth and a side. -/
def State.releaseFault (s : State) (x : Car) (b : Berth) (e : BerthEntry) (d : Side) : Option DoorReason :=
  if (s.doors.get x).alignment != .aligned || !s.alignedAt x b then some .alignment
  else if !s.rope.flag then some .standstill
  else if s.sup.sbFb then some .brake
  else if !memberAt e.sides d.bit then some .noPlatform
  else if (s.track.cars.get x).link != .complete then some .link
  else if s.grantSet x e d = 0 then some .noLeaf
  else none

/-- Automatic release for one car and side at a berth (R168). -/
def autoReleaseSide (x : Car) (b : Berth) (d : Side) (s : State) : State :=
  match s.berthEntry b with
  | some e =>
    if e.autoRelease = 1 && memberAt e.sides d.bit && (s.releaseFault x b e d).isNone then
      makeGrant x d ⟨b, s.grantSet x e d, s.trip.number, .auto⟩ s
    else s
  | none => s

/-- Automatic release at an entry to PARKED by berthing, car A standing at berth k (R168). -/
def autoRelease (k : Berth) (s : State) : State :=
  autoReleaseSide .b k.mirror .right (autoReleaseSide .b k.mirror .left
    (autoReleaseSide .a k .right (autoReleaseSide .a k .left s)))

/-! ### Brake tests (R119, R121, R122) -/

/-- Write the last test record. -/
def writeTest (k : TestKind) (r : TestResult) (movement : Nat) (s : State) : State :=
  { s with sched := { s.sched with lastTest := some ⟨k, r, movement, (s.sched.obligations.get k).debt⟩ } }

/-- Stop every test limit. -/
def stopTestLimits (s : State) : State :=
  { s with sched := { s.sched with windowLimit := false, creepLimit := false, brakeLimit := false } }

/-- Set the stage of a test in hand. -/
def setStage (k : TestKind) (g : TestStage) (s : State) : State := { s with sched := { s.sched with test := some (k, g) } }

/-- The debt after a decision (R119). -/
def debtAfter (r : TestResult) (debt : Int) : Int :=
  match r with
  | .pass => if 0 < debt then 0 else max (debt - 1) (-2)
  | .fail => 3
  | .aborted => debt

/-- A debt reaching 3 from below (R120): RESTRICTED on all three ports, and every berth moved (R182). -/
def restrict (s : State) : State := moveAllBerths (raiseAll .restricted s)

/-- The decision of a test (R121): the debt (R119), the record, TEST_DONE and at a FAIL TEST_FAILED, the restriction where the debt
reaches 3 (R120), and stage ENDING with the limits stopped. -/
def decideTest (k : TestKind) (r : TestResult) (movement : Nat) (s : State) : State :=
  let o := s.sched.obligations.get k
  let s1 := { s with sched := { s.sched with obligations := s.sched.obligations.set k { o with debt := debtAfter r o.debt } } }
  let s2 := raiseAll .testDone (writeTest k r movement s1)
  let s3 := if r = .fail then raiseAll .testFailed s2 else s2
  let s4 := if debtAfter r o.debt = 3 && decide (o.debt < 3) then restrict s3 else s3
  setStage k .ending (stopTestLimits s4)

/-- An undecided test aborted within TESTING (R124, R128, R132): its record ABORTED with the movement seen so far, TEST_DONE, stage ENDING. At
the creep limit's expiry R128 does not name the record's movement: it is the movement seen so far there too (DESIGN CHOICE, log entry 66). -/
def abortToEnding (k : TestKind) (s : State) : State :=
  setStage k .ending (stopTestLimits (raiseAll .testDone (writeTest k .aborted s.sched.largest s)))

/-- One car's rail brake order with a TEST order cleared, at once where the standstill flag is set, and otherwise marked for the next
setting of the flag (R122). -/
def clearTestOrder (x : Car) (s : State) : State :=
  if s.sup.railOrder.get x = .test then
    if s.rope.flag then { s with sup := { s.sup with railOrder := s.sup.railOrder.set x .none } }
    else { s with sup := { s.sup with orderClears := s.sup.orderClears.set x true } }
  else s

/-- The test in hand at the entry to TRIPPED (R122): aborted where undecided, then none. -/
def endTestAtTrip (s : State) : State :=
  match s.sched.test with
  | some (k, g) =>
    let s1 := if g = .ending then s else raiseAll .testDone (writeTest k .aborted s.sched.largest s)
    let s2 := stopTestLimits { s1 with sched := { s1.sched with test := none } }
    clearTestOrder .b (clearTestOrder .a s2)
  | none => s

/-! ### Trip causes (R109, R110, R111) -/

/-- The causes that set both rail brake orders (R111). -/
def Cause.setsOrders : Cause → Bool
  | .encoderDisagree => true
  | .absoluteOverspeed => true
  | .carOverspeed => true
  | _ => false

/-- Both rail brake orders become TRIP (R111), and no order stays marked for a clearing (DESIGN CHOICE for an order marked at a line reset, log
entry 59). -/
def orderTrip (s : State) : State :=
  { s with sup := { s.sup with railOrder := ⟨.trip, .trip⟩, orderClears := ⟨false, false⟩ } }

/-- What the trip controller does at the entry to TRIPPED (R52, R89). -/
def tripController (s : State) : State :=
  let o : TripOrigin := if s.trip.line = .closed then .closed else .open
  let s1 := clearStop (endRecord .tripped s)
  { s1 with trip := { s1.trip with
      origin := o, stage := none, dispatchLimit := false, resumeRelease := false, moveRelease := false, slot := none } }

/-- A brake that still reports released at the trip starts its limit again (R93). -/
def restartFeedback (s : State) : State := { s with sup := { s.sup with ebLimit := s.sup.ebFb, sbLimit := s.sup.sbFb } }

/-- Trip the line (R109): the outputs dropped, the setpoint forced to 0 with its frame, the cause first in the list, TRIPPED entered
with what the trip controller (R89, R52) and the scheduler (R122) do there, the trip counter, TRIP on all three ports, every berth moved
(R182). -/
def tripLine (e : CauseEntry) (s : State) : State :=
  let s1 := forceZero (setDrv false (setSb false (setEb false s)))
  let s2 := tripController s1
  let s3 := enterLine .tripped (endTestAtTrip s2)
  let s4 := { s3 with sup := { s3.sup with causes := [e], tripCount := satAdd 255 s3.sup.tripCount 1 } }
  moveAllBerths (raiseAll .trip (armRollaway (restartFeedback s4)))

/-- A cause taken while the line is TRIPPED (R110): a repeat changes nothing, a new cause is appended where fewer than 4 are listed,
and otherwise sets the overflow flag. -/
def listCause (e : CauseEntry) (s : State) : State :=
  if s.sup.causes.any fun f => f.cause == e.cause then s
  else if s.sup.causes.length < 4 then
    raiseAll .trip { s with sup := { s.sup with causes := s.sup.causes ++ [e] } }
  else if s.sup.overflow then s
  else raiseAll .trip { s with sup := { s.sup with overflow := true } }

/-- Take a trip cause (R109 to R111), with the port of an EMERGENCY_REQUEST. Every cause withdraws every grant and sets close orders
on every side with a present leaf (R169, R170). -/
def takeCause (c : Cause) (p : Option Port) (s : State) : State :=
  let s1 := if c.setsOrders then orderTrip s else s
  let s2 := if s1.sup.causes.isEmpty then tripLine ⟨c, p⟩ s1 else listCause ⟨c, p⟩ s1
  closeAll (withdrawAll s2)

/-- Take a trip cause where its condition holds. -/
def causeIf (b : Bool) (c : Cause) (s : State) : State := if b then takeCause c none s else s

/-! ### Service stops (R100, R132) -/

/-- A service-stop cause (R100): taken in RUNNING, RECOVERY-MOVING or a rail test, with no stop of kind SERVICE in hand and no cause
listed. The trip controller records the stop (R81, R87), and an undecided rail test is aborted (R132). Its frame is sent and counted also where
an earlier stop has dropped DRV_EN (DESIGN CHOICE, log entry 58). R81 sets the hold cause to SERVICE in RUNNING; R87 and R100 name the stop
kind alone for a recovery move and a rail test, where the model sets the hold cause too (DESIGN CHOICE, log entry 63). -/
def serviceStop (c : ServiceCause) (s : State) : State :=
  if s.trip.line.supervised && s.trip.stop != .service && s.sup.causes.isEmpty then
    let s1 := forceZero (setDrv false (setSb false s))
    let s2 := { s1 with sup := { s1.sup with lastService := some c, serviceCount := satAdd 255 s1.sup.serviceCount 1 } }
    let s3 := setPhase .holding (raiseAll .serviceStop s2)
    let s4 := { s3 with trip := { s3.trip with stop := .service, holdCause := some .service, moveRelease := false } }
    match s4.trip.line, s4.sched.test with
    | .testing _, some (k, g) => if g = .ending then s4 else abortToEnding k s4
    | _, _ => s4
  else s

/-! ### Car links (R143, R106, R90, R169) -/

/-- Replace one car's link record. -/
def State.setCar (s : State) (x : Car) (v : CarLink) : State :=
  { s with track := { s.track with cars := s.track.cars.set x v } }

/-- Whether a link loss or a jam trips the line now: DRV_EN energised (R106), or the stop of a trip in RUNNING (R90). -/
def State.lossTrips (s : State) : Bool :=
  s.sup.drvEn ||
    (match s.trip.line with
     | .running _ => s.trip.stop != .none
     | _ => false)

/-- Change a car's link state (R143): CAR_LINK on all three ports; a change out of COMPLETE and CHECK withdraws the car's grants (R169);
a change to DOWN stops the silence limit (R149) and may trip the line (R106, R90). -/
def setLink (x : Car) (l : Link) (s : State) : State :=
  let c := s.track.cars.get x
  if c.link = l then s
  else
    let s1 := raiseAll .carLink (s.setCar x { c with link := l, silence := if l = .down then false else c.silence })
    let s2 := if c.link.usable && !l.usable then withdrawCar x s1 else s1
    if l = .down && s2.lossTrips then takeCause .carLinkLost none s2 else s2

end Sys2Proof.Machine
end

