-- ==== Sys2Proof/Machine/Sequences.lean ====
section
/-! DEFINITION. The sequences that wait for reports and conditions: dispatch, resume and move releases, holds, the stop of a trip or
move and its completion, the two brake tests (chapters 04 and 06). `settle` takes, after an event, every step that the state the event
left makes due, in one fixed order. -/

namespace Sys2Proof.Machine

/-! ### Learned stop offsets (R76) -/

/-- One learned stop offset updated by e, the distance stopped past the berth position: L + e/2, truncated, within ±300 (R76). -/
def learned (l e : Int) : Int := clamp (-300) 300 (l + e.tdiv 2)

/-- A car's learned stop offset at its target updated by where it stopped (R76), for the arrival direction whatever the berth (DESIGN CHOICE for
a terminus reached from beyond it, log entry 57). -/
def learnCar (t : PerBerth BerthEntry) (c : Course) (x : Car) (s : State) : State :=
  let b := c.target.get x
  let o := (s.trip.offsets.get x).get b
  let o' : ByArrival :=
    if c.dir.ascends x then { o with ascending := learned o.ascending (s.pos x - (t.get b).position) }
    else { o with descending := learned o.descending ((t.get b).position - s.pos x) }
  { s with trip := { s.trip with offsets := s.trip.offsets.set x ((s.trip.offsets.get x).set b o') } }

/-- Both cars' learned stop offsets updated. -/
def learnStops (s : State) : State :=
  match s.tables.berths, s.course with
  | some t, some c => learnCar t c .b (learnCar t c .a s)
  | _, _ => s

/-! ### Berthing, holds and the end of a move (R75, R80, R82, R88) -/

def alignmentOf (b : Bool) : Alignment := if b then .aligned else .misaligned

/-- Hand each car's judgement at a pair of berths to the door controller (R75, R88, R126). -/
def judgeAt (ba bb : Berth) (s : State) : State :=
  setAlignments (alignmentOf (s.alignedAt .a ba)) (alignmentOf (s.alignedAt .b bb)) s

/-- Both cars are aligned at the record's targets. -/
def State.targetsAligned (s : State) : Bool :=
  match s.trip.record with
  | some r => s.alignedAt .a r.target.a && s.alignedAt .b r.target.b
  | none => false

/-- A berthing (R75, R80, R88): the judgements handed on, the parked berth and the ending set, PARKED entered, BERTHED raised, and
automatic release judged last (R168). -/
def berth (s : State) : State :=
  match s.trip.record with
  | some r =>
    autoRelease r.target.a
      (raiseAll .berthed (enterParked r.target.a (endRecord .berthed (judgeAt r.target.a r.target.b (clearStop s)))))
  | none => s

/-- The run cap of the trip in hand: min(requested speed, mode cap) (R69). -/
def State.runCap (s : State) (r : TripRecord) : Nat :=
  match s.tables.header with
  | some h => min r.speed (modeCap s.trip.mode h)
  | none => r.speed

/-- Fill the hold save slot with the remainder of the trip and enter HELD (R80 to R82). -/
def enterHeld (s : State) : State :=
  match s.trip.record with
  | some r =>
    let s1 := { s with trip := { s.trip with
      slot := some ⟨s.trip.number, r.dir, r.target, s.runCap r, s.trip.holdCause.getD .service⟩, stop := .none } }
    enterLine .held s1
  | none => s

/-- The end of a recovery move (R88) by its stop, a failing interlock or a HOLD during the release. -/
def endMove (k : StopKind) (s : State) : State :=
  match s.trip.record with
  | some r =>
    let s0 := setSb false s
    let s1 := { s0 with trip := { s0.trip with moveRelease := false } }
    let s2 := match k with
      | .profile => learnStops s1
      | .service => lowerCertainty s1
      | _ => s1
    if k != .service && s2.rope.certainty == .known && s2.targetsAligned then berth s2
    else enterLine (.recovery false) (endRecord .idle (judgeAt r.target.a r.target.b (clearStop s2)))
  | none => s

/-- The completion of the stop in hand (R75, R80, R81, R88, R101). -/
def completeStop (s : State) : State :=
  match s.trip.line, s.trip.stop with
  | .running _, .profile => berth (learnStops s)
  | .running _, .hold => if s.targetsAligned then berth (learnStops s) else enterHeld s
  | .running _, .service => enterHeld s
  | .recovery true, k => endMove k s
  | _, _ => s

/-- Hold a trip in RUNNING (R78, R79). -/
def holdTrip (c : HoldCause) (s : State) : State :=
  let s1 := setPhase .holding s
  { s1 with trip := { s1.trip with stop := .hold, holdCause := some c } }

/-- Hold a recovery move (R87); during the move release it ends the move at once. -/
def holdMove (c : HoldCause) (s : State) : State :=
  let s1 := { s with trip := { s.trip with stop := .hold, holdCause := some c } }
  if s.trip.moveRelease then endMove .hold s1 else s1

/-! ### Releases (R64, R83, R85) -/

/-- The trip starts (R64). -/
def startTrip (s : State) : State :=
  let s1 := enterLine (.running .accel) s
  setDrv true (clearStop { s1 with trip := { s1.trip with stage := none, dispatchLimit := false, held := 0, forming := 0 } })

/-- The held trip restarts (R83): the slot is emptied, and its targets and run cap go on in the trip record. -/
def restartTrip (s : State) : State :=
  match s.trip.slot with
  | some h =>
    let s1 := enterLine (.running .accel) s
    setDrv true (clearStop { s1 with trip := { s1.trip with
      slot := none, resumeRelease := false, held := 0, forming := 0
      record := s1.trip.record.map fun r => { r with dir := h.dir, target := h.target, speed := h.runCap } } })
  | none => s

/-- The recovery move starts (R85). -/
def startMove (s : State) : State :=
  setDrv true (clearStop { s with trip := { s.trip with moveRelease := false, held := 0, forming := 0 } })

/-! ### Tests (R124, R126, R128, R131) -/

/-- The SB feedback report of released in stage APPLYING (R124). -/
def ebReleased (s : State) : State :=
  if s.bothSecure then
    let s1 := setStage .eb .window (setDrv true s)
    { s1 with sched := { s1.sched with windowLimit := true } }
  else abortToEnding .eb (setSb false s)

/-- The SB feedback report of released in stage RELEASING (R128). -/
def railReleased (k : TestKind) (s : State) : State :=
  if s.bothSecure then
    let s1 := setDrv true (setStage k .creep s)
    { s1 with sched := { s1.sched with creepStart := s1.coord, creepLimit := true } }
  else abortToEnding k (setSb false s)

/-- The end of an emergency brake test (R126). -/
def endEbTest (s : State) : State :=
  match s.trip.parkedBerth with
  | some b =>
    let s1 := enterParked b (judgeAt b b.mirror (setEb true s))
    armRollaway { s1 with sched := { s1.sched with test := none } }
  | none => s

/-- The end of a rail test (R131): the TEST order of the car under test cleared, RECOVERY-IDLE entered. -/
def endRailTest (k : TestKind) (s : State) : State :=
  let x := testCar k
  let s1 := if s.sup.railOrder.get x = .test then
      { s with sup := { s.sup with railOrder := s.sup.railOrder.set x .none, orderClears := s.sup.orderClears.set x false } }
    else s
  let s2 := enterLine (.recovery false) (clearStop s1)
  { s2 with sched := { s2.sched with test := none } }

/-! ### Settling after an event -/

/-- The interlocks (R64, R83, R85). A dispatch completes only at an evaluation, that is where `eval` says that the event changed a
part of the interlock (R63). -/
def settleInterlock (eval : Bool) (s : State) : State :=
  match s.trip.line with
  | .dispatch =>
    match s.trip.stage with
    | some .waiting =>
      if eval && s.departureHolds then setSb true { s with trip := { s.trip with stage := some .releasing } } else s
    | some .releasing =>
      if s.departureHolds then s else setSb false { s with trip := { s.trip with stage := some .waiting } }
    | none => s
  | .held =>
    if s.trip.resumeRelease && !s.resumeHolds then
      setSb false { s with trip := { s.trip with resumeRelease := false } }
    else s
  | .recovery true => if s.trip.moveRelease && !s.moveHolds then endMove .none s else s
  | _ => s

/-- The de-energising of SB_REL in a hold, at held setpoint 0 and v_sup 0 (R78, R87). -/
def settleHold (s : State) : State :=
  if s.trip.line.inMotion && s.trip.stop == .hold && s.trip.held == 0 && s.vSup == 0 then setSb false s else s

/-- The EB feedback report of applied in stage APPLYING (R124). -/
def settleEbApplied (s : State) : State :=
  match s.trip.line, s.sched.test with
  | .testing .eb, some (.eb, .applying) => if !s.sup.ebRel && !s.sup.ebFb then setSb true s else s
  | _, _ => s

/-- The SB feedback report of released, where a sequence waits for it (R64, R83, R85, R124, R128). -/
def settleReleased (s : State) : State :=
  if s.sup.sbRel && s.sup.sbFb then
    match s.trip.line with
    | .dispatch => if s.trip.stage = some .releasing && s.departureHolds then startTrip s else s
    | .held => if s.trip.resumeRelease && s.resumeHolds then restartTrip s else s
    | .recovery true => if s.trip.moveRelease && s.moveHolds then startMove s else s
    | .testing .eb => if s.sched.test = some (.eb, .applying) then ebReleased s else s
    | .testing k => if s.sched.test = some (k, .releasing) then railReleased k s else s
    | _ => s
  else s

/-- The SB feedback report of applied during a stop (R74, R78): DRV_EN is de-energised. -/
def settleApplied (s : State) : State :=
  if s.trip.line.inMotion && s.trip.stop != .none && !s.sup.sbRel && !s.sup.sbFb then setDrv false s else s

/-- The completion of a stop (R75): SB_REL and DRV_EN de-energised and the standstill flag set. -/
def settleComplete (s : State) : State :=
  if s.trip.line.inMotion && s.trip.stop != .none && !s.sup.sbRel && !s.sup.drvEn && s.rope.flag then completeStop s else s

/-- The end of a test in stage ENDING (R126, R131). -/
def settleTest (s : State) : State :=
  match s.trip.line, s.sched.test with
  | .testing .eb, some (.eb, .ending) => if !s.sup.sbRel && !s.sup.sbFb then endEbTest s else s
  | .testing k, some (_, .ending) =>
    if !s.sup.sbRel && !s.sup.drvEn && !s.sup.sbFb && s.rope.flag then endRailTest k s else s
  | _, _ => s

/-- Every step the state makes due, given whether the event is one at which the departure interlock is evaluated. -/
def settleWith (eval : Bool) (s : State) : State :=
  settleTest (settleComplete (settleApplied (settleReleased (settleEbApplied (settleHold (settleInterlock eval s))))))

/-- The steps due after an event that took the part from `before` to `s`; the departure interlock is evaluated where the line was in
DISPATCH and the event changed one of its parts (R63). -/
def settle (before s : State) : State :=
  settleWith (before.trip.line == .dispatch && before.departureParts != s.departureParts) s

/-- Whether R74 judges a PROFILE stop in the line state: in RUNNING, and in RECOVERY-MOVING once a profile step has computed distances, so that
after an establishing edge it waits for the next step (R86). -/
def State.profiled (s : State) : Bool :=
  match s.trip.line with
  | .running _ => true
  | .recovery true => s.trip.distances
  | _ => false

/-- The start of a stop of kind PROFILE (R74), judged at a profile step expiry and at a change of v_sup: with the profile step running,
no stop in hand and distances computed, the held setpoint, P(d) and v_sup are all 0. At a change of v_sup between two steps P(d) is formed from
the figures as they stand (DESIGN CHOICE, log entry 68). -/
def profileStop (s : State) : State :=
  if s.profiled && s.trip.stepping && s.trip.stop == .none && s.rope.certainty != .unknown && s.trip.held == 0 && s.vSup == 0 then
    match s.tables.header, s.profileDist with
    | some h, some d =>
      if planned h d = 0 then
        let s1 := setSb false s
        { s1 with trip := { s1.trip with stop := .profile } }
      else s
    | _, _ => s
  else s

/-- `profileStop` where the event changed v_sup. -/
def profileStopAfter (before : Nat) (s : State) : State := if s.vSup = before then s else profileStop s

end Sys2Proof.Machine
end

