-- ==== Sys2Proof/Machine/Boarding.lean ====
section
/-! DEFINITION. The boarding controller's requests, window expiries and count hand-offs (chapter 09). A handler of a request answers the
state it leaves and the reply; a refusal leaves the state as it was, but for the counter and notice of a QUOTA refusal. -/

namespace Sys2Proof.Machine

/-- A refusal: no effect, the result code alone. -/
def refuse (r : Result) (s : State) : State × Reply := (s, ⟨r, .none⟩)

/-- A success that carries data. -/
def answerWith (r : Result) (d : ReplyData) (s : State) : State × Reply := (s, ⟨r, d⟩)

/-- DONE with no data. -/
def done (s : State) : State × Reply := (s, ⟨.done, .none⟩)

/-- Raise a notice on a station port and on the drive port (R213). -/
def raiseOnBoth (n : Notice) (p : Port) (s : State) : State :=
  if p = .d then raiseOn n .d s else raiseOn n .d (raiseOn n p s)

/-- ALIGHT_ALLOW of the active header; without one no berth is ARMED. -/
def State.alightAllow (s : State) : Nat :=
  match s.tables.header with
  | some h => h.alightAllow
  | none => 0

/-- PASSAGE_WINDOW of the active header, in seconds. -/
def State.passageWindow (s : State) : Nat :=
  match s.tables.header with
  | some h => h.passageWindow
  | none => 0

/-- An ARMED berth opens where its alighting count is at or below ALIGHT_ALLOW (R181). -/
def BerthBoard.openIfClear (allow : Nat) (b : BerthBoard) : BerthBoard :=
  if b.state = .armed ∧ b.alighting ≤ allow then { b with state := .open } else b

/-- Pass a berth argument that its port must serve (R209): absent, or of the other station. -/
def berthArg (p : Port) (x : Byte) : Except Result Berth :=
  match Berth.ofCode x.toNat with
  | none => .error .badArgument
  | some b => if b.station = p then .ok b else .error .notServing

/-! ### BOARDING OPEN and BOARDING CLOSE (R180, R183) -/

/-- BOARDING OPEN's own conditions and effect (R180). For a berth already OPEN or ARMED the answer carries the state held and the quota (DESIGN
CHOICE, log entry 60). -/
def boardingOpenAt (b : Berth) (s : State) : State × Reply :=
  if s.trip.mode = .inspection then refuse .wrongState s
  else if s.restricted then refuse .restricted s
  else
    match s.carAt b with
    | none => refuse .interlock s
    | some x =>
      if !(s.doors.get x).anyGrant then refuse .interlock s
      else
        match (s.board.berths.get b).state with
        | .closing => refuse .busy s
        | .open => answerWith .done (.boarding .open (s.quota b)) s
        | .armed => answerWith .done (.boarding .armed (s.quota b)) s
        | _ =>
          let v := { s.board.berths.get b with state := .armed }.openIfClear s.alightAllow
          answerWith .done (.boarding v.state ((s.setBoard b v).quota b)) (s.setBoard b v)

/-- BOARDING OPEN (R180). -/
def reqBoardingOpen (p : Port) (body : List Byte) (s : State) : State × Reply :=
  if s.trip.line ≠ .parked then refuse .wrongState s
  else
    match body with
    | [x] =>
      match berthArg p x with
      | .error r => refuse r s
      | .ok b => boardingOpenAt b s
    | _ => refuse .badArgument s

/-- BOARDING CLOSE (R183). -/
def reqBoardingClose (p : Port) (body : List Byte) (s : State) : State × Reply :=
  match body with
  | [x] =>
    match berthArg p x with
    | .error r => refuse r s
    | .ok b => answerWith .done (.boardingState ((moveBerth b s).board.berths.get b).state) (moveBerth b s)
  | _ => refuse .badArgument s

/-! ### Admission (R188 to R191) -/

/-- The index in the GATES table of a station port's gate (R7). -/
def gateIndex (p : Port) (g : Nat) : Nat := if p = .us then 8 + g else g

/-- A gate's entry; while the GATES table holds no committed mark every gate is UNUSED (R189). -/
def State.gate (s : State) (p : Port) (g : Nat) : GateEntry :=
  match s.tables.gates with
  | some l => l.getD (gateIndex p g) ⟨0, 0⟩
  | none => ⟨0, 0⟩

/-- Whether a rule matches a class code at a berth (R8). -/
def RuleEntry.matchesAt (r : RuleEntry) (code : Byte) (b : Berth) : Bool :=
  memberAt r.berths b.idx && ((code ^^^ r.classValue) &&& ~~~r.ignore) == 0

/-- Whether an admission passes the rule list: its first matching rule admits and its group limit holds the group (R188). -/
def passesRules (l : List RuleEntry) (code : Byte) (b : Berth) (group : Nat) : Bool :=
  match l.find? fun r => r.matchesAt code b with
  | some r => r.action == 1 && decide (group ≤ r.limit)
  | none => false

/-- The berth whose pending list holds a record of a gate. -/
def State.holder (s : State) (g : Nat) : Option Berth :=
  berthList.find? fun b => (s.board.berths.get b).pending.any fun r => r.gate == g

/-- Grant an admission (R190). -/
def grantAdmission (g : Nat) (group : Nat) (b : Berth) (s : State) : State :=
  let v := s.board.berths.get b
  s.setBoard b { v with pending := v.pending ++ [⟨g, group, s.now + s.passageWindow * 1000000⟩] }

/-- A QUOTA refusal: the counter and QUOTA_FULL (R189). -/
def refuseQuota (p : Port) (b : Berth) (s : State) : State × Reply :=
  let v := s.board.berths.get b
  answerWith .quota (.quota (s.quota b))
    (raiseOnBoth .quotaFull p (s.setBoard b { v with quotaRefused := satAdd 255 v.quotaRefused 1 }))

/-- ADMIT at a gate whose entry names a berth (R189, R190). -/
def admitAt (p : Port) (g : Nat) (code : Byte) (group : Nat) (b : Berth) (s : State) : State × Reply :=
  if (s.board.berths.get b).state ≠ .open then refuse .boardingClosed s
  else if (s.holder (gateIndex p g)).isSome then refuse .gateBusy s
  else if !passesRules s.tables.rules code b group then refuse .rule s
  else if s.quota b < group then refuseQuota p b s
  else
    let s1 := grantAdmission (gateIndex p g) group b s
    answerWith .granted (.admitted b group s.passageWindow (s1.quota b)) s1

/-- ADMIT (R189). -/
def reqAdmit (p : Port) (body : List Byte) (s : State) : State × Reply :=
  match body with
  | [g, code, group] =>
    if 7 < g.toNat ∨ group.toNat < 1 ∨ 8 < group.toNat then refuse .badArgument s
    else if (s.gate p g.toNat).kind ≠ 1 then refuse .badArgument s
    else
      match Berth.ofCode (s.gate p g.toNat).berth with
      | some b => admitAt p g.toNat code group.toNat b s
      | none => refuse .badArgument s
  | _ => refuse .badArgument s

/-- The end of the oldest record's window (R191). -/
def BerthBoard.dropOldest (v : BerthBoard) : BerthBoard := { v with pending := v.pending.tail }.settle

/-- PASSAGE_WINDOW_EXPIRY (R191): windows are equally long, so the record whose window ends first is the oldest of its list. -/
def execPassageWindowExpiry (b : Berth) (s : State) : Host.Outcome State Fault Refusal :=
  if (s.board.berths.get b).pending = [] then .next s
  else .next (settle s (s.setBoard b (s.board.berths.get b).dropOldest))

/-! ### Passage (R192 to R194) -/

/-- A berth with a gate's record removed from its list (R192). -/
def BerthBoard.dropGate (v : BerthBoard) (g : Nat) : BerthBoard :=
  { v with pending := v.pending.eraseP fun r => r.gate == g }.settle

/-- Add passed people to a berth's pen count. -/
def addPen (b : Berth) (n : Nat) (s : State) : State :=
  let v := s.board.berths.get b
  s.setBoard b { v with pen := satAdd 255 v.pen n }

/-- PASSAGE at an ENTRY gate (R192, R193). -/
def passEntry (p : Port) (g n : Nat) (b : Berth) (s : State) : State × Reply :=
  match s.holder (gateIndex p g) with
  | some k =>
    let s1 := addPen b n (s.setBoard k ((s.board.berths.get k).dropGate (gateIndex p g)))
    answerWith .done (.counted b (s1.board.berths.get b).pen) s1
  | none =>
    let s1 := addPen b n s
    let v := s1.board.berths.get b
    let s2 := raiseOnBoth .latePassage p (s1.setBoard b { v with late := satAdd 255 v.late 1 })
    answerWith .late (.counted b (s2.board.berths.get b).pen) s2

/-- PASSAGE at an EXIT gate (R194). -/
def passExit (n : Nat) (b : Berth) (s : State) : State × Reply :=
  let v := s.board.berths.get b
  let s1 := s.setBoard b ({ v with alighting := v.alighting - n }.openIfClear s.alightAllow)
  answerWith .done (.counted b (s1.board.berths.get b).alighting) s1

/-- PASSAGE (R192). -/
def reqPassage (p : Port) (body : List Byte) (s : State) : State × Reply :=
  match body with
  | [g, n] =>
    if 7 < g.toNat ∨ 8 < n.toNat then refuse .badArgument s
    else
      match (s.gate p g.toNat).kind, Berth.ofCode (s.gate p g.toNat).berth with
      | 1, some b => passEntry p g.toNat n.toNat b s
      | 2, some b => passExit n.toNat b s
      | _, _ => refuse .badArgument s
  | _ => refuse .badArgument s

/-! ### STATION CLEAR (R198) -/

/-- A berth cleared: pen and alighting counts 0, no pending record (R198, steps 1 and 2). -/
def BerthBoard.clear (v : BerthBoard) : BerthBoard := { v with pen := 0, alighting := 0, pending := [] }.settle

/-- STATION CLEAR's effect, with the car to be cleared, if any. -/
def clearStation (b : Berth) (x : Option Car) (s : State) : State × Reply :=
  let s1 := s.setBoard b (s.board.berths.get b).clear
  let s2 := match x with
    | some x => s1.setCarBoard x ⟨0, false⟩
    | none => s1
  answerWith .done (.boarding (s2.board.berths.get b).state (s2.quota b)) s2

/-- STATION CLEAR's own conditions (R198). -/
def stationClearAt (b : Berth) (empty : Bool) (s : State) : State × Reply :=
  if empty && !b.isTerminus then refuse .badArgument s
  else if (s.board.berths.get b).state = .open ∨ (s.board.berths.get b).state = .armed then refuse .interlock s
  else if empty then
    match s.carAt b with
    | some x => if (s.doors.get x).anyGrant then clearStation b (some x) s else refuse .interlock s
    | none => refuse .interlock s
  else clearStation b none s

/-- STATION CLEAR (R198). -/
def reqStationClear (p : Port) (body : List Byte) (s : State) : State × Reply :=
  match body with
  | [x, e] =>
    if 1 < e.toNat then refuse .badArgument s
    else
      match berthArg p x with
      | .error r => refuse r s
      | .ok b => stationClearAt b (e = 1) s
  | _ => refuse .badArgument s

/-! ### Counts from the cars (R187, R195 to R197) -/

/-- Set a car's uncertain flag; a setting that finds it clear raises COUNT_UNCERTAIN (R187). -/
def markUncertain (x : Car) (s : State) : State :=
  let c := s.board.cars.get x
  if c.uncertain then s else raiseAll .countUncertain (s.setCarBoard x { c with uncertain := true })

/-- A boarded delta at a car's berth: the pen count lowered, the excess counted (R196). -/
def boardAtBerth (b : Berth) (n : Nat) (s : State) : State :=
  let v := s.board.berths.get b
  if v.pen < n then
    raiseAll .countUncertain (s.setBoard b { v with pen := 0, excess := satAdd 255 v.excess (n - v.pen) })
  else s.setBoard b { v with pen := v.pen - n }

/-- A boarded delta of a car (R196). -/
def boarded (x : Car) (n : Nat) (s : State) : State :=
  let s1 := match s.berthOf x with
    | some b => boardAtBerth b n s
    | none => s
  let c := s1.board.cars.get x
  s1.setCarBoard x { c with onboard := satAdd 255 c.onboard n }

/-- An alighted delta of a car (R197). -/
def alighted (x : Car) (n : Nat) (s : State) : State :=
  let c := s.board.cars.get x
  let s1 := s.setCarBoard x { c with onboard := c.onboard - n }
  match s.berthOf x with
  | some b =>
    let v := s1.board.berths.get b
    s1.setBoard b { v with alighting := satAdd 255 v.alighting n }
  | none => s1

/-- A count hand-off with its deltas and its mark, FIRST or CONTINUING (R195); `none` for FIRST with no deltas. -/
def handCounts (x : Car) (first : Bool) (deltas : Option (Nat × Nat)) (s : State) : State :=
  match deltas with
  | none => s
  | some (b, a) => if first && (decide (64 < b) || decide (64 < a)) then markUncertain x s else alighted x a (boarded x b s)

end Sys2Proof.Machine
end

