-- ==== Sys2Proof/Machine/Doors.lean ====
section
/-! DEFINITION. The door controller's records, judgements and requests (chapter 08). -/

namespace Sys2Proof.Machine

/-! ### Leaf records (R160, R161) -/

/-- The records of one side laid out afresh (R160). -/
def layoutSide (set : Byte) : Six LeafRecord := .ofFn fun k => if memberAt set k then .unreported else .absent

/-- A car's records laid out for a new car ability. -/
def layoutLeaves (x : Car) (r : Ability) (s : State) : State :=
  s.setDoors x { s.doors.get x with leaves := ⟨layoutSide r.left, layoutSide r.right⟩ }

/-- The record written for a reported leaf state; a present leaf reported ABSENT is written as FAULT (R161). -/
def LeafState.record : LeafState → LeafRecord
  | .absent => .fault
  | .locked => .locked
  | .closed => .closed
  | .moving => .moving
  | .open => .open
  | .obstructed => .obstructed
  | .fault => .fault

/-- One side's records after a block: the present leaves written, the others kept. -/
def writeSide (set : Byte) (old : Six LeafRecord) (l : Six LeafState) : Six LeafRecord :=
  (old.zipWith (fun r v => (r, v)) l).zipWith (fun p m => if m then p.2.record else p.1) (Six.ofFn fun k => memberAt set k)

/-- A car's records written from a block (R161). -/
def writeLeaves (x : Car) (k : StatusBlock) (s : State) : State :=
  let c := s.doors.get x
  s.setDoors x { c with leaves :=
    ⟨writeSide (s.present x .left) c.leaves.left k.leaves.left, writeSide (s.present x .right) c.leaves.right k.leaves.right⟩ }

/-- Every present leaf of a side is LOCKED in a block. -/
def State.sideLocked (s : State) (x : Car) (k : StatusBlock) (d : Side) : Bool :=
  allPresent (fun v => v == LeafState.locked) (s.present x d) (k.leaves.get d)

/-- The close orders after a block, against the link as it stands after the block was applied to it (R172). -/
def judgeCloseOrders (x : Car) (k : StatusBlock) (s : State) : State :=
  if s.stale x then s
  else
    let c := s.doors.get x
    s.setDoors x { c with close :=
      ⟨c.close.left && !s.sideLocked x k .left, c.close.right && !s.sideLocked x k .right⟩ }

/-! ### Unauthorised opening (R173, R174) -/

/-- A set given by its members. -/
def setOf (t : Six Bool) : Byte :=
  ((t.toList.zip (List.range 6)).filter fun p => p.1).foldl (fun set p => set ||| (1#8 <<< p.2)) 0

/-- Whether a leaf state is OPEN or MOVING. -/
def LeafState.opening : LeafState → Bool
  | .open => true
  | .moving => true
  | _ => false

/-- The compartments of a side that a block reports OPEN or MOVING. -/
def openingSet (l : Six LeafState) : Byte := setOf (l.zipWith (fun v _ => v.opening) l)

/-- The leaves of a side that are authorised: all under a close order, otherwise those of the grant's set (R173). -/
def CarDoors.authorised (c : CarDoors) (d : Side) : Byte :=
  if c.close.get d then 0xFF#8
  else
    match c.grants.get d with
    | some g => g.set
    | none => 0

/-- The marks of a side after a block: the present leaves judged afresh (R173). -/
def CarDoors.judgeMarks (c : CarDoors) (d : Side) (present opening : Byte) : Byte :=
  (c.marks.get d &&& ~~~present) ||| (present &&& opening &&& ~~~c.authorised d)

/-- Raise DOOR_UNAUTHORISED for the berth where the car stands (R213). -/
def raiseUnauthorised (b : Option Berth) (s : State) : State :=
  match b with
  | some b => raiseOnBoth .doorUnauthorised b.station s
  | none => raiseAll .doorUnauthorised s

/-- The judgement of unauthorised opening at a block taken while the records are current (R173), and its hand-off to the boarding
controller (R174). -/
def judgeUnauthorised (x : Car) (k : StatusBlock) (s : State) : State :=
  if s.stale x then s
  else
    let c := s.doors.get x
    let l := c.judgeMarks .left (s.present x .left) (openingSet k.leaves.left)
    let r := c.judgeMarks .right (s.present x .right) (openingSet k.leaves.right)
    let s1 := s.setDoors x { c with marks := ⟨l, r⟩ }
    if (l &&& ~~~c.marks.left) = 0 ∧ (r &&& ~~~c.marks.right) = 0 then s1
    else
      match s1.berthOf x with
      | some b => moveBerth b (raiseUnauthorised (some b) s1)
      | none => raiseUnauthorised none s1

/-- What the door controller does at a block handed on (R161). -/
def doorBlock (x : Car) (k : StatusBlock) (s : State) : State :=
  judgeUnauthorised x k (judgeCloseOrders x k (writeLeaves x k s))

/-! ### DOOR RELEASE (R166, R167) -/

/-- The side a byte names, LEFT 1 or RIGHT 2. -/
def sideArg (x : Byte) : Option Side := if x = 1 then some .left else if x = 2 then some .right else none

/-- DOOR RELEASE's own conditions and effect. -/
def doorReleaseAt (p : Port) (b : Berth) (d : Side) (s : State) : State × Reply :=
  match s.carAt b, s.berthEntry b with
  | some x, some e =>
    match s.releaseFault x b e d with
    | some r => answerWith .interlock (.doorReason r) s
    | none =>
      match (s.doors.get x).grants.get d with
      | some g => answerWith .done (.grant x d g.set) s
      | none =>
        answerWith .done (.grant x d (s.grantSet x e d)) (makeGrant x d ⟨b, s.grantSet x e d, s.trip.number, .request p⟩ s)
  | _, _ => answerWith .interlock (.doorReason .noCar) s

/-- DOOR RELEASE (R166). -/
def reqDoorRelease (p : Port) (body : List Byte) (s : State) : State × Reply :=
  if s.trip.line ≠ .parked then refuse .wrongState s
  else
    match body with
    | [x, y] =>
      match sideArg y with
      | none => refuse .badArgument s
      | some d =>
        match berthArg p x with
        | .error r => refuse r s
        | .ok b => doorReleaseAt p b d s
    | _ => refuse .badArgument s

/-! ### DOOR CLOSE (R171) -/

/-- Close one side of a car: its grant withdrawn, or a close order where the side has a present leaf. -/
def closeSide (x : Car) (d : Side) (s : State) : State :=
  match (s.doors.get x).grants.get d with
  | some _ => withdraw x d s
  | none =>
    if s.present x d = 0 then s
    else
      let c := s.doors.get x
      s.setDoors x { c with close := c.close.set d true }

/-- Close the sides of a set on a car. -/
def closeSides (x : Car) (set : Byte) (s : State) : State := (sidesOf set).foldl (fun t d => closeSide x d t) s

/-- DOOR CLOSE's effect. -/
def doorCloseAt (b : Berth) (set : Byte) (s : State) : State × Reply :=
  let s1 := match s.carAt b with
    | some x => closeSides x set s
    | none => closeSides .b set (closeSides .a set s)
  answerWith .done (.closeOrders (s1.doors.map fun c => c.close)) s1

/-- DOOR CLOSE (R171). -/
def reqDoorClose (p : Port) (body : List Byte) (s : State) : State × Reply :=
  match body with
  | [x, y] =>
    if y.toNat < 1 ∨ 3 < y.toNat then refuse .badArgument s
    else
      match berthArg p x with
      | .error r => refuse r s
      | .ok b => doorCloseAt b y s
  | _ => refuse .badArgument s

end Sys2Proof.Machine
end

