-- ==== Sys2Proof/Machine/Track.lean ====
section
/-! DEFINITION. The track line controller: turns, answers, calls, jams, car links, command and status blocks (chapter 07). A command
that meets no such wait (an expiry of a stopped limit, an answer nobody awaits) changes nothing but, where it is a drive of the line,
the quiet time; a drive in phase FREE that is no call is a garbled one (R141). -/

namespace Sys2Proof.Machine

/-! ### Turns (R134 to R138) -/

/-- Replace the track line controller's state. -/
def State.setTrack (s : State) (t : Track) : State := { s with track := t }

/-- Whether the part drives the line (R134): while it sends its selection or its command block. -/
def Track.partDrives (t : Track) : Bool :=
  match t.phase with
  | .select => !t.acceptLimit
  | .command => true
  | _ => false

/-- Whether a participant drives the line. -/
def Track.driven (t : Track) : Bool := t.othersDrive || t.partDrives

/-- Whether an ACCEPT is awaited and would be heard (R136). -/
def Track.hearsAccept (t : Track) : Bool := t.acceptLimit && !t.unheard

/-- Whether a status block or ability record is awaited and would be heard (R136). -/
def Track.hearsAnswer (t : Track) : Bool := t.answerLimit && !t.unheard

/-- The turn kind of a link state (R143). -/
def Link.turnKind : Link → TurnKind
  | .down => .identify
  | .listen => .identify
  | .ability => .identify
  | .confirm => .poll
  | .complete => .poll
  | .check => .poll
  | .mismatch => .identify

/-- The car to which a turn goes (R135), with the owed turns left. -/
def Track.nextTurnCar (t : Track) : Option (Car × Option Car × List Car) :=
  match t.outOfTurn, t.owed with
  | x :: l, o => some (x, o, l)
  | [], some x => some (x, none, [])
  | [], none => none

/-- Begin a turn where the phase is FREE, the quiet time has reached FREE_INTERVAL and a turn is owed (R135): the selection is sent. No earlier
drive is left that could answer in it (R136). -/
def tryTurn (s : State) : State :=
  if s.track.phase = .free ∧ s.track.quiet ∧ !s.track.othersDrive then
    match s.track.nextTurnCar with
    | some (x, o, l) =>
      let t : Turn := ⟨x, (s.track.cars.get x).link.turnKind⟩
      s.setTrack { s.track with
        phase := .select, quiet := false, unheard := false, owed := o, outOfTurn := l, turn := some t, acceptLimit := false,
        answerLimit := false, sent := .selection t }
    | none => s
  else s

/-- A drive of the line by another participant: the quiet time starts again. -/
def unquiet (s : State) : State := s.setTrack { s.track with quiet := false }

/-- The end of a turn: phase FREE, its limits stopped. -/
def endTurn (s : State) : State :=
  s.setTrack { s.track with phase := .free, turn := none, acceptLimit := false, answerLimit := false }

/-- A missed answer counted on the selected car, saturating with its overflow flag (R138). -/
def CarLink.countMissed (c : CarLink) : CarLink :=
  if c.missed < 65535 then { c with missed := c.missed + 1 } else { c with missedOverflow := true }

/-- A missed answer of the turn in hand (R138, R148): the turn ends, the miss is counted but for a missed ACCEPT of a DOWN car in an
IDENTIFY turn, and a POLL turn takes the link from COMPLETE to CHECK. -/
def missAnswer (s : State) : State :=
  match s.track.turn with
  | none => s
  | some t =>
    let c := s.track.cars.get t.car
    let silent := t.kind = .identify ∧ c.link = .down ∧ s.track.phase = .select
    let s1 := endTurn (if silent then s else s.setCar t.car c.countMissed)
    if t.kind = .poll ∧ c.link = .complete then setLink t.car .check s1 else s1

/-- A missed answer as an event, and the turn that may begin at it. -/
def missEvent (s : State) : State := settle s (tryTurn (missAnswer s))

/-! ### Calls and stray drives (R140, R141) -/

/-- A call from a car (R140). -/
def takeCall (x : Car) (s : State) : State :=
  let c := s.track.cars.get x
  if c.window then s.setCar x { c with calls := satAdd 255 c.calls 1 }
  else
    let s1 := s.setCar x { c with window := true }
    s1.setTrack { s1.track with
      outOfTurn := if s1.track.outOfTurn.contains x then s1.track.outOfTurn else s1.track.outOfTurn ++ [x] }

/-- A drive of the line by another participant that is neither an answer the part hears nor a valid call: in phase FREE a garbled call, taken as
a call from both cars, car A first (R141), and in any other phase a drive only. -/
def strayDrive (s : State) : State :=
  let s1 := unquiet s
  match s1.track.phase with
  | .free => takeCall .b (takeCall .a s1)
  | _ => s1

/-! ### The command block (R153) -/

/-- The next berth a command block carries for a car (R153). -/
def State.nextBerth (s : State) (x : Car) : Option Berth :=
  if s.trip.live then s.trip.record.map fun r => r.target.get x
  else if s.trip.line.isRail then some (s.sched.targets.get x)
  else
    match s.trip.line with
    | .parked => s.berthOf x
    | .testing .eb => s.berthOf x
    | _ => none

/-- The direction a command block carries (R153). -/
def State.commandDir (s : State) : Dir :=
  match s.trip.line with
  | .testing .railA => .down
  | .testing .railB => .up
  | _ =>
    match s.trip.record with
    | some r => r.dir
    | none => .up

/-- The release set of a side: the set of the active grant, or the empty set. -/
def CarDoors.releaseSet (c : CarDoors) (d : Side) : Byte :=
  match c.grants.get d with
  | some g => g.set
  | none => 0

/-- The digest a command block carries: that of the car's ability in CONFIRM, otherwise 0 (R147, R152). -/
def CarLink.confirmDigest (c : CarLink) : Byte :=
  match c.link, c.ability with
  | .confirm, some r => r.digest
  | _, _ => 0

/-- The command block for a car, from the state as it stands (R153). -/
def State.commandBlock (s : State) (x : Car) : CommandBlock :=
  let c := s.track.cars.get x
  let d := s.doors.get x
  { car := x, line := s.trip.line, number := s.trip.number, dir := s.commandDir, next := s.nextBerth x,
    release := ⟨d.releaseSet .left, d.releaseSet .right⟩, close := d.close, order := s.sup.railOrder.get x,
    railTest := s.trip.line.isRail && (match s.trip.line with | .testing k => testCar k == x | _ => false),
    standstill := s.rope.flag, confirm := c.link == .confirm, digest := c.confirmDigest }

/-! ### Selection, ACCEPT, command block -/

/-- SELECTION_SENT: the end of the selection starts the ACCEPT limit (R136, R137). -/
def execSelectionSent (s : State) : Host.Outcome State Fault Refusal :=
  if s.track.phase = .select ∧ !s.track.acceptLimit then .next (s.setTrack { s.track with acceptLimit := true }) else .next s

/-- A valid ACCEPT from the selected car (R136, R137, R144). A drive of the car that goes on into the command block is not heard. -/
def takeAccept (t : Turn) (s : State) : State :=
  match t.kind with
  | .poll =>
    s.setTrack { s.track with
      phase := .command, acceptLimit := false, quiet := false, unheard := s.track.othersDrive, sent := .command (s.commandBlock t.car) }
  | .identify =>
    let s1 := s.setTrack { s.track with phase := .status, acceptLimit := false, answerLimit := true, quiet := false }
    let c := s1.track.cars.get t.car
    if c.link = .down then setLink t.car .listen (s1.setCar t.car { c with silence := true, refusals := 0 }) else s1

/-- A transmission of one character, judged by the phase it meets. In FREE a valid call character is a call (R140) and any other a garbled one
(R141). Where an ACCEPT is awaited, the selected car's accept code is its ACCEPT (R136, R137), a valid call character is no answer (DESIGN
CHOICE, log entry 61), and any other character is a complete answer that is invalid (R138). Elsewhere the character is a drive only. -/
def oneCharacter (c : LineChar) (s : State) : State :=
  match s.track.phase, s.track.hearsAccept, s.track.turn with
  | .free, _, _ =>
    match callOf c with
    | some x => takeCall x (unquiet s)
    | none => strayDrive s
  | .select, true, some t =>
    if acceptOf c = some t.car then settle s (takeAccept t s)
    else if (callOf c).isSome then unquiet s
    else missEvent (unquiet s)
  | _, _, _ => unquiet s

/-- ACCEPT_RECEIVED (R136, R137). -/
def execAcceptReceived (c : LineChar) (s : State) : Host.Outcome State Fault Refusal := .next (oneCharacter c s)

/-- COMMAND_BLOCK_SENT: the end of the command block starts the answer limit (R136). -/
def execCommandBlockSent (s : State) : Host.Outcome State Fault Refusal :=
  if s.track.phase = .command then .next (s.setTrack { s.track with phase := .status, answerLimit := true, quiet := false }) else .next s

/-- ACCEPT_LIMIT_EXPIRY (R138). -/
def execAcceptLimitExpiry (s : State) : Host.Outcome State Fault Refusal :=
  if s.track.acceptLimit then .next (missEvent s) else .next s

/-- ANSWER_LIMIT_EXPIRY (R138). -/
def execAnswerLimitExpiry (s : State) : Host.Outcome State Fault Refusal :=
  if s.track.answerLimit then .next (missEvent s) else .next s

/-- INVALID_ANSWER_RECEIVED (R138). -/
def execInvalidAnswerReceived (s : State) : Host.Outcome State Fault Refusal :=
  if s.track.hearsAccept || s.track.hearsAnswer then .next (missEvent (unquiet s)) else .next (strayDrive s)

/-! ### Ability records (R145, R146) -/

/-- The record of the CARS table for a car. -/
def Tables.expected (t : Tables) (x : Car) : Option Ability := t.cars.map fun c => c.get x

/-- The comparison of R146: for a link in ABILITY, where the tables are valid. -/
def compareAbility (x : Car) (s : State) : State :=
  if (s.track.cars.get x).link = .ability ∧ s.tables.valid then
    match (s.track.cars.get x).reported with
    | some r =>
      if s.tables.expected x = some r then
        let s1 := setLink x .confirm s
        layoutLeaves x r (s1.setCar x { s1.track.cars.get x with ability := some r, refusals := 0 })
      else setLink x .mismatch s
    | none => s
  else s

/-- A valid ability record (R145). -/
def takeAbility (x : Car) (r : Ability) (s : State) : State :=
  let c := s.track.cars.get x
  let s1 := s.setCar x { c with reported := some r, silence := if c.link = .down then c.silence else true }
  if c.link = .listen then compareAbility x (setLink x .ability s1) else s1

/-- ABILITY_RECORD_RECEIVED (R145). The fifteen characters answer an IDENTIFY turn; where a POLL turn awaits its seventeen, or an ACCEPT is
awaited, they are no complete answer (R138; log entries 32 and 61). -/
def execAbilityRecordReceived (chars : List LineChar) (s : State) : Host.Outcome State Fault Refusal :=
  match s.track.hearsAnswer, s.track.turn with
  | true, some ⟨x, .identify⟩ =>
    match readAbility x chars with
    | some r => .next (settle s (tryTurn (endTurn (takeAbility x r (unquiet s)))))
    | none => .next (missEvent (unquiet s))
  | _, _ => .next (strayDrive s)

/-! ### Status blocks (R147, R148, R154, R155) -/

/-- Steps 1 and 3 of R154 on the link record: the silence limit where the link is not DOWN, FRESH with its limit, and the block kept. -/
def CarLink.keepBlock (c : CarLink) (k : StatusBlock) : CarLink :=
  { c with block := some k, fresh := true, silence := if c.link = .down then c.silence else true }

/-- The block applied to the link (R147, R148). -/
def applyBlock (x : Car) (k : StatusBlock) (s : State) : State :=
  let c := s.track.cars.get x
  match c.link with
  | .confirm =>
    if k.ack then setLink x .complete s
    else if c.refusals + 1 < 3 then s.setCar x { c with refusals := c.refusals + 1 }
    else setLink x .listen (s.setCar x { c with refusals := 0 })
  | .check => setLink x .complete s
  | _ => s

/-- The deltas of a block against the baselines (R155). -/
def blockDeltas (base : Option (Byte × Byte)) (k : StatusBlock) : Option (Nat × Nat) :=
  base.map fun p => ((k.boarded - p.1).toNat, (k.alighted - p.2).toNat)

/-- The counts handed on for a block taken in COMPLETE or CHECK after it was applied, marked FIRST where it completed a bring-up (R155). -/
def handOnCounts (x : Car) (first : Bool) (k : StatusBlock) (s : State) : State :=
  let c := s.track.cars.get x
  if c.link.usable then handCounts x first (blockDeltas c.baselines k) (s.setCar x { c with baselines := some (k.boarded, k.alighted) })
  else s

/-- A newly reported passenger alarm (R79): the notice, and a hold in RUNNING outside HOLDING or in a recovery move with no hold or
service stop in hand. -/
def takeAlarm (s : State) : State :=
  let s1 := raiseAll .passengerAlarm s
  match s1.trip.line with
  | .running .holding => s1
  | .running _ => holdTrip .alarm s1
  | .recovery true =>
    match s1.trip.stop with
    | .hold => s1
    | .service => s1
    | _ => holdMove .alarm s1
  | _ => s1

/-- The contents of a block handed on (R154, step 4): leaf states to the door controller and to the supervisor (R107), the passenger
alarm against the previous block (R79), the car overspeed flag (R107), the counts (R155). -/
def handOn (x : Car) (first wasAlarm : Bool) (k : StatusBlock) (s : State) : State :=
  let s1 := doorBlock x k s
  let s2 := causeIf (s1.sup.drvEn && !(s.sideLocked x k .left && s.sideLocked x k .right)) .doorUnlockedMoving s1
  let s3 := if k.alarm && !wasAlarm then takeAlarm s2 else s2
  let s4 := causeIf k.overspeed .carOverspeed s3
  handOnCounts x first k s4

/-- A valid status block (R154). -/
def takeStatus (x : Car) (k : StatusBlock) (s : State) : State :=
  let c := s.track.cars.get x
  handOn x (c.link == .confirm) c.alarm k (applyBlock x k (s.setCar x (c.keepBlock k)))

/-- STATUS_BLOCK_RECEIVED (R154), at which the departure interlock is evaluated (R63). The seventeen characters answer a POLL turn; in an
IDENTIFY turn that awaits its answer they are a complete answer that is invalid, and where an ACCEPT is awaited no answer (R138; log entries
32 and 61). -/
def execStatusBlockReceived (chars : List LineChar) (s : State) : Host.Outcome State Fault Refusal :=
  match s.track.hearsAnswer, s.track.turn with
  | true, some ⟨x, .poll⟩ =>
    match readStatus x chars with
    | some k => .next (settleWith true (tryTurn (endTurn (takeStatus x k (unquiet s)))))
    | none => .next (missEvent (unquiet s))
  | true, some ⟨_, .identify⟩ => .next (missEvent (unquiet s))
  | _, _ => .next (strayDrive s)

/-! ### Poll timer, calls (R139 to R141) -/

/-- POLL_TIMER_EXPIRY (R139). -/
def execPollTimerExpiry (s : State) : Host.Outcome State Fault Refusal :=
  match s.track.owed with
  | none => .next (tryTurn (s.setTrack { s.track with owed := some s.track.nextTurn, nextTurn := s.track.nextTurn.other }))
  | some _ => .next (tryTurn s)

/-- CALL_RECEIVED (R140). -/
def execCallReceived (c : LineChar) (s : State) : Host.Outcome State Fault Refusal := .next (oneCharacter c s)

/-- GARBLED_CALL (R141). -/
def execGarbledCall (s : State) : Host.Outcome State Fault Refusal := .next (strayDrive s)

/-- CALL_WINDOW_EXPIRY (R140). -/
def execCallWindowExpiry (x : Car) (s : State) : Host.Outcome State Fault Refusal :=
  .next (s.setCar x { s.track.cars.get x with window := false })

/-! ### Quiet time, drives and jams (R134, R135, R142) -/

/-- FREE_INTERVAL_REACHED (R135, R142): JAMMED returns to FREE, and an owed turn begins. -/
def execFreeIntervalReached (s : State) : Host.Outcome State Fault Refusal :=
  if s.track.driven then .next s
  else
    .next (tryTurn (s.setTrack { s.track with
      quiet := true, phase := if s.track.phase = .jammed then .free else s.track.phase }))

/-- TRACK_DRIVE_START (R142). A drive that begins before the part has released the line is not heard as an answer (R136);
the next drive is judged afresh. -/
def execTrackDriveStart (s : State) : Host.Outcome State Fault Refusal :=
  if s.track.othersDrive then .next s
  else .next (s.setTrack { s.track with othersDrive := true, driveLimit := true, quiet := false, unheard := s.track.partDrives })

/-- TRACK_DRIVE_END (R134). An answer's last character and the end of its drive fall together and may be taken in either order, so `unheard`
stands: an early answer is not heard after the end of its drive either (R136, log entry 64). -/
def execTrackDriveEnd (s : State) : Host.Outcome State Fault Refusal :=
  .next (s.setTrack { s.track with othersDrive := false, driveLimit := false, quiet := false })

/-- The entry to JAMMED (R142): the jam counted and handed to the supervisor (R106), the trip controller (R90) and the door controller
(R169). -/
def jam (s : State) : State :=
  let s1 := endTurn s
  let s2 := s1.setTrack { s1.track with phase := .jammed, jams := satAdd 255 s1.track.jams 1 }
  withdrawAll (causeIf s2.lossTrips .trackLineJammed s2)

/-- DRIVE_LIMIT_EXPIRY (R142). On a line already JAMMED no new entry is made. -/
def execDriveLimitExpiry (s : State) : Host.Outcome State Fault Refusal :=
  if !s.track.driveLimit then .next s
  else
    let s1 := s.setTrack { s.track with driveLimit := false }
    if s1.track.phase = .jammed then .next s1 else .next (settle s (jam s1))

/-! ### Silence and freshness (R149, R154) -/

/-- The end of a car's silence limit (R149). -/
def loseCar (x : Car) (s : State) : State :=
  let c := s.track.cars.get x
  let s1 := s.setCar x { c with silence := false }
  match c.link with
  | .mismatch => s1
  | _ => setLink x .down s1

/-- SILENCE_LIMIT_EXPIRY (R149). -/
def execSilenceLimitExpiry (x : Car) (s : State) : Host.Outcome State Fault Refusal :=
  if (s.track.cars.get x).silence then .next (settle s (loseCar x s)) else .next s

/-- FRESHNESS_LIMIT_EXPIRY (R154): the status block becomes AGED. -/
def execFreshnessLimitExpiry (x : Car) (s : State) : Host.Outcome State Fault Refusal :=
  .next (settle s (s.setCar x { s.track.cars.get x with fresh := false }))

end Sys2Proof.Machine
end

