-- ==== Sys2Proof/Machine/Tables.lean ====
section
/-! DEFINITION. The table store (chapter 01): staging, validation in the order of the rules, commits and what they do to their dependents,
reading back. -/

namespace Sys2Proof.Machine

/-- A failed check of a table: the failing index and its reason (R11). -/
abbrev TableFault := Nat × TableReason

/-- A judgement of a table's entries: `none` where they pass. -/
abbrev TableJudgement := Option TableFault

/-- The first failing entry of a table, taken in index order, each with the entry before it. -/
def firstFault {α : Type} (check : Nat → Option α → α → TableJudgement) : Nat → Option α → List α → TableJudgement
  | _, _, [] => none
  | i, prev, e :: l =>
    match check i prev e with
    | some f => some f
    | none => firstFault check (i + 1) (some e) l

/-- A check that fails with a reason at an index. -/
def failAt (i : Nat) (r : TableReason) : TableJudgement := some (i, r)

/-! ### LINE (R1, R2) -/

/-- The value of a staged LINE field: COLD_LIMIT (index 18) is signed, the others unsigned. -/
def lineField (i : Nat) (e : List Byte) : Int := if i = 18 then signed 32 (beNat e) else (beNat e : Int)

/-- The default of a field for a staged 0, given the staged v_line, where it has one (R1). -/
def lineDefault (i : Nat) (v : Int) : Option Int :=
  match i with
  | 9 => some (v / 2)
  | 10 => some 1000
  | 11 => some (min 3000 v)
  | 12 => some (min 9000 v)
  | 13 => some (min 6000 v)
  | 14 => some (min 3000 v)
  | 15 => some 480
  | 16 => some 1440
  | 17 => some 1440
  | 19 => some 8
  | _ => none

/-- The range of a field, given the staged v_line (R1). -/
def lineRange (i : Nat) (v : Int) : Int × Int :=
  match i with
  | 0 => (100000, 4000000)
  | 1 => (1000, 14000)
  | 2 => (200, 1500)
  | 3 => (200, 1500)
  | 4 => (300, 2000)
  | 5 => (100, 1000)
  | 6 => (500, 5000)
  | 7 => (1000, 10000)
  | 8 => (500, 20000)
  | 9 => (300, v)
  | 10 => (300, min 2000 v)
  | 11 => (300, v)
  | 12 => (300, v)
  | 13 => (300, v)
  | 14 => (300, v)
  | 15 => (30, 1440)
  | 16 => (30, 1440)
  | 17 => (30, 1440)
  | 18 => (-20, 20)
  | 19 => (2, 30)
  | _ => (0, 20)

/-- A field with its default substituted for a staged 0 (R1). -/
def substitute (i : Nat) (v x : Int) : Int :=
  match lineDefault i v with
  | some y => if x = 0 then y else x
  | none => x

/-- The 21 staged fields with their defaults substituted. -/
def lineFields (l : List (List Byte)) : List Int :=
  let v := lineField 1 (l.getD 1 [])
  (List.range 21).map fun i => substitute i v (lineField i (l.getD i []))

/-- The range checks of R1, in index order, on fields already substituted. -/
def judgeLine (f : List Int) : TableJudgement :=
  firstFault (fun i _ x =>
    if (lineRange i (f.getD 1 0)).1 ≤ x ∧ x ≤ (lineRange i (f.getD 1 0)).2 then none else failAt i .range) 0 none f

/-- The silent clamp of a_dec (R2). -/
def clampDec (h : Header) : Header := { h with aDec := min h.aDec (h.aSb * 7 / 8) }

/-! ### SECTIONS (R3) -/

/-- The checks of one section: its start joins, its end is above its start, and both its end and its limit are in range. -/
def judgeSection (len : Nat) (i : Nat) (prev : Option SectionEntry) (e : SectionEntry) : TableJudgement :=
  let join := match prev with
    | some q => q.stop
    | none => 0
  if e.start ≠ join then failAt i .coverage
  else if e.stop ≤ e.start then failAt i .order
  else if len < e.stop then failAt i .range
  else if e.limit < 300 ∨ 14000 < e.limit then failAt i .range
  else none

/-- The checks of R3, the end of the last entry after them. -/
def judgeSections (h : Header) (l : List SectionEntry) : TableJudgement :=
  match firstFault (judgeSection h.lineLen) 0 none l with
  | some f => some f
  | none =>
    match l.getLast? with
    | some e => if e.stop = h.lineLen then none else failAt (l.length - 1) .coverage
    | none => none

/-! ### BERTHS (R4) -/

/-- The checks of one berth. -/
def judgeBerth (len : Nat) (i : Nat) (prev : Option BerthEntry) (e : BerthEntry) : TableJudgement :=
  let lo : Int := -1000
  let hi : Int := len + 1000
  if len < e.position ∨ e.zoneLo < lo ∨ hi < e.zoneLo ∨ e.zoneHi < lo ∨ hi < e.zoneHi ∨ 3 < e.sides.toNat ∨
      e.first < 1 ∨ 6 < e.first ∨ e.last < e.first ∨ 6 < e.last ∨ 1 < e.autoRelease then failAt i .range
  else if (e.position : Int) < e.zoneLo ∨ e.zoneHi < (e.position : Int) then failAt i .zone
  else if (match prev with | some q => decide (e.zoneLo ≤ q.zoneHi) | none => false) then failAt i .zone
  else if (match prev with | some q => decide (e.position ≤ q.position) | none => false) then failAt i .order
  else if e.autoRelease = 1 ∧ e.sides = 0 then failAt i .range
  else none

/-- The checks of R4, the two mirror checks after the entries. -/
def judgeBerths (h : Header) (t : PerBerth BerthEntry) : TableJudgement :=
  match firstFault (judgeBerth h.lineLen) 0 none [t.b0, t.b1, t.b2, t.b3] with
  | some f => some f
  | none =>
    if 500 < distance ((t.b1.position : Int) + t.b2.position) h.lineLen then failAt 2 .mirror
    else if 500 < distance ((t.b0.position : Int) + t.b3.position) h.lineLen then failAt 3 .mirror
    else none

/-! ### MARKERS, CARS, GATES, RULES (R5 to R8) -/

/-- The checks of one free marker (R5). -/
def judgeMarker (len : Nat) (i : Nat) (prev : Option MarkerEntry) (e : MarkerEntry) : TableJudgement :=
  if e.input < 4 ∨ 7 < e.input ∨ len < e.position ∨ e.car < 1 ∨ 3 < e.car ∨ e.window < 100 ∨ 3000 < e.window then failAt i .range
  else if (match prev with | some q => decide (e.input ≤ q.input) | none => false) then failAt i .order
  else none

/-- The checks of R5. -/
def judgeMarkers (h : Header) (l : List MarkerEntry) : TableJudgement := firstFault (judgeMarker h.lineLen) 0 none l

/-- Whether one compartment's capacity and leaves agree with the compartment count (R6): compartment k + 1. -/
def compartmentOk (r : Ability) (k : Nat) : Bool :=
  let c := (r.capacities.toList.getD k 0).toNat
  if k < r.count then decide (1 ≤ c) && decide (c ≤ 40) && (memberAt r.left k || memberAt r.right k)
  else c == 0 && !memberAt r.left k && !memberAt r.right k

/-- Whether an ability record's fields are in range and agree (R6). -/
def abilityOk (r : Ability) : Bool :=
  decide (1 ≤ r.identity) && decide (1 ≤ r.count) && decide (r.count ≤ 6) && decide (r.left.toNat < 64) && decide (r.right.toNat < 64) &&
    decide (r.railKind.toNat ≤ 1) && (List.range 6).all (compartmentOk r)

/-- The checks of one CARS entry (R6). -/
def judgeCar (i : Nat) (prev : Option Ability) (r : Ability) : TableJudgement :=
  if !abilityOk r then failAt i .range
  else if r.digest ≠ r.sum then failAt i .digest
  else if (match prev with | some q => q.identity == r.identity | none => false) then failAt i .duplicate
  else none

/-- The checks of one gate (R7): the lower station's gates are entries 0 to 7. -/
def judgeGate (i : Nat) (_ : Option GateEntry) (e : GateEntry) : TableJudgement :=
  if 2 < e.kind then failAt i .range
  else if e.kind = 0 then none
  else if i < 8 then (if e.berth ≤ 1 then none else failAt i .range)
  else if e.berth = 2 ∨ e.berth = 3 then none
  else failAt i .range

/-- The checks of one admission rule (R8). -/
def judgeRule (i : Nat) (_ : Option RuleEntry) (e : RuleEntry) : TableJudgement :=
  if e.action < 1 ∨ 2 < e.action ∨ e.limit < 1 ∨ 8 < e.limit then failAt i .range else none

/-! ### Staging (R9, R10, R12) -/

/-- Whether a table is one of geometry and cars (R12), legal in CLOSED only. -/
def TableId.isGeometry : TableId → Bool
  | .gates => false
  | .rules => false
  | _ => true

/-- The line-state legality of the table requests (R12): `none` where accepted. -/
def tableRefusal (t : TableId) (l : LineState) : Option Result :=
  match l with
  | .closed => none
  | .parked => if t.isGeometry then some .wrongState else none
  | .testing _ => some .busy
  | _ => some .wrongState

/-- Replace the table store's state. -/
def State.setTables (s : State) (t : Tables) : State := { s with tables := t }

/-- TABLE BEGIN (R9). -/
def reqTableBegin (_ : Port) (body : List Byte) (s : State) : State × Reply :=
  match body with
  | [x] =>
    match TableId.ofCode x.toNat with
    | none => refuse .badArgument s
    | some t =>
      match tableRefusal t s.trip.line with
      | some r => refuse r s
      | none => done (s.setTables { s.tables with staging := some ⟨t, List.replicate t.maxEntries none, 0⟩ })
  | _ => refuse .badArgument s

/-- The whole entries in some bytes. -/
def chunks (size : Nat) : Nat → List Byte → List (List Byte)
  | 0, _ => []
  | k + 1, l => l.take size :: chunks size k (l.drop size)

/-- Write entries from an index on, in ascending order (R10). -/
def writeEntries : Nat → List (List Byte) → List (Option (List Byte)) → List (Option (List Byte))
  | _, [], l => l
  | i, e :: es, l => writeEntries (i + 1) es (l.set i (some e))

/-- The staging area after some entries are written (R10). -/
def Staging.write (g : Staging) (first : Nat) (es : List (List Byte)) : Staging :=
  { g with entries := writeEntries first es g.entries, count := max g.count (first + es.length) }

/-- TABLE ENTRIES (R10). -/
def reqTableEntries (_ : Port) (body : List Byte) (s : State) : State × Reply :=
  match s.tables.staging with
  | none => refuse .wrongState s
  | some g =>
    match tableRefusal g.table s.trip.line with
    | some r => refuse r s
    | none =>
      match body with
      | [] => refuse .badArgument s
      | x :: l =>
        if l = [] ∨ l.length % g.table.entrySize ≠ 0 then refuse .badArgument s
        else if g.table.maxEntries < x.toNat + l.length / g.table.entrySize then refuse .badArgument s
        else
          done (s.setTables { s.tables with
            staging := some (g.write x.toNat (chunks g.table.entrySize (l.length / g.table.entrySize) l)) })

/-! ### Commits (R11, R13 to R16) -/

/-- The first absent index below the larger of the staged count and the table's least number of entries (R11, step 1). -/
def Staging.missing (g : Staging) : Option Nat :=
  (List.range (max g.count g.table.minEntries)).find? fun i => (g.entries.getD i none).isNone

/-- The staged entries' bytes, where none below the staged count is absent. -/
def Staging.bytes (g : Staging) : List (List Byte) := (g.entries.take g.count).map fun e => e.getD []

/-- What a successful validation leaves to commit. -/
inductive Validated where
  | line (h : Header)
  | sections (l : List SectionEntry)
  | berths (t : PerBerth BerthEntry)
  | markers (l : List MarkerEntry)
  | cars (t : PerCar Ability)
  | gates (l : List GateEntry)
  | rules (l : List RuleEntry)
  deriving DecidableEq, Repr

/-- A validated table, or the fault of its judgement. -/
def judged (j : TableJudgement) (v : Validated) : Except TableFault Validated :=
  match j with
  | some f => .error f
  | none => .ok v

/-- The four staged berths. -/
def berthsOf (l : List (List Byte)) : PerBerth BerthEntry :=
  ⟨.ofBytes (l.getD 0 []), .ofBytes (l.getD 1 []), .ofBytes (l.getD 2 []), .ofBytes (l.getD 3 [])⟩

/-- The two staged ability records. -/
def carsOf (l : List (List Byte)) : PerCar Ability := ⟨.ofBytes (l.getD 0 []), .ofBytes (l.getD 1 [])⟩

/-- Validation by the table's own rule (R11, step 2), against the active header. -/
def validateOwn (h : Option Header) (t : TableId) (l : List (List Byte)) : Except TableFault Validated :=
  match t with
  | .line => judged (judgeLine (lineFields l)) (.line (clampDec (.ofFields (lineFields l))))
  | .sections =>
    match h with
    | some h => judged (judgeSections h (l.map .ofBytes)) (.sections (l.map .ofBytes))
    | none => .error (255, .noHeader)
  | .berths =>
    match h with
    | some h => judged (judgeBerths h (berthsOf l)) (.berths (berthsOf l))
    | none => .error (255, .noHeader)
  | .markers =>
    match h with
    | some h => judged (judgeMarkers h (l.map .ofBytes)) (.markers (l.map .ofBytes))
    | none => .error (255, .noHeader)
  | .cars => judged (firstFault judgeCar 0 none [(carsOf l).a, (carsOf l).b]) (.cars (carsOf l))
  | .gates => judged (firstFault judgeGate 0 none (l.map .ofBytes)) (.gates (l.map .ofBytes))
  | .rules => judged (firstFault judgeRule 0 none (l.map .ofBytes)) (.rules (l.map .ofBytes))

/-- Validation of the staged table, in the two steps of R11. -/
def Staging.validate (g : Staging) (h : Option Header) : Except TableFault Validated :=
  match g.missing with
  | some i => .error (i, .missing)
  | none => validateOwn h g.table g.bytes

/-- A dependent table kept where it passes against the new header (R13). -/
def recheck {α : Type} (judge : α → TableJudgement) (t : Option α) : Option α :=
  match t with
  | some v => if (judge v).isNone then some v else none
  | none => none

/-- Whether a commit withdrew a table. -/
def withdrew {α : Type} (before after : Option α) : Bool := before.isSome && after.isNone

/-- The table store after a LINE commit: the header replaced and its dependents re-checked (R13). -/
def Tables.commitLine (t : Tables) (h : Header) : Tables :=
  { t with header := some h, sections := recheck (judgeSections h) t.sections, berths := recheck (judgeBerths h) t.berths,
           markers := recheck (judgeMarkers h) t.markers, staging := none }

/-- Whether a LINE commit changes LINE_LEN or SCALE (R13). -/
def lineChanged (old : Option Header) (h : Header) : Bool :=
  match old with
  | some o => o.lineLen != h.lineLen || o.scale != h.scale
  | none => false

/-- Whether the two coordinates differ by more than 400 mm (R26). -/
def State.apart (s : State) : Bool := decide (400 < distance s.coord s.coord2)

/-- s_ref taken again where the standstill flag is set, and with it the anchor of an ARMED rollaway watch (R37, R102). -/
def retakeReference (s : State) : State :=
  if s.rope.flag then
    { s with rope := { s.rope with sRef := s.coord }, sup := { s.sup with rollaway := s.sup.rollaway.map fun _ => s.coord } }
  else s

/-- A LINE commit's effects (R13, R37). -/
def commitLine (h : Header) (s : State) : State × Reply :=
  let t := s.tables.commitLine h
  let s1 := dwellAfter s.vSup (retakeReference (s.setTables t))
  let s2 := if lineChanged s.tables.header h then setCertainty .unknown s1 else s1
  answerWith .done
    (.withdrawn (withdrew s.tables.sections t.sections) (withdrew s.tables.berths t.berths) (withdrew s.tables.markers t.markers))
    (causeIf s2.apart .encoderDisagree s2)

/-- A car link sent to LISTEN by a CARS commit, its baselines none; a DOWN link is not changed (R14). Where the link is in LISTEN already, R14 and
R155 do not say whether its baselines become none: they do (DESIGN CHOICE, log entry 67). -/
def relisten (x : Car) (s : State) : State :=
  let c := s.track.cars.get x
  if c.link = .down then s else setLink x .listen (s.setCar x { c with baselines := none })

/-- A successful commit of any table but LINE (R11, R14, R15), before the effects of validity. -/
def commitOther (v : Validated) (s : State) : State :=
  let t := { s.tables with staging := none }
  match v with
  | .line h => s.setTables { t with header := some h }
  | .sections l => s.setTables { t with sections := some l }
  | .berths b =>
    let s1 := s.setTables { t with berths := some b }
    { s1 with trip := { s1.trip with offsets := offsetsReset } }
  | .markers l => s.setTables { t with markers := some l }
  | .cars c => relisten .b (relisten .a (s.setTables { t with cars := some c }))
  | .gates l => s.setTables { t with gates := some l }
  | .rules l => s.setTables { t with rules := l, rulesMark := true }

/-- A successful commit. Where it makes the tables valid, each link in ABILITY is compared (R16, R146). -/
def commitValidated (v : Validated) (s : State) : State × Reply :=
  let q := match v with
    | .line h => commitLine h s
    | _ => done (commitOther v s)
  if s.tables.valid then q else (compareAbility .b (compareAbility .a q.1), q.2)

/-- TABLE COMMIT (R11). -/
def reqTableCommit (_ : Port) (body : List Byte) (s : State) : State × Reply :=
  match s.tables.staging with
  | none => refuse .wrongState s
  | some g =>
    if body ≠ [g.table.code] then refuse .badArgument s
    else
      match tableRefusal g.table s.trip.line with
      | some r => refuse r s
      | none =>
        match g.validate s.tables.header with
        | .error f => answerWith .badTable (.tableFault g.table f.1 f.2) s
        | .ok v => commitValidated v s

/-! ### TABLE READ (R17) -/

/-- The entries of a table that fit in one answer frame beside the result code, id, first index and number. -/
def TableId.perAnswer (t : TableId) : Nat := 44 / t.entrySize

/-- TABLE READ (R17). -/
def reqTableRead (_ : Port) (body : List Byte) (s : State) : State × Reply :=
  match body with
  | [x, first, n] =>
    match TableId.ofCode x.toNat with
    | none => refuse .badArgument s
    | some t =>
      match s.tables.entryBytes t with
      | none => refuse .tablesInvalid s
      | some l => answerWith .done (.entries t first.toNat ((l.drop first.toNat).take (min n.toNat t.perAnswer))) s
  | _ => refuse .badArgument s

end Sys2Proof.Machine
end

