-- ==== Sys2Proof/Machine/Rope.lean ====
section
/-! DEFINITION. The rope measurement unit's events (chapter 02): count steps with every judgement made at them, quadrature errors, the
standstill limits, marker edges. One fixed order is taken where the spec leaves the order within an event open (log entry 18). -/

namespace Sys2Proof.Machine

/-! ### Counting (R19, R22) -/

/-- Replace one channel's state. -/
def State.setChan (s : State) (ch : Chan) (c : ChanState) : State :=
  { s with rope := { s.rope with chans := s.rope.chans.set ch c } }

/-- A channel with one phase line changed. -/
def ChanState.toggle (c : ChanState) : PhaseLine → ChanState
  | .a => { c with levelA := !c.levelA }
  | .b => { c with levelB := !c.levelB }

/-- The direction of a count step from the two levels after the change (R19): UP is +1. -/
def stepDir (line : PhaseLine) (levelA levelB : Bool) : Dir :=
  match line with
  | .a => if levelA != levelB then .up else .down
  | .b => if levelA == levelB then .up else .down

/-- The step of a direction. -/
def Dir.step : Dir → Int
  | .up => 1
  | .down => -1

/-- A count moved by a step, kept at the ends of its range (R19). -/
def moveCount (c : Int) (d : Dir) : Int := clamp (-2147483648) 2147483647 (c + d.step)

/-- The measured period of a step at time t after a last step: saturating at 250,000, at least 1 (R22). -/
def measuredPeriod (t last : Nat) : Nat := max 1 (min 250000 (t - last))

/-- A period history with one more period: the last four are kept (R22). -/
def appendPeriod (l : List Nat) (p : Nat) : List Nat := (l ++ [p]).drop ((l.length + 1) - 4)

/-- The period history after a step (R22): empty at a first step, after an emptying and at a reversal. -/
def ChanState.historyAfter (c : ChanState) (t : Nat) (d : Dir) : List Nat :=
  match c.last with
  | none => []
  | some m => if c.restart || m.dir != d then [] else appendPeriod c.periods (measuredPeriod t m.time)

/-- A counted step of a channel, its phase line already changed (R19, R22, R23). -/
def ChanState.step (c : ChanState) (t : Nat) (d : Dir) : ChanState :=
  { c with count := moveCount c.count d, periods := c.historyAfter t d, restart := false, last := some ⟨t, d⟩, gap := true }

/-- A channel with its period history emptied (R22, R23). -/
def ChanState.empty (c : ChanState) : ChanState := { c with periods := [], restart := true }

/-- Take a counted step into the measurement unit: time, count, history, rope direction, and the standstill dwell (R19, R22, R28). -/
def measureStep (ch : Chan) (line : PhaseLine) (t : Nat) (s : State) : State :=
  let c := (s.rope.chans.get ch).toggle line
  let d := stepDir line c.levelA c.levelB
  let s1 := { s.setChan ch (c.step t d) with now := t }
  dwellAfter s.vSup (if ch = .ch1 then { s1 with rope := { s1.rope with dir := d } } else s1)

/-! ### Judgements at a count step -/

/-- The clearing of the standstill flag (R29), with the dwell started where v_sup is 0 (R28) and every grant withdrawn (R169). -/
def clearFlag (s : State) : State :=
  if s.rope.flag && decide (5 < distance s.coord s.rope.sRef) then
    withdrawAll { s with rope := { s.rope with flag := false, dwell := s.vSup == 0 || s.rope.dwell } }
  else s

/-- The rollaway watch at a step of channel 1 (R102). -/
def watchRollaway (s : State) : State :=
  match s.sup.rollaway with
  | some a => causeIf (decide (50 < distance s.coord a)) .rollaway s
  | none => s

/-- How far s lies behind a reach against a commanded direction; negative where it lies further in it. -/
def behind (d : Dir) (reach s : Int) : Int :=
  match d with
  | .up => reach - s
  | .down => s - reach

/-- The direction watch at a step of channel 1 (R104). -/
def watchDirection (s : State) : State :=
  match s.sup.dirWatch with
  | some w =>
    if behind w.dir w.reach s.coord < 0 then { s with sup := { s.sup with dirWatch := some { w with reach := s.coord } } }
    else causeIf (decide (100 < behind w.dir w.reach s.coord)) .wrongDirection s
  | none => s

/-- DOOR_ZONE_MOVEMENT, given whether a grant was active when the event was taken (R103). -/
def watchDoorZone (grant : Bool) (s : State) : State :=
  causeIf (grant && decide (30 < distance s.coord s.rope.sRef)) .doorZoneMovement s

/-- The largest movement with one more distance seen, saturating at 65,535. -/
def noteMovement (n : Nat) (s : State) : State := { s with sched := { s.sched with largest := min 65535 (max s.sched.largest n) } }

/-- The emergency brake test's judgement of a step (R125). -/
def judgeEbStep (s : State) : State :=
  let n := distance s.coord s.sched.anchor
  let s1 := noteMovement n s
  if 20 < n then setDrv false (setSb false (decideTest .eb .fail s1.sched.largest s1)) else s1

/-- The rail brake order (R129): the TEST order of the car under test, DRV_EN de-energised, both setpoints 0 with a frame, the order
anchor, the limits and the stage. An order of TRIP is left. -/
def makeRailOrder (k : TestKind) (s : State) : State :=
  let x := testCar k
  let o := if s.sup.railOrder.get x = .trip then RailOrder.trip else .test
  let s1 := { s with sup := { s.sup with railOrder := s.sup.railOrder.set x o } }
  let s2 := setStage k .braking (forceZero (setDrv false s1))
  { s2 with sched := { s2.sched with orderAnchor := s2.coord, creepLimit := false, brakeLimit := true } }

/-- The rail test's judgement of a step in BRAKING (R130). -/
def judgeBrakingStep (k : TestKind) (s : State) : State :=
  let n := distance s.coord s.sched.orderAnchor
  let s1 := noteMovement n s
  if 1500 < n then setSb false (decideTest k .fail (min 65535 n) s1) else s1

/-- The brake test scheduler's judgement of a step of channel 1 (R125, R129, R130). -/
def judgeTestStep (s : State) : State :=
  match s.sched.test with
  | some (.eb, .applying) => judgeEbStep s
  | some (.eb, .window) => judgeEbStep s
  | some (k, .creep) => if 3000 ≤ distance s.coord s.sched.creepStart then makeRailOrder k s else s
  | some (k, .braking) => judgeBrakingStep k s
  | _ => s

/-- The judgements of the supervisor and the scheduler at a step of channel 1, given whether a grant was active when it was taken. -/
def judgeStep1 (grant : Bool) (s : State) : State :=
  judgeTestStep (watchDoorZone grant (watchDirection (watchRollaway s)))

/-- COUNT_STEP (R19): the part's time reads at least the step's time. R26 is judged at a step of either channel. -/
def execCountStep (ch : Chan) (line : PhaseLine) (at_ : Nat) (s : State) : Host.Outcome State Fault Refusal :=
  let s1 := measureStep ch line (max s.now at_) s
  let s2 := causeIf s1.apart .encoderDisagree (if ch = .ch1 then clearFlag s1 else s1)
  let s3 := if ch = .ch1 then judgeStep1 s.anyGrant s2 else s2
  .next (settle s (profileStopAfter s.vSup s3))

/-! ### Quadrature errors and standstill (R19, R23, R28) -/

/-- QUADRATURE_ERROR (R19). -/
def execQuadratureError (ch : Chan) (s : State) : Host.Outcome State Fault Refusal :=
  let c := ((s.rope.chans.get ch).toggle .a).toggle .b
  let s1 := s.setChan ch { c.empty with errors := satAdd 255 c.errors 1 }
  .next (settle s (profileStopAfter s.vSup (dwellAfter s.vSup s1)))

/-- STANDSTILL_GAP_EXPIRY (R23). -/
def execStandstillGapExpiry (ch : Chan) (s : State) : Host.Outcome State Fault Refusal :=
  let c := s.rope.chans.get ch
  if c.gap then .next (settle s (profileStopAfter s.vSup (dwellAfter s.vSup (s.setChan ch { c.empty with gap := false })))) else .next s

/-- Rail brake orders marked for the setting of the flag are cleared (R111, R122). -/
def clearMarkedOrders (s : State) : State :=
  let f (x : Car) := if s.sup.orderClears.get x then RailOrder.none else s.sup.railOrder.get x
  { s with sup := { s.sup with railOrder := ⟨f .a, f .b⟩, orderClears := ⟨false, false⟩ } }

/-- The first setting of the flag in BRAKING decides a rail test PASS (R130). -/
def judgeStandstill (s : State) : State :=
  match s.sched.test with
  | some (k, .braking) => setSb false (decideTest k .pass (min 65535 (distance s.rope.sRef s.sched.orderAnchor)) s)
  | _ => s

/-- STANDSTILL_DWELL_EXPIRY (R28): the flag set, s_ref taken. -/
def execStandstillDwellExpiry (s : State) : Host.Outcome State Fault Refusal :=
  if s.rope.dwell then
    let s1 := { s with rope := { s.rope with dwell := false, flag := true, sRef := s.coord } }
    .next (settle s (judgeStandstill (armRollaway (clearMarkedOrders s1))))
  else .next s

/-! ### Marker edges (R30 to R35) -/

/-- Set the level of a marker input. -/
def setLevel (m : MarkerInput) (v : Bool) (s : State) : State :=
  match m with
  | .switch b => { s with rope := { s.rope with switches := s.rope.switches.set b v } }
  | .free i => { s with rope := { s.rope with frees := s.rope.frees.set i v } }

/-- The car whose terminal edge an input carries in an armed establishment (R35). -/
def State.establishing (s : State) (m : MarkerInput) : Option (Car × Berth) :=
  match m, s.trip.line, s.trip.record with
  | .switch b, .recovery true, some r =>
    if !r.target.a.isTerminus then none
    else if b = r.target.a then some (.a, b)
    else if b = r.target.a.mirror then some (.b, b)
    else none
  | _, _, _ => none

/-- The edge position of a terminus for an arriving car (R35): zone_lo of B3, zone_hi of B0. -/
def terminalEdge (b : Berth) (e : BerthEntry) : Int := if b = .b3 then e.zoneLo else e.zoneHi

/-- Establishment moves both bases, s_ref and the rollaway anchor by the same amount, so that the arriving car's position is p with a zero
offset (R35, R102). -/
def establish (x : Car) (p : Int) (h : Header) (s : State) : State :=
  let k := (match x with | .a => p | .b => (h.lineLen : Int) - p) - s.coord
  let s1 := { s with
    rope := { s.rope with base := s.rope.base + k, base2 := s.rope.base2 + k, sRef := s.rope.sRef + k, offs := ⟨0, 0⟩ }
    sup := { s.sup with rollaway := s.sup.rollaway.map fun a => a + k } }
  let s2 := setCertainty .known s1
  causeIf s2.apart .encoderDisagree s2

/-- The free input's number, 4 to 7. -/
def freeNumber : FreeInput → Nat
  | .m4 => 4
  | .m5 => 5
  | .m6 => 6
  | .m7 => 7

/-- The entry of the active MARKERS table that names an input. -/
def State.marker (s : State) (i : FreeInput) : Option MarkerEntry :=
  match s.tables.markers with
  | some l => l.find? fun e => e.input == freeNumber i
  | none => none

/-- The edge position and window of an input for a car, where the input allows the car (R31, R32). -/
def State.edge (s : State) (m : MarkerInput) (x : Car) : Option (Int × Nat) :=
  match m with
  | .switch b => (s.berthEntry b).map fun e => (if s.rope.dir.ascends x then e.zoneLo else e.zoneHi, 2000)
  | .free i =>
    (s.marker i).bind fun e =>
      if e.car = 3 ∨ e.car = (match x with | .a => 1 | .b => 2) then some ((e.position : Int), e.window) else none

/-- The correction error of a car at an edge, where the car is a candidate (R32). -/
def State.edgeError (s : State) (m : MarkerInput) (x : Car) : Option Int :=
  (s.edge m x).bind fun p => if distance p.1 (s.pos x) ≤ p.2 then some (p.1 - s.pos x) else none

/-- A spurious or ambiguous edge is counted (R32). -/
def countSpurious (s : State) : State := { s with rope := { s.rope with spurious := satAdd 65535 s.rope.spurious 1 } }

/-- An attributed edge with a single candidate (R33, R34). -/
def correct (x : Car) (e : Int) (s : State) : State :=
  if 300 < e.natAbs then raiseAll .position (setCertainty .uncertain s)
  else
    let o := s.rope.offs.get x + e
    let s1 := { s with rope := { s.rope with offs := s.rope.offs.set x (clamp (-2000) 2000 o) } }
    if clamp (-2000) 2000 o ≠ o then setCertainty .uncertain s1
    else if s1.rope.certainty = .uncertain then setCertainty .known s1
    else s1

/-- Attribution of an edge (R32). -/
def attributeEdge (m : MarkerInput) (s : State) : State :=
  match s.edgeError m .a, s.edgeError m .b with
  | some e, none => correct .a e s
  | none, some e => correct .b e s
  | _, _ => countSpurious s

/-- An inactive-to-active edge (R30). -/
def activeEdge (m : MarkerInput) (s : State) : State :=
  if s.rope.certainty = .unknown then
    match s.establishing m, s.tables.header with
    | some (x, b), some h =>
      match s.berthEntry b with
      | some e => establish x (terminalEdge b e) h s
      | none => s
    | _, _ => s
  else if s.rope.flag || !s.tables.valid then s
  else attributeEdge m s

/-- MARKER_EDGE (R30). A level the input already has is no edge. -/
def execMarkerEdge (m : MarkerInput) (level : Bool) (s : State) : Host.Outcome State Fault Refusal :=
  if s.level m = level then .next s
  else if level then .next (settle s (activeEdge m (setLevel m level s)))
  else .next (settle s (setLevel m level s))

end Sys2Proof.Machine
end

