-- ==== Sys2Proof/Machine/Line.lean ====
section
/-! DEFINITION. The requests that open and close the line and set its mode, departure consent, and the weather record (chapter 03). -/

namespace Sys2Proof.Machine

/-- Both alignments ALIGNED at an entry to PARKED by OPEN LINE or TRIP RESET (R164). -/
def enterAligned (b : Berth) (s : State) : State := setAlignments .aligned .aligned (enterParked b s)

/-! ### OPEN LINE, CLOSE LINE, MODE SET (R47 to R51) -/

/-- The acceptance of OPEN LINE (R47, R48). -/
def openLine (s : State) : State :=
  let s1 :=
    match (if s.rope.certainty = .unknown then none else s.berthedPair) with
    | some b => enterAligned b s
    | none => enterLine (.recovery false) s
  setEb true s1

/-- OPEN LINE (R47). -/
def reqOpenLine (_ : Port) (body : List Byte) (s : State) : State × Reply :=
  if s.trip.line ≠ .closed then refuse .wrongState s
  else if body ≠ [] then refuse .badArgument s
  else if !s.tables.valid then refuse .tablesInvalid s
  else if !s.linksComplete then refuse .interlock s
  else answerWith .done (.line (openLine s).trip.line) (openLine s)

/-- CLOSE LINE (R51). -/
def reqCloseLine (_ : Port) (body : List Byte) (s : State) : State × Reply :=
  if s.trip.line ≠ .parked ∧ s.trip.line ≠ .recovery false then refuse .wrongState s
  else if body ≠ [] then refuse .badArgument s
  else if !s.allShut || s.anyGrant then refuse .interlock s
  else done (setEb false (enterLine .closed s))

/-- The conditions on which INSPECTION may be entered from PARKED (R49). -/
def State.inspectionHolds (s : State) : Bool :=
  s.board.cars.a.onboard == 0 && s.board.cars.b.onboard == 0 && berthList.all (fun b => (s.board.berths.get b).pen == 0) && s.allShut

/-- Whether a change of mode is accepted in the line state held (R49). -/
def State.modeAccepted (s : State) (m : Mode) : Bool :=
  match s.trip.line with
  | .closed => true
  | _ =>
    match s.trip.mode, m with
    | .inspection, _ => false
    | _, .inspection => s.inspectionHolds
    | _, _ => true

/-- Set the mode; a change raises LINE_STATE (R49). -/
def setMode (m : Mode) (s : State) : State := raiseAll .lineState { s with trip := { s.trip with mode := m } }

/-- MODE SET (R49). -/
def reqModeSet (_ : Port) (body : List Byte) (s : State) : State × Reply :=
  if s.trip.line ≠ .closed ∧ s.trip.line ≠ .parked then refuse .wrongState s
  else
    match body with
    | [x] =>
      match Mode.ofCode x.toNat with
      | none => refuse .badArgument s
      | some m =>
        if m = s.trip.mode then done s
        else if s.modeAccepted m then done (setMode m s)
        else refuse .wrongState s
    | _ => refuse .badArgument s

/-! ### DEPART CONSENT (R45, R53) -/

/-- Set the consent flag of a station port's station. -/
def setConsent (p : Port) (v : Bool) (s : State) : State :=
  match p with
  | .ls => { s with trip := { s.trip with consentLower := v } }
  | .us => { s with trip := { s.trip with consentUpper := v } }
  | .d => s

/-- DEPART CONSENT (R53). Its legality depends on the argument (R45), so the argument is judged first. -/
def reqDepartConsent (p : Port) (body : List Byte) (s : State) : State × Reply :=
  match body with
  | [x] =>
    if x = 0 then done (setConsent p false s)
    else if x = 1 then
      match s.trip.line with
      | .parked => done (setConsent p true s)
      | .dispatch => done (setConsent p true s)
      | .testing _ => refuse .busy s
      | _ => refuse .wrongState s
    else refuse .badArgument s
  | _ => refuse .badArgument s

/-! ### Weather (R55, R56) -/

/-- WEATHER (R55): the values clamped, the stale flag cleared, the staleness limit started again. -/
def reqWeather (_ : Port) (body : List Byte) (s : State) : State × Reply :=
  match body with
  | [x, y] =>
    let t := clamp (-40) 60 (signed 8 x.toNat)
    let w := min 3 y.toNat
    answerWith .done (.weather t w) { s with trip := { s.trip with weather := ⟨some t, w, false, true⟩ } }
  | _ => refuse .badArgument s

/-- STALENESS_LIMIT_EXPIRY (R56). -/
def execStalenessLimitExpiry (s : State) : Host.Outcome State Fault Refusal :=
  if s.trip.weather.limit then
    .next (raiseAll .weatherStale { s with trip := { s.trip with weather := { s.trip.weather with stale := true, limit := false } } })
  else .next s

end Sys2Proof.Machine
end

