-- ==== Sys2Proof/Machine/Trip.lean ====
section
/-! DEFINITION. The trip controller's requests and its profile step (chapter 04). -/

namespace Sys2Proof.Machine

/-! ### RUN (R60, R61) -/

/-- The next berth in a direction, or none at the terminus in that direction. -/
def nextBerthIn : Dir → Berth → Option Berth
  | .up, .b0 => some .b1
  | .up, .b1 => some .b2
  | .up, .b2 => some .b3
  | .up, .b3 => none
  | .down, .b0 => none
  | .down, .b1 => some .b0
  | .down, .b2 => some .b1
  | .down, .b3 => some .b2

/-- The terminus in a direction. -/
def terminusIn : Dir → Berth
  | .up => .b3
  | .down => .b0

/-- Car A's target from its starting berth (R60). -/
def runTarget (d : Dir) (halt : Bool) (start : Berth) : Option Berth :=
  match nextBerthIn d start with
  | none => none
  | some b => some (if halt then b else terminusIn d)

/-- The halt berth of a record: car A's target where it is B1 or B2 (R61). -/
def haltOf (b : Berth) : Option Berth := if b.isTerminus then none else some b

/-- A requested speed clamped to 300..v_line (R60). -/
def clampSpeed (vLine v : Nat) : Nat := max 300 (min vLine v)

/-- v_line of the active header; a line that is open has one (R16). -/
def State.vLine (s : State) : Nat :=
  match s.tables.header with
  | some h => h.vLine
  | none => 0

/-- The trip number after the next accepted RUN (R61). -/
def nextNumber (n : Nat) : Nat := (n + 1) % 65536

/-- The acceptance of RUN (R61), with the grants withdrawn and the leaves ordered closed (R169, R170) and the starting berths moved
(R182). -/
def acceptRun (d : Dir) (speed : Nat) (start target : Berth) (s : State) : State :=
  let r : TripRecord :=
    { number := nextNumber s.trip.number, kind := .run, dir := d, speed := speed, start := some start,
      target := ⟨target, target.mirror⟩, halt := haltOf target, ending := none }
  let s1 := { s with trip := { s.trip with
    number := nextNumber s.trip.number, record := some r, stage := some .waiting, dispatchLimit := true } }
  moveBerth start.mirror (moveBerth start (closeAll (withdrawAll (enterLine .dispatch s1))))

/-- RUN's own conditions and effect, with its arguments in range. -/
def runWith (d : Dir) (halt : Bool) (speed : Nat) (s : State) : State × Reply :=
  match s.trip.parkedBerth.bind fun b => (runTarget d halt b).map fun t => (b, t) with
  | none => refuse .badArgument s
  | some (start, target) =>
    if s.trip.weather.wind = 3 then refuse .weather s
    else if s.trip.mode ≠ .inspection ∧ s.restricted then refuse .restricted s
    else
      answerWith .accepted
        (.run (nextNumber s.trip.number) target target.mirror (clampSpeed s.vLine speed))
        (acceptRun d (clampSpeed s.vLine speed) start target s)

/-- RUN (R60). -/
def reqRun (_ : Port) (body : List Byte) (s : State) : State × Reply :=
  match s.trip.line with
  | .parked =>
    match body with
    | [x, h, v1, v0] =>
      match Dir.ofCode x.toNat with
      | some d => if 1 < h.toNat then refuse .badArgument s else runWith d (h = 1) (beNat [v1, v0]) s
      | none => refuse .badArgument s
    | _ => refuse .badArgument s
  | .testing _ => refuse .busy s
  | _ => refuse .wrongState s

/-! ### The end of a dispatch (R65, R66) -/

/-- A dispatch returned to PARKED at its starting berth with an ending. -/
def endDispatch (e : Ending) (s : State) : State :=
  let s1 := setSb false { s with trip := { s.trip with stage := none, dispatchLimit := false } }
  match s.trip.record.bind fun r => r.start with
  | some b => enterParked b (endRecord e s1)
  | none => s1

/-- DISPATCH_TIMEOUT (R65): the dispatch limit runs only in DISPATCH. -/
def execDispatchTimeout (s : State) : Host.Outcome State Fault Refusal :=
  if s.trip.dispatchLimit ∧ s.trip.line = .dispatch then .next (settle s (raiseAll .dispatchTimeout (endDispatch .timedOut s))) else .next s

/-! ### HOLD (R66, R78, R87) -/

/-- Refuse a HOLD whose body is not empty, or take it. -/
def holdBody (body : List Byte) (s : State) (take : State × Reply) : State × Reply :=
  if body = [] then take else refuse .badArgument s

/-- HOLD (R44, R66, R78, R87). -/
def reqHold (p : Port) (body : List Byte) (s : State) : State × Reply :=
  match s.trip.line with
  | .dispatch => holdBody body s (done (endDispatch .cancelled s))
  | .running .holding => refuse .alreadyHeld s
  | .running _ => holdBody body s (holdTrip (.request p) s, ⟨.accepted, .none⟩)
  | .held => refuse .alreadyHeld s
  | .recovery true =>
    match s.trip.stop with
    | .hold => refuse .alreadyHeld s
    | .service => refuse .alreadyHeld s
    | _ => holdBody body s (holdMove (.request p) s, ⟨.accepted, .none⟩)
  | .testing _ => refuse .busy s
  | _ => refuse .wrongState s

/-! ### RESUME (R83) -/

/-- RESUME (R83). -/
def reqResume (_ : Port) (body : List Byte) (s : State) : State × Reply :=
  if s.trip.line ≠ .held then refuse .notHeld s
  else if body ≠ [] then refuse .badArgument s
  else if s.trip.resumeRelease then refuse .busy s
  else if !s.resumeHolds then refuse .interlock s
  else (setSb true { s with trip := { s.trip with resumeRelease := true } }, ⟨.accepted, .none⟩)

/-! ### RECOVERY MOVE (R84, R85) -/

/-- A car held MISALIGNED (R164). -/
def State.misaligned (s : State) : Bool := s.doors.a.alignment == Alignment.misaligned || s.doors.b.alignment == Alignment.misaligned

/-- The line-state judgement of RECOVERY MOVE (R44): `none` where accepted. -/
def State.moveRefusal (s : State) : Option Result :=
  match s.trip.line with
  | .parked => if s.misaligned then none else some .wrongState
  | .held => none
  | .recovery false => none
  | .testing _ => some .busy
  | _ => some .wrongState

/-- The direction of a recovery move (R85). -/
def State.moveDir (s : State) (target : Berth) : Dir :=
  if s.rope.certainty = .unknown then (if target = .b3 then .up else .down)
  else
    match s.berthEntry target with
    | some e => if s.pos .a < (e.position : Int) then .up else .down
    | none => .up

/-- v_cr of the active header. -/
def State.vCr (s : State) : Nat :=
  match s.tables.header with
  | some h => h.vCr
  | none => 0

/-- The acceptance of RECOVERY MOVE (R85): the slot emptied, the record formed, RECOVERY-MOVING entered, the move release begun. -/
def acceptMove (target : Berth) (s : State) : State :=
  let r : TripRecord :=
    { number := s.trip.number, kind := .recovery, dir := s.moveDir target, speed := s.vCr, start := s.trip.parkedBerth,
      target := ⟨target, target.mirror⟩, halt := haltOf target, ending := none }
  let start := if s.rope.certainty = .unknown then s.rope.chans.ch1.count else s.trip.moveStart
  let s1 := clearStop { s with trip := { s.trip with slot := none, record := some r, moveStart := start, moveRelease := true } }
  setSb true (enterLine (.recovery true) s1)

/-- Whether car A stands within 150 mm of a berth's nominal position. -/
def State.nearBerth (s : State) (b : Berth) : Bool :=
  match s.berthEntry b with
  | some e => decide (distance e.position (s.pos .a) ≤ 150)
  | none => false

/-- RECOVERY MOVE's own conditions (R84). -/
def moveTo (b : Berth) (s : State) : State × Reply :=
  if s.rope.certainty = .unknown ∧ !b.isTerminus then refuse .badArgument s
  else if s.rope.certainty ≠ .unknown ∧ s.nearBerth b then refuse .badArgument s
  else if s.trip.line = .held ∧ s.trip.resumeRelease then refuse .busy s
  else if !s.moveHolds then refuse .interlock s
  else (acceptMove b s, ⟨.accepted, .none⟩)

/-- RECOVERY MOVE (R84). -/
def reqRecoveryMove (_ : Port) (body : List Byte) (s : State) : State × Reply :=
  match s.moveRefusal with
  | some r => refuse r s
  | none =>
    match body with
    | [x] =>
      match Berth.ofCode x.toNat with
      | some b => moveTo b s
      | none => refuse .badArgument s
    | _ => refuse .badArgument s

/-! ### The profile step (R67 to R70, R73, R78, R86, R87) -/

/-- The run cap of the profile: v_cr in a recovery move (R85), min(v_cr, INSPECTION_CAP) in a rail test (R128), otherwise
min(requested speed, mode cap) (R69). -/
def State.stepCap (s : State) (h : Header) : Nat :=
  if s.trip.line.isRail then min h.vCr h.inspectionCap
  else
    match s.trip.record with
    | some r =>
      match r.kind with
      | .recovery => r.speed
      | .run => min r.speed (modeCap s.trip.mode h)
    | none => 0

/-- The planned speed where distances are computed: not while certainty is UNKNOWN (R86, R87). -/
def State.plan (s : State) (h : Header) : Option Nat :=
  if s.rope.certainty = .unknown then none else s.profileDist.map (planned h)

/-- The held setpoint plus Δ (R69). -/
def State.rising (s : State) (h : Header) : Nat := s.trip.held + h.aAcc * 20 / 1000

/-- The held setpoint lowered by one step of a_dec, 0 where the difference is negative (R78). -/
def State.falling (s : State) (h : Header) : Nat := s.trip.held - h.aDec * 20 / 1000

/-- The forming setpoint of a step (R69, R74, R78, R86, R87). -/
def State.formSetpoint (s : State) (h : Header) : Nat :=
  match s.trip.stop with
  | .none => leastOf (s.rising h) ([s.stepCap h] ++ (s.plan h).toList ++ [s.formE h])
  | .hold => if s.sup.sbRel then leastOf (s.falling h) ((s.plan h).toList ++ [s.formE h]) else 0
  | _ => 0

/-- The phase of a step of R69, from the term that gave the forming setpoint (R70). -/
def State.stepPhase (s : State) (h : Header) (f : Nat) : Phase :=
  match s.profileDist, s.plan h with
  | some d, some p =>
    if f = p ∧ p < h.vCr then .stopping
    else if f = p ∧ 0 < d ∧ d ≤ h.creepRun ∧ p = h.vCr then .creep
    else if f = p ∧ (h.creepRun : Int) < d then .decel
    else if f = s.stepCap h ∨ f = s.formE h then .cruise
    else .accel
  | _, _ => if f = s.stepCap h ∨ f = s.formE h then .cruise else .accel

/-- Form the setpoint of a step with the distances where they are computed (R68, R86), and its phase where no stop is in hand and the phase is
not HOLDING. -/
def formStep (h : Header) (s : State) : State :=
  let f := s.formSetpoint h
  let s1 := if s.trip.stop = .none ∧ s.trip.line ≠ .running .holding then setPhase (s.stepPhase h f) s else s
  { s1 with trip := { s1.trip with forming := f, distances := (s.plan h).isSome } }

/-- Whether a car has passed its target by more than 1500 mm, in RUNNING and in a recovery move with distances computed (R73). -/
def State.pastTarget (s : State) : Bool :=
  match s.tables.berths, s.course with
  | some t, some c => decide (s.toGo t c .a < -1500) || decide (s.toGo t c .b < -1500)
  | _, _ => false

/-- Whether a recovery move in UNKNOWN has travelled more than LINE_LEN + 2000 mm since its acceptance (R86). -/
def State.blindOverrun (s : State) (h : Header) : Bool :=
  decide (h.lineLen + 2000 < distance s.rope.chans.ch1.count s.trip.moveStart * h.scale / 1000)

/-- Whether the step hands BERTH_OVERRUN to the supervisor (R73, R86). -/
def State.overrun (s : State) (h : Header) : Bool :=
  match s.trip.line with
  | .running _ => s.pastTarget
  | .recovery true => if s.rope.certainty = .unknown then s.blindOverrun h else s.pastTarget
  | _ => false

/-- A profile step: transfer, frame, a new forming setpoint, the overrun test (R67). R71 says that every stop leaves the last frame at 0, where a
HOLD or PROFILE stop begun at held setpoint 0 with a forming setpoint above 0 sends that value at its next step by R67: the step follows
R67 (DESIGN CHOICE, log entry 65). -/
def profileStepWith (h : Header) (s : State) : State :=
  let s1 := emitFrame { s with trip := { s.trip with held := s.trip.forming } }
  let s2 := formStep h s1
  if s2.overrun h then serviceStop .berthOverrun s2 else s2

/-- PROFILE_STEP (R67). -/
def execProfileStep (s : State) : Host.Outcome State Fault Refusal :=
  match s.trip.stepping, s.tables.header with
  | true, some h => .next (settle s (profileStop (profileStepWith h s)))
  | _, _ => .next s

end Sys2Proof.Machine
end

