-- ==== Sys2Proof/Machine/Supervise.lean ====
section
/-! DEFINITION. The speed supervisor's sample, its feedback watch, EMERGENCY STOP and TRIP RESET (chapter 05). -/

namespace Sys2Proof.Machine

/-! ### The sample (R94 to R103, R105, R25) -/

/-- The target of the wind cap (R96). -/
def windTarget (h : Header) (wind : Nat) : Nat :=
  match wind with
  | 0 => h.vLine
  | 1 => h.windCap1
  | 2 => h.windCap2
  | _ => h.windCap3

/-- The target of the certainty cap (R96). -/
def certTarget (h : Header) : Certainty → Nat
  | .known => h.vLine
  | .uncertain => h.uncertainCap
  | .unknown => h.vCr

/-- A cap brought toward its target in one sample (R96). -/
def ramp (h : Header) (cap : Option Nat) (target : Nat) : Option Nat :=
  match cap with
  | none => some target
  | some c => if c ≤ target then some target else some (max target (c - h.aDec * 10 / 1000))

/-- Both caps ramped. -/
def rampCaps (h : Header) (s : State) : State :=
  { s with sup := { s.sup with
      windCap := ramp h s.sup.windCap (windTarget h s.trip.weather.wind)
      certCap := ramp h s.sup.certCap (certTarget h s.rope.certainty) } }

/-- Steps 1 and 2 of R99 at a sample that forms E: E kept, the warning, the over-S run. A run that reaches 2 becomes 0. -/
def judgeEnvelope (e : Nat) (s : State) : State :=
  let v := s.vSup
  let s1 := if decide (e < v) && !s.sup.warning then raiseAll .envelopeWarning s else s
  { s1 with sup := { s1.sup with
      envelope := e
      warning := decide (e < v)
      overS := if serviceThreshold e < v then (if 2 ≤ s.sup.overS + 1 then 0 else s.sup.overS + 1) else 0 } }

/-- Whether the sample's over-S run reaches 2 (R99, step 2). -/
def State.envelopeService (s : State) (e : Nat) : Bool := decide (serviceThreshold e < s.vSup) && decide (1 ≤ s.sup.overS)

/-- A sample that does not form E: E reads 0, the run and the warning state are cleared (R94, R99). R94 says that E reads 0 in every line state
that does not form it, R95 that STATUS READ returns E as formed at the last sample: on leaving such a state E keeps its value until the next
sample, which is this one (DESIGN CHOICE, log entry 72). -/
def idleEnvelope (s : State) : State := { s with sup := { s.sup with envelope := 0, overS := 0, warning := false } }

/-- Whether the channel speeds lie apart by more than the tolerance (R25). -/
def State.speedsApart (s : State) : Bool := decide (150 + s.vSup / 16 < distance (s.speed .ch1) (s.speed .ch2))

/-- The disagreement run after a sample (R25). -/
def judgeSpeeds (s : State) : State :=
  { s with rope := { s.rope with disagree := if s.speedsApart then min 3 (s.rope.disagree + 1) else 0 } }

/-- END_OVERRUN's condition: a car beyond an end by more than 1000 mm, with certainty not UNKNOWN (R105). -/
def State.endOverrun (s : State) (h : Header) : Bool :=
  s.rope.certainty != .unknown &&
    (decide (s.pos .a < -1000) || decide (s.pos .b < -1000) || decide ((h.lineLen : Int) + 1000 < s.pos .a) ||
      decide ((h.lineLen : Int) + 1000 < s.pos .b))

/-- A sample while a LINE header is active. E and the figures it is judged by are those of the sample with its caps ramped; the trip causes
come before the service stop, which a sample that takes a cause does not take (R99). -/
def sampleWith (h : Header) (s : State) : State :=
  let s1 := rampCaps h s
  let forms := s1.trip.line.supervised
  let e := s1.formE h
  let s2 := judgeSpeeds (if forms then judgeEnvelope e s1 else idleEnvelope s1)
  let s3 := causeIf (forms && decide (tripThreshold e < s1.vSup)) .envelopeExceeded s2
  let s4 := causeIf (decide (absoluteThreshold h < s1.vSup)) .absoluteOverspeed s3
  let s5 := causeIf (s2.rope.disagree == 3) .encoderDisagree s4
  let s6 := watchDoorZone s.anyGrant s5
  let s7 := causeIf (s.endOverrun h) .endOverrun s6
  if forms && s1.envelopeService e then serviceStop .envelopeService s7 else s7

/-- A sample while no LINE header is active: E reads 0, the speeds agree, and s stands at 0 (R25, R94, R115). -/
def sampleBlind (s : State) : State := watchDoorZone s.anyGrant (judgeSpeeds (idleEnvelope s))

/-- SUPERVISION_SAMPLE (R99). -/
def execSupervisionSample (s : State) : Host.Outcome State Fault Refusal :=
  match s.tables.header with
  | some h => .next (settle s (sampleWith h s))
  | none => .next (settle s (sampleBlind s))

/-! ### The feedback watch (R93, R169) -/

/-- Take a changed feedback: its limit runs exactly while it is in mismatch with its command. -/
def takeFeedback (br : Brake) (released : Bool) (s : State) : State :=
  match br with
  | .eb => { s with sup := { s.sup with ebFb := released, ebLimit := released != s.sup.ebRel } }
  | .sb => { s with sup := { s.sup with sbFb := released, sbLimit := released != s.sup.sbRel } }

/-- The feedback input of a brake. -/
def State.feedback (s : State) : Brake → Bool
  | .eb => s.sup.ebFb
  | .sb => s.sup.sbFb

/-- BRAKE_FEEDBACK_CHANGE (R93). SB reporting released while SB_REL is de-energised withdraws every grant (R169). -/
def execBrakeFeedbackChange (br : Brake) (released : Bool) (s : State) : Host.Outcome State Fault Refusal :=
  if s.feedback br = released then .next s
  else
    let s1 := takeFeedback br released s
    .next (settle s (if br = .sb ∧ released ∧ !s.sup.sbRel then withdrawAll s1 else s1))

/-- Whether a brake's feedback limit runs. -/
def State.feedbackLimit (s : State) : Brake → Bool
  | .eb => s.sup.ebLimit
  | .sb => s.sup.sbLimit

/-- Stop a brake's feedback limit. -/
def stopFeedbackLimit (br : Brake) (s : State) : State :=
  match br with
  | .eb => { s with sup := { s.sup with ebLimit := false } }
  | .sb => { s with sup := { s.sup with sbLimit := false } }

/-- BRAKE_FEEDBACK_LIMIT_EXPIRY (R93). -/
def execBrakeFeedbackLimitExpiry (br : Brake) (s : State) : Host.Outcome State Fault Refusal :=
  if s.feedbackLimit br then .next (settle s (takeCause .brakeFeedback none (stopFeedbackLimit br s))) else .next s

/-! ### EMERGENCY STOP (R108) -/

/-- EMERGENCY STOP (R108). -/
def reqEmergencyStop (p : Port) (body : List Byte) (s : State) : State × Reply :=
  if body ≠ [] then refuse .badArgument s else done (takeCause .emergencyRequest (some p) s)

/-! ### TRIP RESET (R27, R52, R112) -/

/-- The line state TRIP RESET enters (R52), with car A's berth for PARKED. -/
def State.resetChoice (s : State) : LineState × Option Berth :=
  match s.trip.origin with
  | .closed => (.closed, none)
  | _ =>
    match (if s.rope.certainty = .known then s.berthedPair else none) with
    | some b => (.parked, some b)
    | none => (.recovery false, none)

/-- The active list moved into the last trip record (R112, R113). -/
def listToRecord (s : State) : State :=
  { s with sup := { s.sup with lastTrip := some ⟨s.trip.number, s.sup.causes, s.sup.overflow⟩, causes := [], overflow := false } }

/-- One car's order after TRIP RESET: an order of TRIP is cleared (R111). -/
def clearTripOrder (x : Car) (s : State) : State :=
  if s.sup.railOrder.get x = .trip then
    { s with sup := { s.sup with railOrder := s.sup.railOrder.set x .none, orderClears := s.sup.orderClears.set x false } }
  else s

/-- Channel 2 realigned to channel 1, the disagreement run 0, certainty KNOWN lowered (R27). With no LINE header active s and s2 are both
held at 0, so that any s2_base makes them equal: s2_base then stays as it stands (DESIGN CHOICE, log entry 62). -/
def realign (s : State) : State :=
  lowerCertainty { s with rope := { s.rope with base2 := s.rope.base2 + (s.coord - s.coord2), disagree := 0 } }

/-- The anchor of an ARMED rollaway watch taken again as s_ref (R112, step 5). -/
def reanchor (s : State) : State := { s with sup := { s.sup with rollaway := s.sup.rollaway.map fun _ => s.rope.sRef } }

/-- Enter the line state that TRIP RESET chose, with EB_REL energised but for CLOSED (R52, R112, step 6). -/
def enterChosen (c : LineState × Option Berth) (s : State) : State :=
  match c with
  | (_, some b) => setEb true (enterAligned b s)
  | (.closed, none) => enterLine .closed s
  | (l, none) => setEb true (enterLine l s)

/-- The steps of an accepted TRIP RESET (R112). -/
def resetTrip (s : State) : State :=
  let s1 := reanchor (realign (clearTripOrder .b (clearTripOrder .a (listToRecord s))))
  enterChosen s.resetChoice { s1 with trip := { s1.trip with origin := .none } }

/-- TRIP RESET (R112). -/
def reqTripReset (_ : Port) (body : List Byte) (s : State) : State × Reply :=
  if s.trip.line ≠ .tripped then refuse .wrongState s
  else if body ≠ [] then refuse .badArgument s
  else if !s.rope.flag then refuse .interlock s
  else answerWith .done (.line (resetTrip s).trip.line) (resetTrip s)

end Sys2Proof.Machine
end

