-- ==== Sys2Proof/Machine/BrakeTest.lean ====
section
/-! DEFINITION. The brake test scheduler's requests, its test limits and its obligation minute (chapter 06). The judgements made at count
steps and at the setting of the standstill flag stand in Machine/Rope.lean. -/

namespace Sys2Proof.Machine

/-- The line-state judgement of the test requests (R44): `none` where accepted. -/
def testRefusal (l : LineState) : Option Result :=
  match l with
  | .parked => none
  | .testing _ => some .busy
  | _ => some .wrongState

/-! ### BRAKE TEST (R123) -/

/-- The acceptance of BRAKE TEST (R123). -/
def acceptBrakeTest (s : State) : State :=
  let s1 := { s with sched := { s.sched with anchor := s.rope.sRef, largest := 0, test := some (.eb, .applying) } }
  let s2 := setEb false (enterLine (.testing .eb) s1)
  { s2 with sup := { s2.sup with rollaway := none } }

/-- BRAKE TEST (R123). -/
def reqBrakeTest (_ : Port) (body : List Byte) (s : State) : State × Reply :=
  match testRefusal s.trip.line with
  | some r => refuse r s
  | none =>
    if body ≠ [] then refuse .badArgument s
    else if !s.brakeTestHolds then refuse .interlock s
    else (acceptBrakeTest s, ⟨.accepted, .none⟩)

/-! ### RAIL TEST (R127) -/

/-- The kind of the rail test of a car. -/
def railKind : Car → TestKind
  | .a => .railA
  | .b => .railB

/-- The car that a RAIL TEST body names. -/
def railArg (body : List Byte) : Option Car :=
  match body with
  | [x] => if x = 0 then some .a else if x = 1 then some .b else none
  | _ => none

/-- Whether the car under test stands at B0 (R127). -/
def State.atBottom (s : State) : Car → Bool
  | .a => s.trip.parkedBerth == some .b0
  | .b => s.trip.parkedBerth == some .b3

/-- The test targets: the car under test takes B0, the other B3 (R127). -/
def railTargets : Car → PerCar Berth
  | .a => ⟨.b0, .b3⟩
  | .b => ⟨.b3, .b0⟩

/-- The acceptance of RAIL TEST (R127). -/
def acceptRailTest (x : Car) (s : State) : State :=
  let s1 := clearStop { s with sched := { s.sched with test := some (railKind x, .releasing), targets := railTargets x, largest := 0 } }
  setSb true (enterLine (.testing (railKind x)) s1)

/-- RAIL TEST (R127). -/
def reqRailTest (_ : Port) (body : List Byte) (s : State) : State × Reply :=
  match testRefusal s.trip.line with
  | some r => refuse r s
  | none =>
    if s.trip.mode ≠ .inspection then refuse .wrongState s
    else
      match railArg body with
      | none => refuse .badArgument s
      | some x =>
        if s.atBottom x then refuse .badArgument s
        else if !s.railTestHolds then refuse .interlock s
        else (acceptRailTest x s, ⟨.accepted, .none⟩)

/-! ### Test limits (R125, R128, R130) -/

/-- EB_TEST_WINDOW_EXPIRY (R125): an undecided test passes, and DRV_EN and SB_REL are de-energised. -/
def execEbTestWindowExpiry (s : State) : Host.Outcome State Fault Refusal :=
  match s.sched.windowLimit, s.sched.test with
  | true, some (.eb, .window) => .next (settle s (setSb false (setDrv false (decideTest .eb .pass s.sched.largest s))))
  | _, _ => .next s

/-- CREEP_LIMIT_EXPIRY (R128): the lines de-energised, both setpoints 0 with a frame, the test aborted. -/
def execCreepLimitExpiry (s : State) : Host.Outcome State Fault Refusal :=
  match s.sched.creepLimit, s.sched.test with
  | true, some (k, .creep) => .next (settle s (abortToEnding k (forceZero (setSb false (setDrv false s)))))
  | _, _ => .next s

/-- BRAKE_LIMIT_EXPIRY (R130): an undecided test fails, and SB_REL is de-energised. -/
def execBrakeLimitExpiry (s : State) : Host.Outcome State Fault Refusal :=
  match s.sched.brakeLimit, s.sched.test with
  | true, some (k, .braking) => .next (settle s (setSb false (decideTest k .fail s.sched.largest s)))
  | _, _ => .next s

/-! ### The obligation minute (R117, R118, R120) -/

/-- The base interval of an obligation (R117). -/
def State.baseInterval (s : State) : TestKind → Nat
  | .eb => match s.tables.header with | some h => h.ebInterval | none => Config.ebInterval
  | .railA => match s.tables.header with | some h => h.railAInterval | none => Config.railInterval
  | .railB => match s.tables.header with | some h => h.railBInterval | none => Config.railInterval

/-- The effective interval formed at a minute (R117). -/
def State.effectiveInterval (s : State) (k : TestKind) : Nat := if s.cold then s.baseInterval k / 2 else s.baseInterval k

/-- One entry after a minute, given its effective interval (R118). -/
def Obligation.minute (o : Obligation) (eff : Nat) : Obligation :=
  if eff ≤ o.elapsed + 1 then ⟨0, min (o.debt + 1) 3, eff⟩ else ⟨o.elapsed + 1, o.debt, eff⟩

/-- Whether a minute raised a debt to 1, 2 or 3 (R118). -/
def dueFrom (o o' : Obligation) : Bool := decide (o.debt < o'.debt) && decide (1 ≤ o'.debt)

/-- Whether a debt reached 3 from a lower value (R120). -/
def reached3 (o o' : Obligation) : Bool := decide (o.debt < 3) && o'.debt == 3

/-- Whether a judgement holds of some obligation before and after. -/
def anyObligation (f : Obligation → Obligation → Bool) (t t' : PerTest Obligation) : Bool :=
  f t.eb t'.eb || f t.railA t'.railA || f t.railB t'.railB

/-- OBLIGATION_MINUTE (R118): the three entries, OBLIGATION_DUE once, the restriction where a debt reaches 3. -/
def execObligationMinute (s : State) : Host.Outcome State Fault Refusal :=
  let t := s.sched.obligations
  let t' : PerTest Obligation :=
    ⟨t.eb.minute (s.effectiveInterval .eb), t.railA.minute (s.effectiveInterval .railA), t.railB.minute (s.effectiveInterval .railB)⟩
  let s1 := { s with sched := { s.sched with obligations := t' } }
  let s2 := if anyObligation dueFrom t t' then raiseAll .obligationDue s1 else s1
  .next (settle s (if anyObligation reached3 t t' then restrict s2 else s2))

end Sys2Proof.Machine
end

