-- ==== Sys2Proof/Machine/Links.lean ====
section
/-! DEFINITION. The link interface (chapter 10): its own requests, the judgement and dispatch of every request, the two slots of a port,
and the receiver that assembles frames from characters. -/

namespace Sys2Proof.Machine

/-! ### STATUS READ (R216) -/

def State.lineSection (s : State) : LineSection :=
  { line := s.trip.line, mode := s.trip.mode, parkedBerth := s.trip.parkedBerth, number := s.trip.number, record := s.trip.record,
    stage := s.trip.stage, stop := s.trip.stop, holdCause := s.trip.holdCause, slot := s.trip.slot, consentLower := s.trip.consentLower,
    consentUpper := s.trip.consentUpper, temp := s.trip.weather.temp, wind := s.trip.weather.wind, stale := s.trip.weather.stale }

def State.motionSection (s : State) : MotionSection :=
  { certainty := s.rope.certainty, coord := s.coord, position := ⟨s.pos .a, s.pos .b⟩, vSup := s.vSup, ropeDir := s.rope.dir,
    flag := s.rope.flag, sRef := s.rope.sRef, envelope := s.sup.envelope, windCap := s.sup.windCap, certCap := s.sup.certCap,
    ebRel := s.sup.ebRel, sbRel := s.sup.sbRel, drvEn := s.sup.drvEn, ebFb := s.sup.ebFb, sbFb := s.sup.sbFb,
    railOrder := s.sup.railOrder, lastService := s.sup.lastService }

def State.causesSection (s : State) : CausesSection := ⟨s.sup.causes, s.sup.overflow, s.sup.lastTrip⟩

/-- The number of present leaves of a side whose record is not LOCKED (R176). -/
def notLockedSide (set : Byte) (l : Six LeafRecord) : Nat :=
  (((Six.ofFn fun k => memberAt set k).zipWith (fun m r => m && r != LeafRecord.locked) l).toList.filter id).length

def State.doorsSection (s : State) (x : Car) : DoorsSection :=
  let c := s.doors.get x
  { alignment := c.alignment, stale := s.stale x, secure := s.secure x,
    notLocked := notLockedSide (s.present x .left) c.leaves.left + notLockedSide (s.present x .right) c.leaves.right,
    grants := c.grants, close := c.close, marks := c.marks, leaves := c.leaves, reported := (s.track.cars.get x).reported }

/-- A berth's figures (R200). -/
def State.berthFigures (s : State) (b : Berth) : BerthFigures :=
  let v := s.board.berths.get b
  ⟨v.state, v.pen, v.alighting, v.reserved, v.pending.length, s.quota b⟩

def State.platformsSection (s : State) : PlatformsSection :=
  { link := s.track.cars.map fun c => c.link, jammed := s.track.phase == .jammed, cars := s.board.cars,
    berths := ⟨s.berthFigures .b0, s.berthFigures .b1, s.berthFigures .b2, s.berthFigures .b3⟩ }

def State.obligationsSection (s : State) : ObligationsSection := ⟨s.sched.obligations, s.sched.test, s.sched.lastTest⟩

def PortState.noticesSection (q : PortState) : NoticesSection := ⟨q.enables, q.normal, q.abnormal, q.attention, q.report⟩

/-- A section of STATUS READ by its number (R216). R42 returns the line state in every STATUS READ, and R216 lists it in section 0 alone: the
other sections carry none (DESIGN CHOICE, log entry 70). -/
def State.sectionOf (s : State) (p : Port) : Nat → Option SectionData
  | 0 => some (.line s.lineSection)
  | 1 => some (.motion s.motionSection)
  | 2 => some (.causes s.causesSection)
  | 3 => some (.doors (s.doorsSection .a))
  | 4 => some (.doors (s.doorsSection .b))
  | 5 => some (.platforms s.platformsSection)
  | 6 => some (.obligations s.obligationsSection)
  | 7 => some (.notices (s.links.get p).noticesSection)
  | _ => none

/-- STATUS READ (R216). -/
def reqStatusRead (p : Port) (body : List Byte) (s : State) : State × Reply :=
  match body with
  | [x] =>
    match s.sectionOf p x.toNat with
    | some d => answerWith .done (.snapshot x.toNat (s.links.get p).flags d) s
    | none => refuse .badArgument s
  | _ => refuse .badArgument s

/-! ### NOTICE CLEAR, NOTICE ENABLE (R214, R215) -/

/-- NOTICE CLEAR (R214). -/
def reqNoticeClear (p : Port) (body : List Byte) (s : State) : State × Reply :=
  match body with
  | [x, y, z] =>
    match noticeSetOf x y z with
    | some n =>
      let q := s.links.get p
      answerWith .done (.notices (q.flags &&& ~~~n)) (s.setPort p { q with flags := q.flags &&& ~~~n })
    | none => refuse .badArgument s
  | _ => refuse .badArgument s

/-- NOTICE ENABLE (R215). -/
def reqNoticeEnable (p : Port) (body : List Byte) (s : State) : State × Reply :=
  match body with
  | [x, y, z, w] =>
    match noticeSetOf x y z with
    | some n =>
      if 3 < w.toNat then refuse .badArgument s
      else
        answerWith .done (.enables n (w.getLsbD 0) (w.getLsbD 1))
          (s.setPort p { s.links.get p with enables := n, normal := w.getLsbD 0, abnormal := w.getLsbD 1 })
    | none => refuse .badArgument s
  | _ => refuse .badArgument s

/-! ### COUNTS READ (R217) -/

/-- A port's five error counters in their order. -/
def PortState.counts (q : PortState) : List Byte := [byteOf q.parity, byteOf q.framing, byteOf q.gaps, byteOf q.check, byteOf q.overrun]

/-- A port with its error counters read: all 0, the error report ARMED (R207, R217). -/
def PortState.read (q : PortState) : PortState :=
  { q with parity := 0, framing := 0, gaps := 0, check := 0, overrun := 0, report := .armed }

/-- A berth's three counters in their order. -/
def BerthBoard.counts (v : BerthBoard) : List Byte := [byteOf v.quotaRefused, byteOf v.late, byteOf v.excess]

/-- A berth with its counters read. -/
def BerthBoard.read (v : BerthBoard) : BerthBoard := { v with quotaRefused := 0, late := 0, excess := 0 }

/-- A station's two berths, the lower-numbered first. -/
def stationBerths (p : Port) : Berth × Berth := if p = .us then (.b2, .b3) else (.b0, .b1)

/-- The counters a station port's COUNTS READ returns. -/
def State.stationCounts (s : State) (p : Port) : List Byte :=
  (s.links.get p).counts ++ (s.board.berths.get (stationBerths p).1).counts ++ (s.board.berths.get (stationBerths p).2).counts

/-- The overflow flags of the missed-status counters in one byte, car A at value 1 and car B at value 2. -/
def State.missedFlags (s : State) : Byte :=
  byteOf ((if s.track.cars.a.missedOverflow then 1 else 0) + (if s.track.cars.b.missedOverflow then 2 else 0))

/-- The counters the drive port's COUNTS READ returns (R217). -/
def State.driveCounts (s : State) : List Byte :=
  (s.links.get .d).counts ++ (s.links.get .ls).counts ++ (s.links.get .us).counts ++
  (beBytes 2 s.rope.spurious ++ [byteOf s.rope.chans.ch1.errors, byteOf s.rope.chans.ch2.errors]) ++
  [byteOf s.sup.serviceCount, byteOf s.sup.tripCount] ++
  (beBytes 2 s.track.cars.a.missed ++ beBytes 2 s.track.cars.b.missed ++
    [s.missedFlags, byteOf s.track.cars.a.calls, byteOf s.track.cars.b.calls, byteOf s.track.jams]) ++
  (s.board.berths.b0.counts ++ s.board.berths.b1.counts ++ s.board.berths.b2.counts ++ s.board.berths.b3.counts)

/-- A car's counters read. -/
def CarLink.read (c : CarLink) : CarLink := { c with missed := 0, missedOverflow := false, calls := 0 }

/-- A channel's counter read. -/
def ChanState.read (c : ChanState) : ChanState := { c with errors := 0 }

/-- The counters in a station port's scope set to 0. -/
def zeroStation (p : Port) (s : State) : State :=
  let s1 := s.setPort p (s.links.get p).read
  let s2 := s1.setBoard (stationBerths p).1 (s1.board.berths.get (stationBerths p).1).read
  s2.setBoard (stationBerths p).2 (s2.board.berths.get (stationBerths p).2).read

/-- Every counter of the part set to 0. -/
def zeroAll (s : State) : State :=
  { s with
    links := s.links.map PortState.read
    rope := { s.rope with spurious := 0, chans := ⟨s.rope.chans.ch1.read, s.rope.chans.ch2.read⟩ }
    sup := { s.sup with serviceCount := 0, tripCount := 0 }
    track := { s.track with cars := s.track.cars.map CarLink.read, jams := 0 }
    board := { s.board with berths := s.board.berths.map BerthBoard.read } }

/-- COUNTS READ (R217). -/
def reqCountsRead (p : Port) (body : List Byte) (s : State) : State × Reply :=
  if body ≠ [] then refuse .badArgument s
  else
    match p with
    | .d => answerWith .done (.counts s.driveCounts) (zeroAll s)
    | _ => answerWith .done (.counts (s.stationCounts p)) (zeroStation p s)

/-! ### The requests (section 10.4, R209) -/

/-- The requests of the table in 10.4. -/
inductive Request where
  | statusRead | noticeClear | noticeEnable | countsRead | emergencyStop
  | tableBegin | tableEntries | tableCommit | tableRead
  | openLine | closeLine | modeSet | run | hold | resume | tripReset | recoveryMove | brakeTest | railTest
  | departConsent | doorRelease | doorClose | boardingOpen | boardingClose | admission | passage | stationClear | weather
  deriving DecidableEq, Repr

/-- The kind code of a request. -/
def Request.code : Request → Byte
  | .statusRead => 0x01
  | .noticeClear => 0x02
  | .noticeEnable => 0x03
  | .countsRead => 0x04
  | .emergencyStop => 0x05
  | .tableBegin => 0x10
  | .tableEntries => 0x11
  | .tableCommit => 0x12
  | .tableRead => 0x13
  | .openLine => 0x20
  | .closeLine => 0x21
  | .modeSet => 0x22
  | .run => 0x23
  | .hold => 0x24
  | .resume => 0x25
  | .tripReset => 0x26
  | .recoveryMove => 0x27
  | .brakeTest => 0x28
  | .railTest => 0x29
  | .departConsent => 0x30
  | .doorRelease => 0x31
  | .doorClose => 0x32
  | .boardingOpen => 0x33
  | .boardingClose => 0x34
  | .admission => 0x35
  | .passage => 0x36
  | .stationClear => 0x37
  | .weather => 0x38

/-- Every request, in the order of its code. -/
def requestList : List Request :=
  [.statusRead, .noticeClear, .noticeEnable, .countsRead, .emergencyStop, .tableBegin, .tableEntries, .tableCommit, .tableRead,
   .openLine, .closeLine, .modeSet, .run, .hold, .resume, .tripReset, .recoveryMove, .brakeTest, .railTest, .departConsent,
   .doorRelease, .doorClose, .boardingOpen, .boardingClose, .admission, .passage, .stationClear, .weather]

/-- The request of a kind code, or none for a kind of no row. -/
def requestOf (kind : Byte) : Option Request := requestList.find? fun r => r.code == kind

/-- Whether a port may send a request (the Ports column of 10.4). -/
def Request.permitted : Request → Port → Bool
  | .statusRead, _ => true
  | .noticeClear, _ => true
  | .noticeEnable, _ => true
  | .countsRead, _ => true
  | .emergencyStop, _ => true
  | .tableRead, _ => true
  | .hold, _ => true
  | .departConsent, p => p != .d
  | .doorRelease, p => p != .d
  | .doorClose, p => p != .d
  | .boardingOpen, p => p != .d
  | .boardingClose, p => p != .d
  | .admission, p => p != .d
  | .passage, p => p != .d
  | .stationClear, p => p != .d
  | .weather, p => p == .us
  | _, p => p == .d

/-- The owner's handling of a permitted request. -/
def Request.serve : Request → Port → List Byte → State → State × Reply
  | .statusRead => reqStatusRead
  | .noticeClear => reqNoticeClear
  | .noticeEnable => reqNoticeEnable
  | .countsRead => reqCountsRead
  | .emergencyStop => reqEmergencyStop
  | .tableBegin => reqTableBegin
  | .tableEntries => reqTableEntries
  | .tableCommit => reqTableCommit
  | .tableRead => reqTableRead
  | .openLine => reqOpenLine
  | .closeLine => reqCloseLine
  | .modeSet => reqModeSet
  | .run => reqRun
  | .hold => reqHold
  | .resume => reqResume
  | .tripReset => reqTripReset
  | .recoveryMove => reqRecoveryMove
  | .brakeTest => reqBrakeTest
  | .railTest => reqRailTest
  | .departConsent => reqDepartConsent
  | .doorRelease => reqDoorRelease
  | .doorClose => reqDoorClose
  | .boardingOpen => reqBoardingOpen
  | .boardingClose => reqBoardingClose
  | .admission => reqAdmit
  | .passage => reqPassage
  | .stationClear => reqStationClear
  | .weather => reqWeather

/-- The answer kind of a request kind (R205, R209): 0xFF for a kind from 0x80 on. -/
def answerKind (kind : Byte) : Byte := if kind.toNat < 128 then kind + 0x80 else 0xFF

/-- Whether a result code refuses its request: codes from 0x40 on (R211). -/
def Result.refuses : Result → Bool
  | .done => false
  | .accepted => false
  | .granted => false
  | .late => false
  | _ => true

/-- The requests whose effect is no part of what a sequence waits for: those of the link interface, of the staging area, of the weather
record, and ADMIT. -/
def Request.inert : Request → Bool
  | .statusRead => true
  | .noticeClear => true
  | .noticeEnable => true
  | .countsRead => true
  | .tableBegin => true
  | .tableEntries => true
  | .tableRead => true
  | .weather => true
  | .admission => true
  | _ => false

/-- Take a request: port permission, then the owner's own judgements and effect, then, where it was taken and its effect may be waited
for, the steps that the event makes due (R209). -/
def takeRequest (p : Port) (kind : Byte) (body : List Byte) (s : State) : State × Reply :=
  match requestOf kind with
  | some r =>
    if r.permitted p then
      let q := r.serve p body s
      if q.2.code.refuses || r.inert then q else (settle s q.1, q.2)
    else refuse .notPermitted s
  | none => refuse .notPermitted s

/-! ### The slots (R208) -/

/-- Pass a frame in the executing slot to its owner; the answer's transmission begins. -/
def execute (p : Port) (f : Frame) (s : State) : State :=
  let q := takeRequest p f.kind f.body s
  q.1.setPort p { q.1.links.get p with executing := some f, answer := some ⟨answerKind f.kind, q.2⟩ }

/-- Take a complete frame into a port's slots (R208). -/
def deliver (p : Port) (kind : Byte) (body : List Byte) (s : State) : State :=
  match (s.links.get p).executing, (s.links.get p).waiting with
  | none, _ => execute p ⟨kind, body⟩ s
  | some _, none => s.setPort p { s.links.get p with waiting := some ⟨kind, body⟩ }
  | some _, some _ => linkError p .overrun s

/-- The end of an answer's last character (R208): the executing slot empties and a waiting frame moves in. -/
def finishAnswer (p : Port) (s : State) : State :=
  let s1 := s.setPort p { s.links.get p with executing := none, answer := none, waiting := none }
  match (s.links.get p).waiting with
  | some f => execute p f s1
  | none => s1

/-- ANSWER_SENT (R208). -/
def execAnswerSent (p : Port) (s : State) : Host.Outcome State Fault Refusal :=
  match (s.links.get p).executing with
  | some _ => .next (finishAnswer p s)
  | none => .next s

/-! ### The receiver (R203, R206) -/

/-- The receiver back in HUNT with no frame under assembly. -/
def PortState.toHunt (q : PortState) : PortState := { q with rx := .hunt, kind := 0, len := 0, body := [], gap := false }

/-- The receiver in a later state of a frame under assembly, its gap limit started. -/
def PortState.toState (q : PortState) (r : Receiver) : PortState := { q with rx := r, gap := true }

/-- A frame discarded, with its error counted (R206, R207). -/
def discard (p : Port) (e : LinkError) (s : State) : State := linkError p e (s.setPort p (s.links.get p).toHunt)

/-- A good character (R206). -/
def goodCharacter (p : Port) (b : Byte) (s : State) : State :=
  let q := s.links.get p
  match q.rx with
  | .hunt => if b = 0xC3 then s.setPort p { q.toState .kind with kind := 0, len := 0, body := [] } else s
  | .kind => s.setPort p { q.toState .length with kind := b }
  | .length =>
    if 48 < b.toNat then discard p .check s
    else s.setPort p { q.toState (if b = 0 then .check else .body) with len := b.toNat }
  | .body =>
    s.setPort p { q.toState (if q.len ≤ q.body.length + 1 then .check else .body) with body := q.body ++ [b] }
  | .check =>
    if b = crc8 (q.kind :: byteOf q.len :: q.body) then deliver p q.kind q.body (s.setPort p q.toHunt) else discard p .check s

/-- A character error: counted, and the frame under assembly, if any, discarded (R203, R206). -/
def badCharacter (p : Port) (e : LinkError) (s : State) : State := discard p e s

/-- A character with a FRAMING error (R203): the receiver then waits for the line to be high before it takes a new start edge. -/
def framingError (p : Port) (s : State) : State := badCharacter p .framing (s.setPort p { s.links.get p with waitHigh := true })

/-- A character of a receiver that has taken its start edge (R203, R206). A start bit that votes 1 was noise: a gap limit that its edge stopped
runs on where a frame is under assembly (log entry 12). -/
def takeCharacter (p : Port) (samples : List (BitVec 3)) (s : State) : State :=
  match judgeChar samples with
  | .noise => s.setPort p { s.links.get p with gap := (s.links.get p).rx != .hunt }
  | .framing => framingError p s
  | .parity => badCharacter p .parity s
  | .good b => goodCharacter p b s

/-- STATION_CHARACTER_RECEIVED (R203, R206). While the receiver waits for the line to be high, what it reads is no character, so that a line
held low gives one FRAMING error and no more. -/
def execStationCharacterReceived (p : Port) (samples : List (BitVec 3)) (s : State) : Host.Outcome State Fault Refusal :=
  if (s.links.get p).waitHigh then .next s else .next (takeCharacter p samples s)

/-- START_EDGE (R203, R206): the line was high, and the gap limit stops at the start edge. -/
def execStartEdge (p : Port) (s : State) : Host.Outcome State Fault Refusal :=
  .next (s.setPort p { s.links.get p with gap := false, waitHigh := false })

/-- GAP_LIMIT_EXPIRY (R206). -/
def execGapLimitExpiry (p : Port) (s : State) : Host.Outcome State Fault Refusal :=
  if (s.links.get p).gap then .next (discard p .gap s) else .next s

end Sys2Proof.Machine
end

