-- ==== Sys2Proof/Machine/Resets.lean ====
section
/-! DEFINITION. The two resets: power-on (R58 and each block's power-on rule) and the line reset (R59 and each block's line reset rule). -/

namespace Sys2Proof.Machine

/-! ### Power-on -/

/-- The phase line levels of a channel are inputs and stand as they are. -/
def ChanState.powerOn (c : ChanState) : ChanState := { ChanState.reset with levelA := c.levelA, levelB := c.levelB }

/-- A port at power-on: the values of R218, the rate taken from the strap as it stands (R203). -/
def PortState.powerOn (q : PortState) : PortState := .reset q.strap

/-- Power-on (R18, R40, R58, R115, R133, R158, R177, R201, R218): every block at its power-on values. The inputs stand as they are: phase
lines, marker levels (R40), brake feedback, whose limit runs where it reports released (R115), straps, a drive of the track line by
others, whose drive limit is stopped all the same (R158). -/
def powerOn (s : State) : State :=
  { State.reset with
    rope := { Rope.reset with
      chans := ⟨s.rope.chans.ch1.powerOn, s.rope.chans.ch2.powerOn⟩, switches := s.rope.switches, frees := s.rope.frees }
    sup := { Sup.reset with ebFb := s.sup.ebFb, sbFb := s.sup.sbFb, ebLimit := s.sup.ebFb, sbLimit := s.sup.sbFb }
    track := { Track.reset with othersDrive := s.track.othersDrive }
    links := s.links.map PortState.powerOn
    now := s.now
    pending := s.pending }

/-- POWER_ON (R58). -/
def execPowerOn (s : State) : Host.Outcome State Fault Refusal := .next (powerOn s)

/-! ### Line reset -/

/-- Whether a line reset records RESET_IN_MOTION alone in these line states (R114). -/
def LineState.resetInMotion : LineState → Bool
  | .dispatch => true
  | .running _ => true
  | .recovery true => true
  | .testing _ => true
  | _ => false

/-- RESET_IN_MOTION as an entry of the last trip record. -/
def motionEntry : CauseEntry := ⟨.resetInMotion, none⟩

/-- The last trip record formed at a line reset (R114, step 2). -/
def State.resetRecord (s : State) : Option LastTrip :=
  match s.trip.line with
  | .tripped =>
    some ⟨s.trip.number, if s.rope.flag then s.sup.causes else s.sup.causes ++ [motionEntry], s.sup.overflow⟩
  | l => if l.resetInMotion then some ⟨s.trip.number, [motionEntry], false⟩ else s.sup.lastTrip

/-- Rail brake orders at a line reset (R111): cleared where the flag is set, otherwise marked for its next setting. -/
def resetOrders (s : State) : State :=
  if s.rope.flag then { s with sup := { s.sup with railOrder := ⟨.none, .none⟩, orderClears := ⟨false, false⟩ } }
  else { s with sup := { s.sup with orderClears := ⟨s.sup.railOrder.a != .none, s.sup.railOrder.b != .none⟩ } }

/-- The supervisor at a line reset (R114), with the frame carrying 0 (R59, R71). The frame's direction is taken with the trip record and the
test as held before the reset (DESIGN CHOICE, log entry 56). The limit of an emergency brake that still reports released with EB_REL
de-energised before the reset is left as it stands, stopped where it has expired (DESIGN CHOICE, log entry 69). -/
def resetSupervisor (s : State) : State :=
  let s1 := forceZero (setDrv false (setSb false (setEb false s)))
  resetOrders { s1 with sup := { s1.sup with
    lastTrip := s.resetRecord, causes := [], overflow := false, overS := 0, warning := false, dirWatch := none } }

/-- A test in hand at a line reset (R122, R133): its record ABORTED where undecided, without TEST_DONE, and none in hand. -/
def resetTest (s : State) : State :=
  let s1 := match s.sched.test with
    | some (_, .ending) => s
    | some (k, _) => writeTest k .aborted s.sched.largest s
    | none => s
  stopTestLimits { s1 with sched := { s1.sched with test := none } }

/-- The trip controller at a line reset (R59). -/
def resetTripController (s : State) : State :=
  { s with trip := { s.trip with
      line := .closed, record := none, stage := none, dispatchLimit := false, stop := .none, holdCause := none, slot := none, forming := 0,
      held := 0, stepping := false, distances := false, resumeRelease := false, moveRelease := false, parkedBerth := none, origin := .none,
      consentLower := false, consentUpper := false } }

/-- One car's link at a line reset (R159). -/
def CarLink.lineReset (c : CarLink) : CarLink := { c with link := .down, refusals := 0, window := false, silence := false, fresh := false }

/-- The track line controller at a line reset (R159). -/
def resetTrack (s : State) : State :=
  s.setTrack { s.track with
    phase := .free, quiet := s.track.quiet && !s.track.driven, driveLimit := s.track.othersDrive, nextTurn := .a, owed := none,
    outOfTurn := [], turn := none, acceptLimit := false, answerLimit := false, cars := s.track.cars.map CarLink.lineReset }

/-- One car's doors at a line reset (R177): every grant withdrawn with its close order, alignment NONE, marks cleared. -/
def CarDoors.lineReset (c : CarDoors) : CarDoors :=
  { (c.dropGrant .left).dropGrant .right with alignment := .none, marks := ⟨0, 0⟩ }

/-- One berth at a line reset (R202). -/
def BerthBoard.lineReset (b : BerthBoard) : BerthBoard := { b with state := .closed, pending := [] }

/-- The boarding controller at a line reset (R202). -/
def resetBoard (b : Board) : Board :=
  ⟨b.berths.map BerthBoard.lineReset, b.cars.map fun c => { c with uncertain := true }⟩

/-- A port at a line reset (R219): every notice flag clear but RESET, and POSITION where certainty fell; every enable off. -/
def PortState.lineReset (fell : Bool) (q : PortState) : PortState :=
  { q with flags := if fell then Notice.reset.bit ||| Notice.position.bit else Notice.reset.bit,
           enables := 0, normal := false, abnormal := false }

/-- A line reset as every block takes it; a DISARMED rollaway watch arms once the line is CLOSED, where the flag is set (R18, R41, R59, R114, R122, R133, R159, R177, R202, R219). -/
def lineReset (s : State) : State :=
  let s1 := resetTrack (armRollaway (resetTripController (resetTest (resetSupervisor s))))
  { s1 with
    tables := { s1.tables with staging := none }
    rope := { s1.rope with certainty := if s.rope.certainty = .known then .uncertain else s.rope.certainty }
    doors := s1.doors.map CarDoors.lineReset
    board := resetBoard s1.board
    links := s1.links.map (PortState.lineReset (s.rope.certainty == .known)) }

/-- LINE_RESET (R59). -/
def execLineReset (s : State) : Host.Outcome State Fault Refusal := .next (lineReset s)

end Sys2Proof.Machine
end

