-- ==== Sys2Proof/Machine/Requests.lean ====
section
/-! DEFINITION. The meaning of each request as a command: the arrival at its port of a complete request frame with the given body, taken
into the port's slots by R208 and, where the executing slot is empty, executed at once by the owner's rule (R209 to R211). -/

namespace Sys2Proof.Machine

/-- STATUS_READ (R216): the frame of the request taken into the port's slots (R208). -/
def execStatusRead (p : Port) (body : List Byte) (s : State) : Host.Outcome State Fault Refusal :=
  .next (deliver p (Request.statusRead).code body s)

/-- NOTICE_CLEAR (R214): the frame of the request taken into the port's slots (R208). -/
def execNoticeClear (p : Port) (body : List Byte) (s : State) : Host.Outcome State Fault Refusal :=
  .next (deliver p (Request.noticeClear).code body s)

/-- NOTICE_ENABLE (R215): the frame of the request taken into the port's slots (R208). -/
def execNoticeEnable (p : Port) (body : List Byte) (s : State) : Host.Outcome State Fault Refusal :=
  .next (deliver p (Request.noticeEnable).code body s)

/-- COUNTS_READ (R217): the frame of the request taken into the port's slots (R208). -/
def execCountsRead (p : Port) (body : List Byte) (s : State) : Host.Outcome State Fault Refusal :=
  .next (deliver p (Request.countsRead).code body s)

/-- EMERGENCY_STOP (R108): the frame of the request taken into the port's slots (R208). -/
def execEmergencyStop (p : Port) (body : List Byte) (s : State) : Host.Outcome State Fault Refusal :=
  .next (deliver p (Request.emergencyStop).code body s)

/-- TABLE_BEGIN (R9): the frame of the request taken into the port's slots (R208). -/
def execTableBegin (p : Port) (body : List Byte) (s : State) : Host.Outcome State Fault Refusal :=
  .next (deliver p (Request.tableBegin).code body s)

/-- TABLE_ENTRIES (R10): the frame of the request taken into the port's slots (R208). -/
def execTableEntries (p : Port) (body : List Byte) (s : State) : Host.Outcome State Fault Refusal :=
  .next (deliver p (Request.tableEntries).code body s)

/-- TABLE_COMMIT (R11): the frame of the request taken into the port's slots (R208). -/
def execTableCommit (p : Port) (body : List Byte) (s : State) : Host.Outcome State Fault Refusal :=
  .next (deliver p (Request.tableCommit).code body s)

/-- TABLE_READ (R17): the frame of the request taken into the port's slots (R208). -/
def execTableRead (p : Port) (body : List Byte) (s : State) : Host.Outcome State Fault Refusal :=
  .next (deliver p (Request.tableRead).code body s)

/-- OPEN_LINE (R47): the frame of the request taken into the port's slots (R208). -/
def execOpenLine (p : Port) (body : List Byte) (s : State) : Host.Outcome State Fault Refusal :=
  .next (deliver p (Request.openLine).code body s)

/-- CLOSE_LINE (R51): the frame of the request taken into the port's slots (R208). -/
def execCloseLine (p : Port) (body : List Byte) (s : State) : Host.Outcome State Fault Refusal :=
  .next (deliver p (Request.closeLine).code body s)

/-- MODE_SET (R49): the frame of the request taken into the port's slots (R208). -/
def execModeSet (p : Port) (body : List Byte) (s : State) : Host.Outcome State Fault Refusal :=
  .next (deliver p (Request.modeSet).code body s)

/-- RUN (R60): the frame of the request taken into the port's slots (R208). -/
def execRun (p : Port) (body : List Byte) (s : State) : Host.Outcome State Fault Refusal :=
  .next (deliver p (Request.run).code body s)

/-- HOLD (R66): the frame of the request taken into the port's slots (R208). -/
def execHold (p : Port) (body : List Byte) (s : State) : Host.Outcome State Fault Refusal :=
  .next (deliver p (Request.hold).code body s)

/-- RESUME (R83): the frame of the request taken into the port's slots (R208). -/
def execResume (p : Port) (body : List Byte) (s : State) : Host.Outcome State Fault Refusal :=
  .next (deliver p (Request.resume).code body s)

/-- TRIP_RESET (R112): the frame of the request taken into the port's slots (R208). -/
def execTripReset (p : Port) (body : List Byte) (s : State) : Host.Outcome State Fault Refusal :=
  .next (deliver p (Request.tripReset).code body s)

/-- RECOVERY_MOVE (R84): the frame of the request taken into the port's slots (R208). -/
def execRecoveryMove (p : Port) (body : List Byte) (s : State) : Host.Outcome State Fault Refusal :=
  .next (deliver p (Request.recoveryMove).code body s)

/-- BRAKE_TEST (R123): the frame of the request taken into the port's slots (R208). -/
def execBrakeTest (p : Port) (body : List Byte) (s : State) : Host.Outcome State Fault Refusal :=
  .next (deliver p (Request.brakeTest).code body s)

/-- RAIL_TEST (R127): the frame of the request taken into the port's slots (R208). -/
def execRailTest (p : Port) (body : List Byte) (s : State) : Host.Outcome State Fault Refusal :=
  .next (deliver p (Request.railTest).code body s)

/-- DEPART_CONSENT (R53): the frame of the request taken into the port's slots (R208). -/
def execDepartConsent (p : Port) (body : List Byte) (s : State) : Host.Outcome State Fault Refusal :=
  .next (deliver p (Request.departConsent).code body s)

/-- DOOR_RELEASE (R166): the frame of the request taken into the port's slots (R208). -/
def execDoorRelease (p : Port) (body : List Byte) (s : State) : Host.Outcome State Fault Refusal :=
  .next (deliver p (Request.doorRelease).code body s)

/-- DOOR_CLOSE (R171): the frame of the request taken into the port's slots (R208). -/
def execDoorClose (p : Port) (body : List Byte) (s : State) : Host.Outcome State Fault Refusal :=
  .next (deliver p (Request.doorClose).code body s)

/-- BOARDING_OPEN (R180): the frame of the request taken into the port's slots (R208). -/
def execBoardingOpen (p : Port) (body : List Byte) (s : State) : Host.Outcome State Fault Refusal :=
  .next (deliver p (Request.boardingOpen).code body s)

/-- BOARDING_CLOSE (R183): the frame of the request taken into the port's slots (R208). -/
def execBoardingClose (p : Port) (body : List Byte) (s : State) : Host.Outcome State Fault Refusal :=
  .next (deliver p (Request.boardingClose).code body s)

/-- ADMIT (R189): the frame of the request taken into the port's slots (R208). -/
def execAdmit (p : Port) (body : List Byte) (s : State) : Host.Outcome State Fault Refusal :=
  .next (deliver p (Request.admission).code body s)

/-- PASSAGE (R192): the frame of the request taken into the port's slots (R208). -/
def execPassage (p : Port) (body : List Byte) (s : State) : Host.Outcome State Fault Refusal :=
  .next (deliver p (Request.passage).code body s)

/-- STATION_CLEAR (R198): the frame of the request taken into the port's slots (R208). -/
def execStationClear (p : Port) (body : List Byte) (s : State) : Host.Outcome State Fault Refusal :=
  .next (deliver p (Request.stationClear).code body s)

/-- WEATHER (R55): the frame of the request taken into the port's slots (R208). -/
def execWeather (p : Port) (body : List Byte) (s : State) : Host.Outcome State Fault Refusal :=
  .next (deliver p (Request.weather).code body s)

end Sys2Proof.Machine
end

