-- ==== Sys2Proof/Machine/Dispatch.lean ====
section
/-! DEFINITION. One arm per command. -/

namespace Sys2Proof.Machine

def exec (i : Instr) (s : State) : Host.Outcome State Fault Refusal :=
  match i with
  | .powerOn => Sys2Proof.Machine.execPowerOn s
  | .lineReset => Sys2Proof.Machine.execLineReset s
  | .stationCharacterReceived p samples => Sys2Proof.Machine.execStationCharacterReceived p samples s
  | .gapLimitExpiry p => Sys2Proof.Machine.execGapLimitExpiry p s
  | .answerSent p => Sys2Proof.Machine.execAnswerSent p s
  | .statusRead p body => Sys2Proof.Machine.execStatusRead p body s
  | .noticeClear p body => Sys2Proof.Machine.execNoticeClear p body s
  | .noticeEnable p body => Sys2Proof.Machine.execNoticeEnable p body s
  | .countsRead p body => Sys2Proof.Machine.execCountsRead p body s
  | .emergencyStop p body => Sys2Proof.Machine.execEmergencyStop p body s
  | .tableBegin p body => Sys2Proof.Machine.execTableBegin p body s
  | .tableEntries p body => Sys2Proof.Machine.execTableEntries p body s
  | .tableCommit p body => Sys2Proof.Machine.execTableCommit p body s
  | .tableRead p body => Sys2Proof.Machine.execTableRead p body s
  | .openLine p body => Sys2Proof.Machine.execOpenLine p body s
  | .closeLine p body => Sys2Proof.Machine.execCloseLine p body s
  | .modeSet p body => Sys2Proof.Machine.execModeSet p body s
  | .run p body => Sys2Proof.Machine.execRun p body s
  | .hold p body => Sys2Proof.Machine.execHold p body s
  | .resume p body => Sys2Proof.Machine.execResume p body s
  | .tripReset p body => Sys2Proof.Machine.execTripReset p body s
  | .recoveryMove p body => Sys2Proof.Machine.execRecoveryMove p body s
  | .brakeTest p body => Sys2Proof.Machine.execBrakeTest p body s
  | .railTest p body => Sys2Proof.Machine.execRailTest p body s
  | .departConsent p body => Sys2Proof.Machine.execDepartConsent p body s
  | .doorRelease p body => Sys2Proof.Machine.execDoorRelease p body s
  | .doorClose p body => Sys2Proof.Machine.execDoorClose p body s
  | .boardingOpen p body => Sys2Proof.Machine.execBoardingOpen p body s
  | .boardingClose p body => Sys2Proof.Machine.execBoardingClose p body s
  | .admission p body => Sys2Proof.Machine.execAdmit p body s
  | .passage p body => Sys2Proof.Machine.execPassage p body s
  | .stationClear p body => Sys2Proof.Machine.execStationClear p body s
  | .weather p body => Sys2Proof.Machine.execWeather p body s
  | .stalenessLimitExpiry => Sys2Proof.Machine.execStalenessLimitExpiry s
  | .countStep ch line at_ => Sys2Proof.Machine.execCountStep ch line at_ s
  | .quadratureError ch => Sys2Proof.Machine.execQuadratureError ch s
  | .standstillGapExpiry ch => Sys2Proof.Machine.execStandstillGapExpiry ch s
  | .standstillDwellExpiry => Sys2Proof.Machine.execStandstillDwellExpiry s
  | .markerEdge m level => Sys2Proof.Machine.execMarkerEdge m level s
  | .supervisionSample => Sys2Proof.Machine.execSupervisionSample s
  | .profileStep => Sys2Proof.Machine.execProfileStep s
  | .brakeFeedbackChange br released => Sys2Proof.Machine.execBrakeFeedbackChange br released s
  | .brakeFeedbackLimitExpiry br => Sys2Proof.Machine.execBrakeFeedbackLimitExpiry br s
  | .dispatchTimeout => Sys2Proof.Machine.execDispatchTimeout s
  | .ebTestWindowExpiry => Sys2Proof.Machine.execEbTestWindowExpiry s
  | .creepLimitExpiry => Sys2Proof.Machine.execCreepLimitExpiry s
  | .brakeLimitExpiry => Sys2Proof.Machine.execBrakeLimitExpiry s
  | .obligationMinute => Sys2Proof.Machine.execObligationMinute s
  | .passageWindowExpiry b => Sys2Proof.Machine.execPassageWindowExpiry b s
  | .pollTimerExpiry => Sys2Proof.Machine.execPollTimerExpiry s
  | .freeIntervalReached => Sys2Proof.Machine.execFreeIntervalReached s
  | .selectionSent => Sys2Proof.Machine.execSelectionSent s
  | .acceptReceived c => Sys2Proof.Machine.execAcceptReceived c s
  | .commandBlockSent => Sys2Proof.Machine.execCommandBlockSent s
  | .acceptLimitExpiry => Sys2Proof.Machine.execAcceptLimitExpiry s
  | .answerLimitExpiry => Sys2Proof.Machine.execAnswerLimitExpiry s
  | .invalidAnswerReceived => Sys2Proof.Machine.execInvalidAnswerReceived s
  | .statusBlockReceived chars => Sys2Proof.Machine.execStatusBlockReceived chars s
  | .abilityRecordReceived chars => Sys2Proof.Machine.execAbilityRecordReceived chars s
  | .callReceived c => Sys2Proof.Machine.execCallReceived c s
  | .garbledCall => Sys2Proof.Machine.execGarbledCall s
  | .callWindowExpiry x => Sys2Proof.Machine.execCallWindowExpiry x s
  | .trackDriveStart => Sys2Proof.Machine.execTrackDriveStart s
  | .trackDriveEnd => Sys2Proof.Machine.execTrackDriveEnd s
  | .driveLimitExpiry => Sys2Proof.Machine.execDriveLimitExpiry s
  | .silenceLimitExpiry x => Sys2Proof.Machine.execSilenceLimitExpiry x s
  | .freshnessLimitExpiry x => Sys2Proof.Machine.execFreshnessLimitExpiry x s
  | .startEdge p => Sys2Proof.Machine.execStartEdge p s

end Sys2Proof.Machine
end

