-- ==== Sys2Proof/Safety.lean ====
section
/-! DEFINITION. What counts as a safe state of the part: the laws that the spec states of every moment, each with what it needs to be kept
by every step on its own. A state in which no run arrives is ruled out only by what stands here. -/

namespace Sys2Proof.Machine

/-- R110, with the profile step's part of it: a cause is listed exactly in TRIPPED, the outputs are then down and the held setpoint 0, the
list holds at most four causes, each at most once. -/
def CauseLaw (s : State) : Prop :=
  (s.sup.causes ≠ [] ↔ s.trip.line = .tripped) ∧
  (s.trip.line = .tripped → s.sup.ebRel = false ∧ s.sup.sbRel = false ∧ s.sup.drvEn = false ∧ s.trip.held = 0) ∧
  (s.sup.drvEn = false → s.trip.stepping = false) ∧
  s.sup.causes.length ≤ 4 ∧ (s.sup.causes.map fun e => e.cause).Nodup

/-- R82: the hold save slot is occupied exactly in HELD. -/
def SlotLaw (s : State) : Prop := s.trip.slot.isSome = true ↔ s.trip.line = .held

/-- R29 and R165: with the standstill flag set the rope stands within 5 mm of s_ref, and a release grant is active only in PARKED with the
flag set. -/
def GrantLaw (s : State) : Prop :=
  (s.rope.flag = true → distance s.coord s.rope.sRef ≤ 5) ∧ (s.anyGrant = true → s.trip.line = .parked ∧ s.rope.flag = true)

/-- R190 and R178 for one berth: a record is pending only in OPEN and CLOSING, and in CLOSING there is one. -/
def BerthLaw (v : BerthBoard) : Prop :=
  (v.state ≠ .open → v.state ≠ .closing → v.pending = []) ∧ (v.state = .closing → v.pending ≠ [])

/-- The gates of every pending record, over the four berths. -/
def Board.pendingGates (b : Board) : List Nat :=
  ((b.berths.b0.pending ++ b.berths.b1.pending ++ b.berths.b2.pending ++ b.berths.b3.pending).map fun r => r.gate)

/-- R190: every berth keeps its law and no gate has more than one pending admission. -/
def PendingLaw (s : State) : Prop :=
  (∀ b ∈ berthList, BerthLaw (s.board.berths.get b)) ∧ s.board.pendingGates.Nodup

/-- Whether the line is in a brake test. -/
def LineState.isTest : LineState → Bool
  | .testing _ => true
  | _ => false

/-- R92: DRV_EN is energised only in RUNNING, RECOVERY-MOVING or TESTING, with every present leaf of both cars LOCKED as last reported, both
links usable and no grant active; not during a move release, and in an emergency brake test only in its window. -/
def DriveLaw (s : State) : Prop :=
  (s.sup.drvEn = true →
    (s.trip.line.inMotion = true ∨ s.trip.line.isTest = true) ∧ s.stale .a = false ∧ s.stale .b = false ∧
      s.allLocked .a = true ∧ s.allLocked .b = true ∧ s.anyGrant = false) ∧
  (s.trip.moveRelease = true → s.trip.line = .recovery true ∧ s.sup.drvEn = false) ∧
  (s.trip.line = .testing .eb → s.sched.test ≠ some (.eb, .window) → s.sup.drvEn = false)

/-- The other car stands at, or goes to, the mirror of car A's berth. -/
def MirrorPair (c : PerCar Berth) : Prop := c.b = c.a.mirror

/-- R61, R83, R85 and R127: the targets of the trip record, of the hold save slot and of a rail test in hand are mirror pairs. -/
def TargetLaw (s : State) : Prop :=
  (∀ r, s.trip.record = some r → MirrorPair r.target) ∧ (∀ h, s.trip.slot = some h → MirrorPair h.target) ∧
  (s.trip.line.isRail = true → MirrorPair s.sched.targets)

/-- R122, R123, R126, R127 and R131: a test of a kind is in hand exactly while the line is TESTING of that kind. -/
def TestLaw (s : State) : Prop := ∀ k, s.trip.line = .testing k ↔ ∃ g, s.sched.test = some (k, g)

/-! ### Terms for claims about interlocks -/

/-- R163: a car is SECURE with its leaf records current (R162), its status block FRESH, every present leaf LOCKED and no release grant active. -/
def DoorsSecure (s : State) (x : Car) : Prop :=
  let c := s.track.cars.get x
  (c.link = .complete ∨ c.link = .check) ∧ c.fresh = true ∧
  ∀ d, (s.doors.get x).grants.get d = none ∧
    ∀ r, c.ability = some r → ∀ k < 6, (r.leaves d).getLsbD k = true → ((s.doors.get x).leaves.get d).toList.getD k .absent = .locked

/-- What the interlocks of R63, R83, R84, R123 and R127 share: both car links COMPLETE, every present leaf of both cars LOCKED in a status block
no older than 200 ms, and no release grant active. -/
def CarsReady (s : State) : Prop := ∀ x, (s.track.cars.get x).link = .complete ∧ DoorsSecure s x

/-- A berth's boarding state is SEALED or CLOSED, as the interlocks ask (R63, R84, R123). -/
def BoardingShut (s : State) (b : Berth) : Prop := (s.board.berths.get b).state = .closed ∨ (s.board.berths.get b).state = .sealed

/-- R179: car A stands at the parked berth in PARKED and in TESTING of kind EB, in DISPATCH at the starting berth, and car B at its mirror; in
every other line state no car is at a berth. -/
def StandsAt (s : State) (x : Car) (b : Berth) : Prop :=
  ∃ k, ((s.trip.line = .parked ∨ s.trip.line = .testing .eb) ∧ s.trip.parkedBerth = some k ∨
      s.trip.line = .dispatch ∧ ∃ r, s.trip.record = some r ∧ r.start = some k) ∧
    b = match x with | .a => k | .b => k.mirror

/-! ### Terms for claims about commands -/

/-- The command of a request frame with a given body arriving at a port. -/
def Request.command : Request → Port → List Byte → Instr
  | .statusRead, p, body => .statusRead p body
  | .noticeClear, p, body => .noticeClear p body
  | .noticeEnable, p, body => .noticeEnable p body
  | .countsRead, p, body => .countsRead p body
  | .emergencyStop, p, body => .emergencyStop p body
  | .tableBegin, p, body => .tableBegin p body
  | .tableEntries, p, body => .tableEntries p body
  | .tableCommit, p, body => .tableCommit p body
  | .tableRead, p, body => .tableRead p body
  | .openLine, p, body => .openLine p body
  | .closeLine, p, body => .closeLine p body
  | .modeSet, p, body => .modeSet p body
  | .run, p, body => .run p body
  | .hold, p, body => .hold p body
  | .resume, p, body => .resume p body
  | .tripReset, p, body => .tripReset p body
  | .recoveryMove, p, body => .recoveryMove p body
  | .brakeTest, p, body => .brakeTest p body
  | .railTest, p, body => .railTest p body
  | .departConsent, p, body => .departConsent p body
  | .doorRelease, p, body => .doorRelease p body
  | .doorClose, p, body => .doorClose p body
  | .boardingOpen, p, body => .boardingOpen p body
  | .boardingClose, p, body => .boardingClose p body
  | .admission, p, body => .admission p body
  | .passage, p, body => .passage p body
  | .stationClear, p, body => .stationClear p body
  | .weather, p, body => .weather p body

/-- A port whose executing slot is empty takes a frame at once (R208). -/
def State.portFree (s : State) (p : Port) : Prop := (s.links.get p).executing = none

/-- A state with a port's executing slot holding a request, and the answer to it in transmission (R208, R211). -/
def State.answering (s : State) (p : Port) (r : Request) (body : List Byte) (c : Result) (d : ReplyData) : State :=
  s.setPort p { s.links.get p with executing := some ⟨r.code, body⟩, answer := some ⟨r.code + 0x80, ⟨c, d⟩⟩ }

/-- Commands taken one after another, stopping at the first that does not go on. -/
def runCommands : List Instr → State → Host.Outcome State Fault Refusal
  | [], s => .next s
  | c :: l, s =>
    match exec c s with
    | .next t => runCommands l t
    | o => o

/-- The line states in which no sequence waits for a report or for standstill. -/
def LineState.still : LineState → Bool
  | .closed => true
  | .parked => true
  | .tripped => true
  | .recovery false => true
  | _ => false

/-- What a successful commit leaves in the table store (R11, R13, R15). -/
def Validated.into (v : Validated) (t : Tables) : Tables :=
  match v with
  | .line h => t.commitLine h
  | .sections l => { t with sections := some l, staging := none }
  | .berths b => { t with berths := some b, staging := none }
  | .markers l => { t with markers := some l, staging := none }
  | .cars c => { t with cars := some c, staging := none }
  | .gates l => { t with gates := some l, staging := none }
  | .rules l => { t with rules := l, rulesMark := true, staging := none }

/-- R12: whether a table request is taken in a line state. -/
def TableOpen (g : TableId) (l : LineState) : Prop := l = .closed ∨ l = .parked ∧ (g = .gates ∨ g = .rules)

/-- EB_REL as a command changes it (R91), with its feedback limit (R93). -/
def Sup.withEb (v : Sup) (on : Bool) : Sup :=
  if v.ebRel = on then v else { v with ebRel := on, ebLimit := decide (v.ebFb ≠ on) }

/-- The targets of R60, as car A's berth: the terminus in the direction, or with the halt flag the next berth, by berth number. -/
def IsTarget (d : Dir) (halt : Bool) (start target : Berth) : Prop :=
  match d with
  | .up => start.idx < 3 ∧ target.idx = if halt then start.idx + 1 else 3
  | .down => 0 < start.idx ∧ target.idx + 1 = if halt then start.idx else 1

end Sys2Proof.Machine
end

