-- ==== Sys2Proof/Certificates/Slice0/Obligations.lean ====
section
/-! DEFINITION. The statements for the provers, by chapter: the machine, the station links, the table store, the line and its trips, the
supervisor, the tests, the track line, doors and boarding, the rope, the resets, and the laws that every step keeps. -/

section

open Sys2Proof Sys2Proof.Machine

/-! ### The machine -/

/-- A step is the front command run on the state with the queue's rest; on an empty queue a microsecond passes and nothing else happens.
The second half is the model's choice (log entry 1). -/
def Obligations.StepTakesTheFrontCommand : Prop :=
  (∀ (c : Instr) (s : State), step { s with pending := c :: s.pending } = exec c s) ∧
    ∀ s : State, s.pending = [] → step s = .next { s with now := s.now + 1 }

/-- Every command goes on in every state. It leaves the queue as it is, time does not go back, and only COUNT_STEP carries a time
(the model's choice, log entries 1 and 4). -/
def Obligations.EveryCommandGoesOn : Prop :=
  ∀ (c : Instr) (s : State), ∃ t, exec c s = .next t ∧ t.pending = s.pending ∧ s.now ≤ t.now ∧
    ((∀ ch line at_, c ≠ .countStep ch line at_) → t.now = s.now)

/-- What the sequences may do after an event (`settle`): nothing where the line stands still. Nowhere do they change a table, a car link, a
measured figure but certainty, a count, a leaf record, the trip number, mode, origin, weather, setpoint frame, cause list, envelope, caps,
obligations, anchors or test targets; the trip record keeps its number, kind, start and halt, the setpoints stay or become 0, a rail brake
order stays or a TEST order ends, and a notice flag stays or is set. What they may change is named field by field: the line state and its
sequences, whether distances are computed, the learned offsets, the outputs with their limits and watches, the test in hand with its stage, creep start, limits and record,
alignments, grants, close orders and marks, boarding states, certainty and notice flags.
The order in which the steps due are taken is the model's choice (log entry 18). -/
def Obligations.SettlingIsFramed : Prop :=
  ∀ (b s : State),
    let t := settle b s
    (s.trip.line.still = true → t = s) ∧
    t.tables = s.tables ∧ t.track = s.track ∧ t.now = s.now ∧ t.pending = s.pending ∧
    t.rope = { s.rope with certainty := t.rope.certainty } ∧
    t.trip = { s.trip with
      line := t.trip.line, record := t.trip.record, stage := t.trip.stage, dispatchLimit := t.trip.dispatchLimit, stop := t.trip.stop
      holdCause := t.trip.holdCause, slot := t.trip.slot, offsets := t.trip.offsets, forming := t.trip.forming, held := t.trip.held
      stepping := t.trip.stepping, distances := t.trip.distances, resumeRelease := t.trip.resumeRelease, moveRelease := t.trip.moveRelease
      parkedBerth := t.trip.parkedBerth, consentLower := t.trip.consentLower, consentUpper := t.trip.consentUpper } ∧
    (t.trip.record.map fun r => (r.number, r.kind, r.start, r.halt)) = (s.trip.record.map fun r => (r.number, r.kind, r.start, r.halt)) ∧
    ((t.trip.held, t.trip.forming) = (s.trip.held, s.trip.forming) ∨ (t.trip.held, t.trip.forming) = (0, 0)) ∧
    (t.trip.distances = s.trip.distances ∨ t.trip.distances = false) ∧
    t.sup = { s.sup with
      ebRel := t.sup.ebRel, sbRel := t.sup.sbRel, drvEn := t.sup.drvEn, ebLimit := t.sup.ebLimit, sbLimit := t.sup.sbLimit
      rollaway := t.sup.rollaway, dirWatch := t.sup.dirWatch, railOrder := t.sup.railOrder, orderClears := t.sup.orderClears } ∧
    (∀ x, t.sup.railOrder.get x = s.sup.railOrder.get x ∨ s.sup.railOrder.get x = .test ∧ t.sup.railOrder.get x = .none) ∧
    t.sched = { s.sched with
      test := t.sched.test, creepStart := t.sched.creepStart, windowLimit := t.sched.windowLimit, creepLimit := t.sched.creepLimit
      brakeLimit := t.sched.brakeLimit, lastTest := t.sched.lastTest } ∧
    t.board.cars = s.board.cars ∧
    (∀ k, t.board.berths.get k = { s.board.berths.get k with state := (t.board.berths.get k).state }) ∧
    (∀ x, (t.doors.get x).leaves = (s.doors.get x).leaves) ∧
    (∀ p, t.links.get p = { s.links.get p with flags := (t.links.get p).flags } ∧
      (s.links.get p).flags &&& (t.links.get p).flags = (s.links.get p).flags)

/-! ### Station links (chapter 10) -/

/-- From R208 with R209: a request reaching a port whose executing slot is empty is executed at its event. A port that may not send it is answered
NOT_PERMITTED and nothing else changes; otherwise the owner judges it, a refusal with no further step, a success followed by the steps
that the event makes due. With the executing slot occupied a request enters the empty waiting slot and nothing else changes; with both
occupied it is dropped as an OVERRUN. At the end of an answer the executing slot empties, and a waiting request is then executed as it would
be on arrival; a waiting frame of a kind that names no request is answered NOT_PERMITTED, with answer kind 0xFF from kind 0x80 on (R209).
That a request command is the arrival of its frame, what follows a refusal, and that an answer stands until ANSWER_SENT, are the model's
reading (log entries 7, 24 and 8). -/
def Obligations.RequestsPassThroughTheSlots : Prop :=
  (∀ (r : Request) (p : Port) (body : List Byte) (s : State),
      (s.portFree p → r.permitted p = false → exec (r.command p body) s = .next (s.answering p r body .notPermitted .none)) ∧
      (s.portFree p → r.permitted p = true →
        ∀ (t : State) (c : Result) (d : ReplyData), r.serve p body s = (t, ⟨c, d⟩) →
          exec (r.command p body) s =
            .next ((if c.refuses = true ∨ r.inert = true then t else settle s t).answering p r body c d)) ∧
      (∀ f, (s.links.get p).executing = some f →
        ((s.links.get p).waiting = none →
          exec (r.command p body) s = .next (s.setPort p { s.links.get p with waiting := some ⟨r.code, body⟩ })) ∧
        (∀ g, (s.links.get p).waiting = some g → exec (r.command p body) s = .next (linkError p .overrun s)))) ∧
  ∀ (p : Port) (s : State) (t : State), t = s.setPort p { s.links.get p with executing := none, answer := none, waiting := none } →
      (s.portFree p → exec (.answerSent p) s = .next s) ∧
      (∀ f, (s.links.get p).executing = some f →
        ((s.links.get p).waiting = none → exec (.answerSent p) s = .next t) ∧
        (∀ (r : Request) (body : List Byte), (s.links.get p).waiting = some ⟨r.code, body⟩ →
          exec (.answerSent p) s = exec (r.command p body) t) ∧
        (∀ g, (s.links.get p).waiting = some g → (∀ r : Request, r.code ≠ g.kind) →
          exec (.answerSent p) s = .next (t.setPort p { t.links.get p with
            executing := some g
            answer := some ⟨if g.kind.toNat < 128 then g.kind + 0x80 else 0xFF, ⟨.notPermitted, .none⟩⟩ })))

/-- From R203, R205, R206 and R208 together: the characters of a request's frame, each with its start edge, received one after another by a
receiver in HUNT, do exactly what the request's command does.
That a request command is the arrival of its frame is the model's choice (log entry 7). -/
def Obligations.FrameCharactersMakeTheCommand : Prop :=
  ∀ (r : Request) (p : Port) (body : List Byte) (s : State), body.length ≤ 48 → (s.links.get p).rx = .hunt →
    runCommands ((frameBytes r.code body).flatMap fun b => [.startEdge p, .stationCharacterReceived p (charSamples b)]) s =
      exec (r.command p body)
        (s.setPort p { s.links.get p with kind := 0, len := 0, body := [], gap := false, waitHigh := false })

/-- From R203, R206 and R207: how the receiver takes what is not a good character of a frame. A start bit that votes 1 is noise (that a stopped
gap limit then runs on is the model's choice, log entry 12); a damaged character, the gap limit's expiry, a length of 49 to 255 and a check
character that differs return the receiver to HUNT with no frame and are counted as link errors under their own names: the counter stops at
255, and an ARMED report raises LINK_ERRORS on all three ports and becomes SPENT. After a FRAMING error nothing is taken until a start edge
shows that the line was high; a start edge stops the gap limit. That a start edge ends the wait is deduced (log entry 13). -/
def Obligations.DamagedFrameIsDiscarded : Prop :=
  ∀ (p : Port) (l : List (BitVec 3)) (s : State), l.length = 11 →
    let q := s.links.get p
    let bits := l.map vote
    let hunting : PortState := { q with rx := .hunt, kind := 0, len := 0, body := [], gap := false }
    let counted := fun (v : PortState) => match q.report with
      | .armed => raiseAll .linkErrors (s.setPort p { v with report := .spent })
      | .spent => s.setPort p v
    let read := fun (c : List (BitVec 3)) => exec (.stationCharacterReceived p c) s
    let checked := counted { hunting with check := min 255 (q.check + 1) }
    (q.waitHigh = true → read l = .next s) ∧
    (q.waitHigh = false →
      (bits.getD 0 true = true → read l = .next (s.setPort p { q with gap := decide (q.rx ≠ .hunt) })) ∧
      (bits.getD 0 true = false → bits.getD 10 true = false →
        read l = .next (counted { hunting with waitHigh := true, framing := min 255 (q.framing + 1) })) ∧
      (bits.getD 0 true = false → bits.getD 10 true = true → (((bits.drop 1).take 9).filter id).length % 2 = 1 →
        read l = .next (counted { hunting with parity := min 255 (q.parity + 1) })) ∧
      (∀ b : Byte, q.rx = .length → 49 ≤ b.toNat → read (charSamples b) = .next checked) ∧
      (∀ b : Byte, q.rx = .check → b ≠ crc8 (q.kind :: byteOf q.len :: q.body) → read (charSamples b) = .next checked)) ∧
    (q.gap = true → exec (.gapLimitExpiry p) s = .next (counted { hunting with gaps := min 255 (q.gaps + 1) })) ∧
    (q.gap = false → exec (.gapLimitExpiry p) s = .next s) ∧
    exec (.startEdge p) s = .next (s.setPort p { q with gap := false, waitHigh := false })

/-- R214: NOTICE CLEAR, from any port in every line state, clears the sending port's flags that its set names and no other flag, and answers DONE with
the flags that stand then. A body of another length than three, or a set that names a code above 19, is refused BAD_ARGUMENT. -/
def Obligations.NoticesAreCleared : Prop :=
  ∀ (p : Port) (s : State), s.portFree p →
    (∀ x y z : Byte,
      let n : NoticeSet := BitVec.ofNat 20 (x.toNat + 256 * y.toNat + 65536 * z.toNat)
      let q := s.links.get p
      (z.toNat < 16 → exec (.noticeClear p [x, y, z]) s = .next ((s.setPort p { q with flags := q.flags &&& ~~~n }).answering p
        .noticeClear [x, y, z] .done (.notices (q.flags &&& ~~~n)))) ∧
      (16 ≤ z.toNat → exec (.noticeClear p [x, y, z]) s = .next (s.answering p .noticeClear [x, y, z] .badArgument .none))) ∧
    ∀ body : List Byte, body.length ≠ 3 → exec (.noticeClear p body) s = .next (s.answering p .noticeClear body .badArgument .none)

/-- R215: NOTICE ENABLE, from any port in every line state, replaces the sending port's notice enables and summary enables whole and no flag, and
answers DONE with them; a body of another length than four, a set that names a code above 19 and a summary byte above 3 are refused
BAD_ARGUMENT. A port's attention line is asserted exactly while some notice has its flag set, its enable on and its class's summary on. -/
def Obligations.EnablesFormTheAttentionLine : Prop :=
  (∀ (p : Port) (s : State), s.portFree p →
    (∀ x y z w : Byte,
      let n : NoticeSet := BitVec.ofNat 20 (x.toNat + 256 * y.toNat + 65536 * z.toNat)
      let body := [x, y, z, w]
      (z.toNat < 16 → w.toNat ≤ 3 → exec (.noticeEnable p body) s = .next ((s.setPort p { s.links.get p with
        enables := n, normal := w.getLsbD 0, abnormal := w.getLsbD 1 }).answering p .noticeEnable body
          .done (.enables n (w.getLsbD 0) (w.getLsbD 1)))) ∧
      (16 ≤ z.toNat ∨ 3 < w.toNat → exec (.noticeEnable p body) s = .next (s.answering p .noticeEnable body .badArgument .none))) ∧
    ∀ body : List Byte, body.length ≠ 4 →
      exec (.noticeEnable p body) s = .next (s.answering p .noticeEnable body .badArgument .none)) ∧
  ∀ q : PortState, q.attention = true ↔
    ∃ n : Notice, q.flags.getLsbD n.code = true ∧ q.enables.getLsbD n.code = true ∧
      (if n.code ≤ 8 then q.normal else q.abnormal) = true

/-- From R216 with R157, R176 and R200: STATUS READ of a section 0 to 7 answers DONE with the section's number, the sending port's notice flags and the
section's figures as they stand, and changes nothing; any other body is refused. Every section's figures are named: the line record, the
motion, the causes, the doors, the platforms, the obligations and the port's notices. The answer's body opens with DONE, the section number
and the flags as a notice set of three bytes, holds the twelve leaf records in status block order with UNREPORTED as code 7 in sections 3
and 4, and fits a frame while the lists keep their lengths.
The order and widths of the other figures in the body are the model's choice (log entry 9). -/
def Obligations.StatusReadTellsTheSection : Prop :=
  ∀ (p : Port) (s : State), s.portFree p →
    let q := s.links.get p
    let figures : Berth → BerthFigures := fun b =>
      let v := s.board.berths.get b
      ⟨v.state, v.pen, v.alighting, (v.pending.map fun r => r.group).sum, v.pending.length, s.quota b⟩
    let doors : Car → DoorsSection := fun x =>
      let c := s.doors.get x
      let side := fun d => (List.range 6).filter fun k => (s.present x d).getLsbD k && (c.leaves.get d).toList.getD k .absent != .locked
      { alignment := c.alignment, stale := s.stale x, secure := s.secure x, notLocked := (side .left).length + (side .right).length
        grants := c.grants, close := c.close, marks := c.marks, leaves := c.leaves, reported := (s.track.cars.get x).reported }
    let section_ : Nat → SectionData := fun n => match n with
      | 0 => .line {
          line := s.trip.line, mode := s.trip.mode, parkedBerth := s.trip.parkedBerth, number := s.trip.number, record := s.trip.record
          stage := s.trip.stage, stop := s.trip.stop, holdCause := s.trip.holdCause, slot := s.trip.slot
          consentLower := s.trip.consentLower, consentUpper := s.trip.consentUpper
          temp := s.trip.weather.temp, wind := s.trip.weather.wind, stale := s.trip.weather.stale }
      | 1 => .motion {
          certainty := s.rope.certainty, coord := s.coord, position := ⟨s.pos .a, s.pos .b⟩, vSup := s.vSup, ropeDir := s.rope.dir
          flag := s.rope.flag, sRef := s.rope.sRef, envelope := s.sup.envelope, windCap := s.sup.windCap, certCap := s.sup.certCap
          ebRel := s.sup.ebRel, sbRel := s.sup.sbRel, drvEn := s.sup.drvEn, ebFb := s.sup.ebFb, sbFb := s.sup.sbFb
          railOrder := s.sup.railOrder, lastService := s.sup.lastService }
      | 2 => .causes ⟨s.sup.causes, s.sup.overflow, s.sup.lastTrip⟩
      | 3 => .doors (doors .a)
      | 4 => .doors (doors .b)
      | 5 => .platforms {
          link := ⟨s.track.cars.a.link, s.track.cars.b.link⟩, jammed := decide (s.track.phase = .jammed), cars := s.board.cars
          berths := ⟨figures .b0, figures .b1, figures .b2, figures .b3⟩ }
      | 6 => .obligations ⟨s.sched.obligations, s.sched.test, s.sched.lastTest⟩
      | _ => .notices ⟨q.enables, q.normal, q.abnormal, q.attention, q.report⟩
    (∀ x : Byte, x.toNat ≤ 7 →
      let reply : Reply := ⟨.done, .snapshot x.toNat q.flags (section_ x.toNat)⟩
      exec (.statusRead p [x]) s = .next (s.answering p .statusRead [x] reply.code reply.data) ∧
      reply.data.bytes = x :: BitVec.ofNat 8 q.flags.toNat :: BitVec.ofNat 8 (q.flags.toNat / 256) ::
        BitVec.ofNat 8 (q.flags.toNat / 65536) :: (section_ x.toNat).bytes ∧
      (s.sup.causes.length ≤ 4 → (∀ r, s.sup.lastTrip = some r → r.causes.length ≤ 5) → reply.data.bytes.length + 1 ≤ 48)) ∧
    (∀ x : Car, ∃ before after : List Byte, (SectionData.doors (doors x)).bytes =
      before ++ ((List.range 6).flatMap fun k =>
        [(((s.doors.get x).leaves.left.toList.getD k .absent).code), (((s.doors.get x).leaves.right.toList.getD k .absent).code)]) ++ after) ∧
    LeafRecord.unreported.code = 7 ∧
    (∀ body : List Byte, (∀ x : Byte, x.toNat ≤ 7 → body ≠ [x]) →
      exec (.statusRead p body) s = .next (s.answering p .statusRead body .badArgument .none))

/-- From R217 with R207: COUNTS READ answers the counters in the port's scope, sets each of them to 0 and arms the error report of each port whose five
link error counters it returns; every other counter stands.
The answer's body opens with DONE and holds them in the order of R217: 42 bytes to the drive port, 12 to a station port.
How the two overflow flags share their byte is the model's choice (log entry 10). -/
def Obligations.CountsReadZeroesItsScope : Prop :=
  (∀ (p : Port) (s : State),
    let errors := fun (q : Port) => let v := s.links.get q; [v.parity, v.framing, v.gaps, v.check, v.overrun].map (BitVec.ofNat 8)
    let boarding := fun (b : Berth) => let v := s.board.berths.get b; [v.quotaRefused, v.late, v.excess].map (BitVec.ofNat 8)
    let two := fun (n : Nat) => [BitVec.ofNat 8 (n / 256), BitVec.ofNat 8 n]
    let car := fun (x : Car) => s.track.cars.get x
    let flags : Byte := (if (car .a).missedOverflow then 1 else 0) ||| (if (car .b).missedOverflow then 2 else 0)
    let drive := errors .d ++ errors .ls ++ errors .us ++
      two s.rope.spurious ++ [BitVec.ofNat 8 s.rope.chans.ch1.errors, BitVec.ofNat 8 s.rope.chans.ch2.errors] ++
      [BitVec.ofNat 8 s.sup.serviceCount, BitVec.ofNat 8 s.sup.tripCount] ++
      two (car .a).missed ++ two (car .b).missed ++ [flags] ++
      [BitVec.ofNat 8 (car .a).calls, BitVec.ofNat 8 (car .b).calls, BitVec.ofNat 8 s.track.jams] ++
      boarding .b0 ++ boarding .b1 ++ boarding .b2 ++ boarding .b3
    let station := errors p ++ if p = .us then boarding .b2 ++ boarding .b3 else boarding .b0 ++ boarding .b1
    s.driveCounts = drive ∧ (Result.done.code :: (ReplyData.counts s.driveCounts).bytes) = 0 :: drive ∧ (0 :: drive).length = 42 ∧
      s.stationCounts p = station ∧ (Result.done.code :: (ReplyData.counts (s.stationCounts p)).bytes) = 0 :: station ∧
      (0 :: station).length = 12) ∧
  (∀ s : State, s.portFree .d → ∃ t : State, exec (.countsRead .d []) s = .next (t.answering .d .countsRead [] .done (.counts s.driveCounts)) ∧
    t = { s with
      links := s.links.map fun q => { q with parity := 0, framing := 0, gaps := 0, check := 0, overrun := 0, report := .armed }
      rope := { s.rope with
        spurious := 0, chans := ⟨{ s.rope.chans.ch1 with errors := 0 }, { s.rope.chans.ch2 with errors := 0 }⟩ }
      sup := { s.sup with serviceCount := 0, tripCount := 0 }
      track := { s.track with
        jams := 0, cars := s.track.cars.map fun c => { c with missed := 0, missedOverflow := false, calls := 0 } }
      board := { s.board with berths := s.board.berths.map fun v => { v with quotaRefused := 0, late := 0, excess := 0 } } }) ∧
  (∀ (p : Port) (s : State), p ≠ .d → s.portFree p →
    ∃ t : State, exec (.countsRead p []) s = .next (t.answering p .countsRead [] .done (.counts (s.stationCounts p))) ∧
      t.links = s.links.set p { s.links.get p with parity := 0, framing := 0, gaps := 0, check := 0, overrun := 0, report := .armed } ∧
      (∀ b, t.board.berths.get b =
        if b.station = p then { s.board.berths.get b with quotaRefused := 0, late := 0, excess := 0 } else s.board.berths.get b) ∧
      t.board.cars = s.board.cars ∧ { t with links := s.links, board := s.board } = s) ∧
  (∀ (p : Port) (x : Byte) (l : List Byte) (s : State), s.portFree p →
    exec (.countsRead p (x :: l)) s = .next (s.answering p .countsRead (x :: l) .badArgument .none))

/-! ### The table store (chapter 01) -/

/-- From R9, R10 and R17. In the line states where R12 takes them: TABLE BEGIN stages the named table with every entry absent, TABLE ENTRIES writes whole
entries from its first index on and raises the staged count; nothing else changes. TABLE READ answers DONE with the entries of the active
table from the first index on, as many as were asked, exist and fit in one answer frame, or TABLES_INVALID where the table holds no
committed mark, and changes nothing.
The 44 bytes that fit are deduced (log entry 11). -/
def Obligations.TablesAreStagedAndRead : Prop :=
  (∀ (x : Byte) (g : TableId) (s : State), s.portFree .d → TableId.ofCode x.toNat = some g → TableOpen g s.trip.line →
    exec (.tableBegin .d [x]) s =
      .next ((s.setTables { s.tables with staging := some ⟨g, List.replicate g.maxEntries none, 0⟩ }).answering .d .tableBegin [x]
        .done .none)) ∧
  (∀ (x : Byte) (l : List (List Byte)) (g : Staging) (s : State), s.portFree .d → s.tables.staging = some g →
    TableOpen g.table s.trip.line → l ≠ [] → (∀ e ∈ l, e.length = g.table.entrySize) → x.toNat + l.length ≤ g.table.maxEntries →
    g.entries.length = g.table.maxEntries →
    ∃ h : Staging, exec (.tableEntries .d (x :: l.flatten)) s =
        .next ((s.setTables { s.tables with staging := some h }).answering .d .tableEntries (x :: l.flatten) .done .none) ∧
      h.table = g.table ∧ h.count = max g.count (x.toNat + l.length) ∧ h.entries.length = g.entries.length ∧
      ∀ i, i < g.entries.length → h.entries[i]? =
        if x.toNat ≤ i ∧ i < x.toNat + l.length then some l[i - x.toNat]? else g.entries[i]?) ∧
  ∀ (p : Port) (x first n : Byte) (g : TableId) (s : State), s.portFree p → TableId.ofCode x.toNat = some g →
      (∀ l, s.tables.entryBytes g = some l → ∃ m, m ≤ n.toNat ∧ m ≤ l.length - first.toNat ∧
        (m = n.toNat ∨ m = l.length - first.toNat ∨ 44 < (m + 1) * g.entrySize) ∧ m * g.entrySize ≤ 44 ∧
        exec (.tableRead p [x, first, n]) s =
          .next (s.answering p .tableRead [x, first, n] .done (.entries g first.toNat ((l.drop first.toNat).take m)))) ∧
      (s.tables.entryBytes g = none →
        exec (.tableRead p [x, first, n]) s = .next (s.answering p .tableRead [x, first, n] .tablesInvalid .none))

/-- From R11, R13 to R16, R37, R102 and R146: a commit whose entries fail answers BAD_TABLE and leaves every table and the staged entries as they were. One
whose entries pass replaces its table, empties the staging area and answers DONE; a LINE commit re-checks its dependents, and one that
changes LINE_LEN or SCALE leaves certainty UNKNOWN; a BERTHS commit sets every learned stop offset to 0; a CARS commit leaves no link in
COMPLETE, CONFIRM or CHECK that stood there before. The answer to a LINE commit carries the dependents that it withdrew; with the standstill
flag set s_ref and the anchor of an ARMED rollaway watch are taken again; a commit that makes the tables valid compares each link in ABILITY
with its expected record, and no other link changes.
That a link already in LISTEN at a CARS commit loses its baselines is the model's choice (log entry 67). -/
def Obligations.CommitTakesOrKeepsTheTable : Prop :=
  ∀ (g : Staging) (s : State), s.portFree .d → s.tables.staging = some g → TableOpen g.table s.trip.line →
    (∀ f, g.validate s.tables.header = .error f →
      exec (.tableCommit .d [g.table.code]) s =
        .next (s.answering .d .tableCommit [g.table.code] .badTable (.tableFault g.table f.1 f.2))) ∧
    (∀ v, g.validate s.tables.header = .ok v → ∃ (t : State) (d : ReplyData),
      exec (.tableCommit .d [g.table.code]) s = .next t ∧
      (t.links.get .d).answer = some ⟨0x92, ⟨.done, d⟩⟩ ∧
      t.tables = v.into s.tables ∧ t.tables.staging = none ∧
      t.board.cars = s.board.cars ∧ t.now = s.now ∧ t.trip.weather = s.trip.weather ∧ t.trip.number = s.trip.number ∧
      (∀ h, v = .line h → lineChanged s.tables.header h = true → t.rope.certainty = .unknown) ∧
      (∀ e, v = .berths e → ∀ x b, ((t.trip.offsets.get x).get b) = ⟨0, 0⟩) ∧
      (∀ e, v = .cars e → ∀ x, (s.track.cars.get x).link ≠ .down →
        (t.track.cars.get x).link = .listen ∧ (t.track.cars.get x).baselines = none) ∧
      d = (match v with
        | .line _ => .withdrawn (s.tables.sections.isSome && t.tables.sections.isNone) (s.tables.berths.isSome && t.tables.berths.isNone)
            (s.tables.markers.isSome && t.tables.markers.isNone)
        | _ => .none) ∧
      (∀ h, v = .line h → s.rope.flag = true →
        t.rope.sRef = t.coord ∧ ∀ a, s.sup.rollaway = some a → t.sup.rollaway = some t.coord) ∧
      (∀ h, v = .line h → s.rope.flag = false → t.rope.sRef = s.rope.sRef) ∧
      ((∀ e, v ≠ .cars e) → s.tables.valid = false → t.tables.valid = true → ∀ x r, (s.track.cars.get x).link = .ability →
        (s.track.cars.get x).reported = some r →
          (t.track.cars.get x).link = if t.tables.expected x = some r then .confirm else .mismatch) ∧
      ((∀ e, v ≠ .cars e) → ∀ x, (s.track.cars.get x).link ≠ .ability ∨ s.tables.valid = true ∨ t.tables.valid = false →
        t.track.cars.get x = s.track.cars.get x))

/-- From R1 to R8: an accepted SECTIONS table has every limit in 300..14000 and puts every point of the line below LINE_LEN in exactly one section, the point
LINE_LEN in the last one alone. The current limit of a position is that of the section that contains it, below 0 the first's and from LINE_LEN on
the last's (R94). A staged LINE passes only with every field in its range, a staged 0 replaced by its default and a_dec clamped; a
BERTHS, MARKERS, CARS, GATES or RULES table passes its own checks exactly where every entry has its fields in range, the zones hold their
positions and rise without overlap, the mirrors hold, the marker inputs rise, the records have their digests with two identities, and each
gate names a berth of its station. -/
def Obligations.AcceptedTablesMeetTheirRules : Prop :=
  (∀ (h : Header) (l : List SectionEntry), l ≠ [] → judgeSections h l = none →
    (∀ e ∈ l, 300 ≤ e.limit ∧ e.limit ≤ 14000 ∧ e.stop ≤ h.lineLen) ∧
    (∀ x < h.lineLen, ∃ e ∈ l, (e.start ≤ x ∧ x < e.stop) ∧ ∀ e' ∈ l, e'.start ≤ x ∧ x < e'.stop → e' = e) ∧
    (∃ e, l.getLast? = some e ∧ e.stop = h.lineLen ∧ e.start < h.lineLen ∧ (∀ e' ∈ l, e'.start ≤ h.lineLen ∧ h.lineLen < e'.stop → False) ∧
      ∀ x : Int, h.lineLen ≤ x → currentLimit l x = some e.limit) ∧
    (∀ e ∈ l, ∀ x : Int, e.start ≤ x → x < e.stop → currentLimit l x = some e.limit) ∧
    (∀ x < (0 : Int), currentLimit l x = l.head?.map fun e => e.limit)) ∧
  (∀ (l : List (List Byte)) (h : Header), validateOwn none .line l = .ok (.line h) →
    let staged := fun i => beNat (l.getD i [])
    let field := fun (i default lo hi value : Nat) => value = (if staged i = 0 then default else staged i) ∧ lo ≤ value ∧ value ≤ hi
    let v := h.vLine
    field 0 0 100000 4000000 h.lineLen ∧ field 1 0 1000 14000 v ∧ field 2 0 200 1500 h.aAcc ∧
    (200 ≤ staged 3 ∧ staged 3 ≤ 1500 ∧ h.aDec = min (staged 3) (h.aSb * 7 / 8)) ∧ field 4 0 300 2000 h.aSb ∧ field 5 0 100 1000 h.vCr ∧
    field 6 0 500 5000 h.dM ∧ field 7 0 1000 10000 h.creepRun ∧ field 8 0 500 20000 h.scale ∧ field 9 (v / 2) 300 v h.reducedCap ∧
    field 10 1000 300 (min 2000 v) h.inspectionCap ∧ field 11 (min 3000 v) 300 v h.uncertainCap ∧ field 12 (min 9000 v) 300 v h.windCap1 ∧
    field 13 (min 6000 v) 300 v h.windCap2 ∧ field 14 (min 3000 v) 300 v h.windCap3 ∧ field 15 480 30 1440 h.ebInterval ∧
    field 16 1440 30 1440 h.railAInterval ∧ field 17 1440 30 1440 h.railBInterval ∧
    (h.coldLimit = signed 32 (staged 18) ∧ -20 ≤ h.coldLimit ∧ h.coldLimit ≤ 20) ∧ field 19 8 2 30 h.passageWindow ∧
    field 20 0 0 20 h.alightAllow) ∧
  (∀ (h : Header) (t : PerBerth BerthEntry), judgeBerths h t = none ↔
    (∀ b, let e := t.get b
      e.position ≤ h.lineLen ∧ -1000 ≤ e.zoneLo ∧ e.zoneLo ≤ e.position ∧ e.position ≤ e.zoneHi ∧ e.zoneHi ≤ h.lineLen + 1000 ∧
        e.sides.toNat ≤ 3 ∧ 1 ≤ e.first ∧ e.first ≤ e.last ∧ e.last ≤ 6 ∧ e.autoRelease ≤ 1 ∧ (e.autoRelease = 1 → e.sides ≠ 0)) ∧
    (∀ b c, c.idx = b.idx + 1 → (t.get b).zoneHi < (t.get c).zoneLo ∧ (t.get b).position < (t.get c).position) ∧
    |((t.b1.position : Int) + t.b2.position) - h.lineLen| ≤ 500 ∧ |((t.b0.position : Int) + t.b3.position) - h.lineLen| ≤ 500) ∧
  (∀ (h : Header) (l : List MarkerEntry), judgeMarkers h l = none ↔
    (∀ e ∈ l, 4 ≤ e.input ∧ e.input ≤ 7 ∧ e.position ≤ h.lineLen ∧ 1 ≤ e.car ∧ e.car ≤ 3 ∧ 100 ≤ e.window ∧ e.window ≤ 3000) ∧
    l.Pairwise fun e f => e.input < f.input) ∧
  (∀ c : PerCar Ability, firstFault judgeCar 0 none [c.a, c.b] = none ↔
    (∀ x, let r := c.get x
      1 ≤ r.identity ∧ 1 ≤ r.count ∧ r.count ≤ 6 ∧ r.left.toNat < 64 ∧ r.right.toNat < 64 ∧ r.railKind.toNat ≤ 1 ∧
        r.digest.toNat = ((r.bytes.take (r.bytes.length - 1)).map BitVec.toNat).sum % 256 ∧
        ∀ k < 6, let n := (r.capacities.toList.getD k 0).toNat
          let leaf := r.left.getLsbD k = true ∨ r.right.getLsbD k = true
          if k < r.count then 1 ≤ n ∧ n ≤ 40 ∧ leaf else n = 0 ∧ ¬leaf) ∧
    c.a.identity ≠ c.b.identity) ∧
  (∀ l : List GateEntry, firstFault judgeGate 0 none l = none ↔
    ∀ i e, l[i]? = some e → e.kind ≤ 2 ∧ (e.kind ≠ 0 → if i < 8 then e.berth ≤ 1 else e.berth = 2 ∨ e.berth = 3)) ∧
  (∀ l : List RuleEntry, firstFault judgeRule 0 none l = none ↔
    ∀ e ∈ l, (e.action = 1 ∨ e.action = 2) ∧ 1 ≤ e.limit ∧ e.limit ≤ 8)

/-! ### The line (chapter 03) -/

/-- From R44: the requests that move the line, in the line states where they are refused, are answered with the code of the table and have no
effect.
HOLD in RECOVERY-MOVING follows R87's reading (log entry 44). -/
def Obligations.LineStateJudgesTheRequests : Prop :=
  ∀ (p : Port) (body : List Byte) (s : State), s.portFree p →
    let l := s.trip.line
    let refused := fun (r : Request) (c : Result) =>
      r.permitted p = true → exec (r.command p body) s = .next (s.answering p r body c .none)
    (l ≠ .closed → refused .openLine .wrongState) ∧
    (l ≠ .parked → l ≠ .recovery false → refused .closeLine .wrongState) ∧
    (l ≠ .closed → l ≠ .parked → refused .modeSet .wrongState) ∧
    (l ≠ .held → refused .resume .notHeld) ∧
    (l ≠ .tripped → refused .tripReset .wrongState) ∧
    ((∀ k, l ≠ .testing k) → l ≠ .parked → refused .run .wrongState ∧ refused .brakeTest .wrongState ∧ refused .railTest .wrongState) ∧
    (l = .parked → s.trip.mode ≠ .inspection → refused .railTest .wrongState) ∧
    (l = .closed ∨ l = .parked ∨ l = .tripped ∨ l = .recovery false → refused .hold .wrongState) ∧
    (l = .held ∨ l = .running .holding ∨ l = .recovery true ∧ (s.trip.stop = .hold ∨ s.trip.stop = .service) →
      refused .hold .alreadyHeld) ∧
    (l = .closed ∨ l = .dispatch ∨ (∃ ph, l = .running ph) ∨ l = .tripped ∨ l = .recovery true ∨ l = .parked ∧ s.misaligned = false →
      refused .recoveryMove .wrongState) ∧
    (∀ k, l = .testing k → refused .run .busy ∧ refused .hold .busy ∧ refused .recoveryMove .busy ∧ refused .brakeTest .busy ∧
      refused .railTest .busy)

/-- From R16, R47, R48 and R51 with R46, R54, R91 and R164: OPEN LINE with valid tables and both links COMPLETE enters PARKED where the line is berthed
aligned with certainty not UNKNOWN, and RECOVERY-IDLE otherwise, and energises EB_REL; CLOSE LINE with every berth CLOSED or SEALED and no
grant enters CLOSED and de-energises it. In the line states where each is legal, a body that is not empty is refused BAD_ARGUMENT; OPEN LINE is refused
TABLES_INVALID while one of the six tables of R16 holds no committed mark, and INTERLOCK while a car link is not COMPLETE; CLOSE LINE is refused
INTERLOCK while a berth is neither CLOSED nor SEALED or a grant is active. -/
def Obligations.LineOpensAndCloses : Prop :=
  (∀ s : State, s.portFree .d → s.trip.line = .closed → s.tables.valid = true → (∀ x, (s.track.cars.get x).link = .complete) →
    (∀ b, s.rope.certainty ≠ .unknown → s.berthedPair = some b →
      exec (.openLine .d []) s = .next ((raiseAll .lineState { s with
        trip := { s.trip with line := .parked, parkedBerth := some b, consentLower := false, consentUpper := false }
        sup := s.sup.withEb true
        doors := ⟨{ s.doors.a with alignment := .aligned }, { s.doors.b with alignment := .aligned }⟩ }).answering
          .d .openLine [] .done (.line .parked))) ∧
    (s.rope.certainty = .unknown ∨ s.berthedPair = none →
      exec (.openLine .d []) s = .next ((raiseAll .lineState { s with
        trip := { s.trip with line := .recovery false, parkedBerth := none }
        sup := s.sup.withEb true
        doors := ⟨{ s.doors.a with alignment := .none }, { s.doors.b with alignment := .none }⟩ }).answering
          .d .openLine [] .done (.line (.recovery false))))) ∧
  (∀ s : State, s.portFree .d →
    let t := s.tables
    let refused := fun (r : Request) (body : List Byte) (c : Result) =>
      exec (r.command .d body) s = .next (s.answering .d r body c .none)
    (t.valid = true ↔ t.header.isSome ∧ t.sections.isSome ∧ t.berths.isSome ∧ t.markers.isSome ∧ t.cars.isSome ∧ t.gates.isSome) ∧
    (s.trip.line = .closed →
      (∀ body, body ≠ [] → refused .openLine body .badArgument) ∧
      (t.valid = false → refused .openLine [] .tablesInvalid) ∧
      (t.valid = true → (∃ x, (s.track.cars.get x).link ≠ .complete) → refused .openLine [] .interlock)) ∧
    (s.trip.line = .parked ∨ s.trip.line = .recovery false →
      (∀ body, body ≠ [] → refused .closeLine body .badArgument) ∧
      ((∃ b, ¬BoardingShut s b) ∨ (∃ x d, (s.doors.get x).grants.get d ≠ none) → refused .closeLine [] .interlock))) ∧
  (∀ s : State, s.portFree .d → s.trip.line = .parked ∨ s.trip.line = .recovery false → (∀ b, BoardingShut s b) →
    (∀ x d, (s.doors.get x).grants.get d = none) →
    exec (.closeLine .d []) s = .next ((raiseAll .lineState { s with
      trip := { s.trip with line := .closed, parkedBerth := none, consentLower := false, consentUpper := false }
      sup := s.sup.withEb false
      doors := ⟨{ s.doors.a with alignment := .none }, { s.doors.b with alignment := .none }⟩ }).answering
        .d .closeLine [] .done .none))

/-- From R45, R49, R53, R55 and R56. An accepted MODE SET replaces the mode and raises LINE_STATE; naming the mode held changes nothing; INSPECTION is
entered from PARKED only with empty cars, empty pens and no berth OPEN, ARMED or CLOSING, otherwise WRONG_STATE, and left in CLOSED alone. A
station's consent in PARKED or DISPATCH sets its own flag, a withdraw clears it in every line state, and the steps that a changed flag makes
due in DISPATCH are taken at the same event. WEATHER from the upper station keeps both values clamped, clears the stale flag and starts the
staleness limit, whose expiry sets the flag and raises WEATHER_STALE once; an expiry of a stopped limit does nothing. -/
def Obligations.ModeConsentAndWeatherAreSet : Prop :=
  (∀ (x : Byte) (m : Mode) (s : State), s.portFree .d → Mode.ofCode x.toNat = some m →
      (s.trip.line = .closed ∨ s.trip.line = .parked → m = s.trip.mode →
        exec (.modeSet .d [x]) s = .next (s.answering .d .modeSet [x] .done .none)) ∧
      (m ≠ s.trip.mode →
        (s.trip.line = .closed ∨ s.trip.line = .parked ∧ s.trip.mode ≠ .inspection ∧
          (m = .inspection → s.board.cars.a.onboard = 0 ∧ s.board.cars.b.onboard = 0 ∧
            ∀ b, (s.board.berths.get b).pen = 0 ∧ ((s.board.berths.get b).state = .closed ∨ (s.board.berths.get b).state = .sealed)) →
          exec (.modeSet .d [x]) s = .next ((raiseAll .lineState { s with trip := { s.trip with mode := m } }).answering
            .d .modeSet [x] .done .none)) ∧
        (s.trip.line = .parked → s.trip.mode = .inspection →
          exec (.modeSet .d [x]) s = .next (s.answering .d .modeSet [x] .wrongState .none)) ∧
        (s.trip.line = .parked → m = .inspection →
          (s.board.cars.a.onboard ≠ 0 ∨ s.board.cars.b.onboard ≠ 0 ∨ ∃ b, (s.board.berths.get b).pen ≠ 0 ∨
            (s.board.berths.get b).state = .open ∨ (s.board.berths.get b).state = .armed ∨ (s.board.berths.get b).state = .closing) →
          exec (.modeSet .d [x]) s = .next (s.answering .d .modeSet [x] .wrongState .none)))) ∧
  (∀ (p : Port) (v : Bool) (s : State), p ≠ .d → s.portFree p →
      (v = true → s.trip.line = .parked ∨ s.trip.line = .dispatch) →
      exec (.departConsent p [boolByte v]) s =
        .next ((settle s { s with trip := { s.trip with
          consentLower := if p = .ls then v else s.trip.consentLower
          consentUpper := if p = .us then v else s.trip.consentUpper } }).answering p .departConsent [boolByte v] .done .none)) ∧
  (∀ (x w : Byte) (s : State), s.portFree .us →
    exec (.weather .us [x, w]) s =
      .next (({ s with trip := { s.trip with weather :=
        { temp := some (max (-40) (min 60 x.toInt)), wind := min 3 w.toNat, stale := false, limit := true } } } : State).answering
          .us .weather [x, w] .done (.weather (max (-40) (min 60 x.toInt)) (min 3 w.toNat)))) ∧
  ∀ s : State,
    (s.trip.weather.limit = true →
      exec .stalenessLimitExpiry s =
        .next (raiseAll .weatherStale { s with trip := { s.trip with weather := { s.trip.weather with stale := true, limit := false } } })) ∧
    (s.trip.weather.limit = false → exec .stalenessLimitExpiry s = .next s)

/-! ### Trips (chapter 04) -/

/-- From R60, R61, R169, R170 and R182: an accepted RUN numbers the trip, forms its record, enters DISPATCH in stage WAITING with its limit running, leaves
no grant and no berth of its start OPEN or ARMED, and answers ACCEPTED with the number, the targets and the speed as taken. Refused in PARKED are: with
BAD_ARGUMENT a body of another form and a direction that has no target, UP from B3 and DOWN from B0; then with WEATHER at wind class 3; then
with RESTRICTED outside INSPECTION while some debt is 3 (R60).
That RUN alone never releases a brake is deduced (log entry 23). -/
def Obligations.RunStartsADispatch : Prop :=
  (∀ (d : Dir) (halt : Bool) (v1 v0 : Byte) (start : Berth) (s : State), s.portFree .d → s.trip.line = .parked →
    s.trip.parkedBerth = some start →
    let refused := fun (body : List Byte) (c : Result) => exec (.run .d body) s = .next (s.answering .d .run body c .none)
    let body := [byteOf d.code, boolByte halt, v1, v0]
    let noTarget := d = .up ∧ start = .b3 ∨ d = .down ∧ start = .b0
    (∀ l : List Byte, (∀ x h y z, l = [x, h, y, z] → 1 < x.toNat ∨ 1 < h.toNat) → refused l .badArgument) ∧
    (noTarget → refused body .badArgument) ∧
    (¬noTarget → s.trip.weather.wind = 3 → refused body .weather) ∧
    (¬noTarget → s.trip.weather.wind ≠ 3 → s.trip.mode ≠ .inspection → (∃ k, (s.sched.obligations.get k).debt = 3) →
      refused body .restricted)) ∧
  ∀ (d : Dir) (halt : Bool) (v1 v0 : Byte) (start target : Berth) (s : State), s.portFree .d → s.trip.line = .parked →
    s.trip.parkedBerth = some start → IsTarget d halt start target → s.trip.weather.wind ≠ 3 →
    (s.trip.mode = .inspection ∨ ∀ k, (s.sched.obligations.get k).debt ≠ 3) →
    let body := [byteOf d.code, boolByte halt, v1, v0]
    let v := max 300 (min s.vLine (v1.toNat * 256 + v0.toNat))
    let n := if s.trip.number = 65535 then 0 else s.trip.number + 1
    s.trip.number ≤ 65535 →
    ∃ t : State, exec (.run .d body) s = .next (t.answering .d .run body .accepted (.run n target target.mirror v)) ∧
      t.trip = { s.trip with
        number := n, line := .dispatch, stage := some .waiting, dispatchLimit := true, parkedBerth := none
        record := some ⟨n, .run, d, v, some start, ⟨target, target.mirror⟩, if target = .b1 ∨ target = .b2 then some target else none,
          none⟩ } ∧
      t.anyGrant = false ∧
      (∀ x c, s.present x c ≠ 0 → ((t.doors.get x).close.get c) = true) ∧
      (∀ b, b = start ∨ b = start.mirror → t.board.berths.get b = (s.board.berths.get b).moveOut) ∧
      (∀ b, ((t.board.berths.get b).pen, (t.board.berths.get b).alighting, (t.board.berths.get b).pending) =
        ((s.board.berths.get b).pen, (s.board.berths.get b).alighting, (s.board.berths.get b).pending)) ∧
      (∀ x, (t.doors.get x).leaves = (s.doors.get x).leaves ∧ (t.doors.get x).alignment = (s.doors.get x).alignment) ∧
      t.links = s.links.map (fun q => { q with flags := q.flags ||| Notice.lineState.bit }) ∧
      t.tables = s.tables ∧ t.rope = s.rope ∧ t.sup = s.sup ∧ t.sched = s.sched ∧ t.track = s.track ∧ t.board.cars = s.board.cars

/-- From R46, R54, R63 to R67, R163, R164 and R184. In DISPATCH, stage WAITING passes to RELEASING with SB_REL energised at an event that changes a part of the departure interlock
and finds it holding; in RELEASING a failing interlock returns to WAITING with SB_REL de-energised, and SB reporting released while it holds
starts the trip: RUNNING in phase ACCEL with DRV_EN energised, setpoints 0 and the profile step running. HOLD from any port, and the expiry
of the dispatch limit, return the line to PARKED at the starting berth with the consents cleared, SB_REL de-energised and the record's
ending set, CANCELLED or TIMED_OUT. The interlock holds exactly where both links are COMPLETE, every present leaf is LOCKED in a status block no older
than 200 ms, no grant is active, the starting berth and its mirror are SEALED or CLOSED, both consents are set, the EB feedback reports released,
neither latest block reports an alarm, certainty is not UNKNOWN and no cause is listed; a part of it changes where one of these figures does.
At which events a dispatch completes (log entry 23), and that the start leaves no hold cause (log entry 19), are deduced. -/
def Obligations.DispatchStartsOrEnds : Prop :=
  ∀ (p : Port) (r : TripRecord) (b : Berth) (s : State), s.trip.line = .dispatch → s.trip.record = some r → r.ending = none →
    r.start = some b →
    let ended := fun (e : Ending) => raiseAll .lineState { setSb false s with trip := { s.trip with
      line := .parked, parkedBerth := some b, stage := none, dispatchLimit := false, consentLower := false, consentUpper := false
      record := some { r with ending := some e } } }
    let alarm := fun (u : State) (x : Car) => ∃ k, (u.track.cars.get x).block = some k ∧ k.alarm = true
    (s.departureHolds = true ↔
      CarsReady s ∧ BoardingShut s b ∧ BoardingShut s b.mirror ∧ s.trip.consentLower = true ∧ s.trip.consentUpper = true ∧
        s.sup.ebFb = true ∧ (∀ x, ¬alarm s x) ∧ s.rope.certainty ≠ .unknown ∧ s.sup.causes = []) ∧
    (s.portFree p → exec (.hold p []) s = .next ((ended .cancelled).answering p .hold [] .done .none)) ∧
    (s.trip.dispatchLimit = true → exec .dispatchTimeout s = .next (raiseAll .dispatchTimeout (ended .timedOut))) ∧
    (s.trip.dispatchLimit = false → exec .dispatchTimeout s = .next s) ∧
    ∀ before : State,
      let changed := before.trip.line = .dispatch ∧ before.departureParts ≠ s.departureParts
      (before.trip.record = some r → (before.departureParts = s.departureParts ↔
        (∀ x, (before.track.cars.get x).link = (s.track.cars.get x).link ∧ (DoorsSecure before x ↔ DoorsSecure s x) ∧
          (alarm before x ↔ alarm s x)) ∧
        ((∃ x d, (before.doors.get x).grants.get d ≠ none) ↔ ∃ x d, (s.doors.get x).grants.get d ≠ none) ∧
        (∀ k, k = b ∨ k = b.mirror → (before.board.berths.get k).state = (s.board.berths.get k).state) ∧
        before.trip.consentLower = s.trip.consentLower ∧ before.trip.consentUpper = s.trip.consentUpper ∧
        before.sup.ebFb = s.sup.ebFb ∧ before.rope.certainty = s.rope.certainty ∧ before.sup.causes = s.sup.causes)) ∧
      (s.trip.stage = some .waiting → changed → s.departureHolds = true → s.sup.sbFb = false →
        settle before s = setSb true { s with trip := { s.trip with stage := some .releasing } }) ∧
      (s.trip.stage = some .waiting → ¬changed ∨ s.departureHolds = false → settle before s = s) ∧
      (s.trip.stage = some .releasing → s.departureHolds = false →
        settle before s = setSb false { s with trip := { s.trip with stage := some .waiting } }) ∧
      (s.trip.stage = some .releasing → s.departureHolds = true → s.sup.sbRel = false ∨ s.sup.sbFb = false → settle before s = s) ∧
      (s.trip.stage = some .releasing → s.departureHolds = true → s.sup.sbRel = true → s.sup.sbFb = true → s.sup.drvEn = false →
        settle before s = raiseAll .lineState { s with
          trip := { s.trip with
            line := .running .accel, stage := none, dispatchLimit := false, stop := .none, holdCause := none, held := 0, forming := 0
            stepping := true, distances := false, parkedBerth := none }
          sup := { s.sup with drvEn := true }
          doors := ⟨{ s.doors.a with alignment := .none }, { s.doors.b with alignment := .none }⟩
          board := { s.board with berths := s.board.berths.map fun v => if v.state = .sealed then { v with state := .closed } else v } })

/-- From R46, R78, R87 and R88: HOLD in RUNNING outside HOLDING makes the phase HOLDING and the stop HOLD with the sending port as its cause; in a recovery move
with no hold or service stop in hand it makes the stop HOLD, and during the move release it ends the move without having moved. The answer is
ACCEPTED.
When the hold cause ends, and HOLD in RECOVERY-MOVING, are the model's reading (log entries 19 and 44); the steps that follow are in its order (log entry 18). -/
def Obligations.HoldStopsTheTripOrMove : Prop :=
  ∀ (p : Port) (s : State), s.portFree p →
    let held := { s.trip with stop := .hold, holdCause := some (.request p) }
    (∀ ph, s.trip.line = .running ph → ph ≠ .holding →
      exec (.hold p []) s =
        .next ((settle s { s with trip := { held with line := .running .holding } }).answering p .hold [] .accepted .none)) ∧
    (s.trip.line = .recovery true → s.trip.stop = .none ∨ s.trip.stop = .profile → s.trip.moveRelease = false →
      exec (.hold p []) s = .next ((settle s { s with trip := held }).answering p .hold [] .accepted .none)) ∧
    (∀ r, s.trip.line = .recovery true → s.trip.stop = .none ∨ s.trip.stop = .profile → s.trip.moveRelease = true →
      s.trip.record = some r → r.ending = none →
      ∃ t : State, exec (.hold p []) s = .next (t.answering p .hold [] .accepted .none) ∧
        t.sup = (setSb false s).sup ∧ t.trip.stop = .none ∧ t.trip.holdCause = none ∧ t.trip.moveRelease = false ∧
        (s.rope.certainty = .known ∧ s.alignedAt .a r.target.a = true ∧ s.alignedAt .b r.target.b = true →
          t.trip.line = .parked ∧ t.trip.parkedBerth = some r.target.a ∧ t.trip.record = some { r with ending := some .berthed }) ∧
        (¬(s.rope.certainty = .known ∧ s.alignedAt .a r.target.a = true ∧ s.alignedAt .b r.target.b = true) →
          t.trip.line = .recovery false ∧ t.trip.parkedBerth = none ∧ t.trip.record = some { r with ending := some .idle }) ∧
        t.rope = s.rope ∧ t.tables = s.tables ∧ t.track = s.track ∧ t.sched = s.sched ∧ t.trip.number = s.trip.number ∧
        t.trip.offsets = s.trip.offsets)

/-- From R46, R67, R83 to R85, R88, R163, R164 and R184: RESUME in HELD, with no resume release in progress and its interlock holding, begins a resume release; RECOVERY MOVE to a berth that
passes R84 forms the record and begins a move release in RECOVERY-MOVING with the slot empty. Each energises SB_REL and answers ACCEPTED. While
the interlock holds, SB reporting released starts the trip or move with DRV_EN energised and both setpoints 0; an interlock that fails
abandons the resume, the line staying HELD, or ends the move without having moved. The start of a resumed trip and the acceptance of a move leave
both alignments NONE and SEALED berths CLOSED. Each interlock is spelled out: R83's of links, leaves, grants, certainty, causes and alarms, R84's of
links, leaves, grants, every berth's boarding state, the rail brake reports and the EB feedback. Where a request is legal it is refused BAD_ARGUMENT for its body,
at certainty UNKNOWN for a berth that is no terminus, otherwise for a berth within 150 mm of car A; BUSY during a resume release; then
INTERLOCK.
That the hold cause becomes none at the start of a resumed trip or a move, and with the stop at that acceptance, is the model's choice, deduced
(log entry 19). The run cap of a recovery move, the record of a resumed trip and the steps that follow are the model's reading (log entries
18, 36 and 37). -/
def Obligations.ReleasesBegin : Prop :=
  (∀ s : State,
    let reported := fun (f : StatusBlock → Bool) => ∃ x k, (s.track.cars.get x).block = some k ∧ f k = true
    (s.resumeHolds = true ↔ CarsReady s ∧ s.rope.certainty ≠ .unknown ∧ s.sup.causes = [] ∧ ¬reported StatusBlock.alarm) ∧
    (s.moveHolds = true ↔ CarsReady s ∧ (∀ b, BoardingShut s b) ∧ ¬reported StatusBlock.railApplied ∧ s.sup.ebFb = true)) ∧
  (∀ s : State, s.portFree .d →
    let refused := fun (r : Request) (body : List Byte) (c : Result) =>
      exec (r.command .d body) s = .next (s.answering .d r body c .none)
    let busy := s.trip.line = .held ∧ s.trip.resumeRelease = true
    (s.trip.line = .held →
      (∀ body, body ≠ [] → refused .resume body .badArgument) ∧
      (busy → refused .resume [] .busy) ∧
      (¬busy → s.resumeHolds = false → refused .resume [] .interlock)) ∧
    (s.trip.line = .recovery false ∨ s.trip.line = .held ∨ s.trip.line = .parked ∧ (∃ x, (s.doors.get x).alignment = .misaligned) →
      (∀ body, (∀ b : Berth, body ≠ [byteOf b.idx]) → refused .recoveryMove body .badArgument) ∧
      ∀ b : Berth,
        let blind := s.rope.certainty = .unknown ∧ (b = .b1 ∨ b = .b2)
        let near := s.rope.certainty ≠ .unknown ∧ ∃ e, s.berthEntry b = some e ∧ |(e.position : Int) - s.pos .a| ≤ 150
        (blind ∨ near → refused .recoveryMove [byteOf b.idx] .badArgument) ∧
        (¬blind → ¬near → busy → refused .recoveryMove [byteOf b.idx] .busy) ∧
        (¬blind → ¬near → ¬busy → s.moveHolds = false → refused .recoveryMove [byteOf b.idx] .interlock))) ∧
  (∀ s : State, s.portFree .d → s.trip.line = .held → s.trip.resumeRelease = false → s.resumeHolds = true →
    exec (.resume .d []) s =
      .next ((settle s (setSb true { s with trip := { s.trip with resumeRelease := true } })).answering .d .resume [] .accepted .none)) ∧
  (∀ (x : Byte) (b : Berth) (s : State), s.portFree .d → Berth.ofCode x.toNat = some b →
    (s.trip.line = .recovery false ∨ s.trip.line = .held ∧ s.trip.resumeRelease = false ∨ s.trip.line = .parked ∧ s.misaligned = true) →
    (s.rope.certainty = .unknown → b = .b0 ∨ b = .b3) →
    (s.rope.certainty ≠ .unknown → ∃ e, s.berthEntry b = some e ∧ 150 < distance e.position (s.pos .a)) →
    s.moveHolds = true →
    ∃ t : State, exec (.recoveryMove .d [x]) s = .next ((settle s t).answering .d .recoveryMove [x] .accepted .none) ∧
      t.trip = { s.trip with
        line := .recovery true, slot := none, stop := .none, holdCause := none, moveRelease := true, parkedBerth := none
        moveStart := if s.rope.certainty = .unknown then s.rope.chans.ch1.count else s.trip.moveStart
        record := some ⟨s.trip.number, .recovery, s.moveDir b, s.vCr, s.trip.parkedBerth, ⟨b, b.mirror⟩,
          if b = .b1 ∨ b = .b2 then some b else none, none⟩ } ∧
      t.sup.sbRel = true ∧ t.sup.ebRel = s.sup.ebRel ∧ t.sup.drvEn = s.sup.drvEn ∧ t.sup.causes = s.sup.causes ∧
      (∀ k, t.board.berths.get k = let v := s.board.berths.get k; if v.state = .sealed then { v with state := .closed } else v) ∧
      t.doors = ⟨{ s.doors.a with alignment := .none }, { s.doors.b with alignment := .none }⟩ ∧
      t.links = s.links.map (fun q => { q with flags := q.flags ||| Notice.lineState.bit }) ∧
      t.tables = s.tables ∧ t.rope = s.rope ∧ t.sched = s.sched ∧ t.track = s.track ∧ t.board.cars = s.board.cars) ∧
  (∀ before s : State, s.trip.line = .held → s.trip.resumeRelease = true →
    (s.resumeHolds = false → settle before s = setSb false { s with trip := { s.trip with resumeRelease := false } }) ∧
    (s.resumeHolds = true → s.sup.sbRel = false ∨ s.sup.sbFb = false → settle before s = s) ∧
    (∀ h, s.resumeHolds = true → s.sup.sbRel = true → s.sup.sbFb = true → s.sup.drvEn = false → s.trip.slot = some h →
      settle before s = raiseAll .lineState { s with
        trip := { s.trip with
          line := .running .accel, slot := none, resumeRelease := false, stop := .none, holdCause := none, held := 0, forming := 0
          stepping := true, distances := false, parkedBerth := none
          record := s.trip.record.map fun r => { r with dir := h.dir, target := h.target, speed := h.runCap } }
        sup := { s.sup with drvEn := true }
        doors := ⟨{ s.doors.a with alignment := .none }, { s.doors.b with alignment := .none }⟩
        board := { s.board with berths := s.board.berths.map fun v => if v.state = .sealed then { v with state := .closed } else v } })) ∧
  (∀ before s : State, s.trip.line = .recovery true → s.trip.moveRelease = true → s.trip.stop = .none →
    (s.moveHolds = true → s.sup.sbRel = false ∨ s.sup.sbFb = false → settle before s = s) ∧
    (s.moveHolds = true → s.sup.sbRel = true → s.sup.sbFb = true → s.sup.drvEn = false → settle before s = { s with
      trip := { s.trip with moveRelease := false, holdCause := none, held := 0, forming := 0, stepping := true, distances := false }
      sup := { s.sup with drvEn := true } }) ∧
    (∀ r, s.moveHolds = false → s.trip.record = some r → r.ending = none →
      let t := settle before s
      let berthed := s.rope.certainty = .known ∧ s.alignedAt .a r.target.a = true ∧ s.alignedAt .b r.target.b = true
      t.sup = (setSb false s).sup ∧ t.trip.moveRelease = false ∧ t.trip.offsets = s.trip.offsets ∧
      (berthed → t.trip.line = .parked ∧ t.trip.parkedBerth = some r.target.a ∧ t.trip.record = some { r with ending := some .berthed }) ∧
      (¬berthed → t.trip.line = .recovery false ∧ t.trip.parkedBerth = none ∧ t.trip.record = some { r with ending := some .idle })))

/-- From R74 to R76, R78, R80 to R82, R88, R164, R167 and R168. In motion with a stop in hand, SB reporting applied de-energises DRV_EN. Once both lines are down
and the standstill flag is set the stop is complete: a profile stop of a trip, or a hold with both cars aligned, berths the line in PARKED
with the offsets learned and each car's own judgement; any other hold and a service stop fill the slot and enter HELD; a move ends in PARKED
only aligned with certainty KNOWN and not by a service stop, which lowers certainty, and in RECOVERY-IDLE otherwise, its offsets learned by a
profile stop alone. A berthing makes a grant of origin AUTO for each car and platform side where every condition of automatic release holds, and
changes no other grant; no other completion makes one. That the targets are a mirror pair is the law of StepKeepsTheTargetAndTestLaws.
The order of the steps is the model's choice (log entry 18); what the hold cause in hand becomes (log entry 19)
and the run cap of the slot (log entry 53) are deduced; that a terminus reached from beyond it learns by the direction of arrival is the model's
choice too (log entry 57). -/
def Obligations.StopsComplete : Prop :=
  ∀ (before s : State) (r : TripRecord) (entries : PerBerth BerthEntry) (h : Header),
    s.trip.line.inMotion = true → s.trip.moveRelease = false → s.trip.stop ≠ .none → s.sup.sbRel = false →
    s.trip.record = some r → r.ending = none → r.target.b = r.target.a.mirror → s.tables.berths = some entries →
    s.tables.header = some h →
    let t := settle before s
    let k := s.trip.stop
    let aligned := s.alignedAt .a r.target.a = true ∧ s.alignedAt .b r.target.b = true
    let judged : Car → Machine.Alignment := fun x => if s.alignedAt x (r.target.get x) then .aligned else .misaligned
    let move := s.trip.line = .recovery true
    (s.sup.sbFb = false → t.sup.drvEn = false) ∧
    (s.sup.sbFb = true → s.rope.flag = false ∨ s.sup.drvEn = true → t = s) ∧
    (s.rope.flag = true → s.sup.drvEn = false →
      let berthed := if move then k ≠ .service ∧ s.rope.certainty = .known ∧ aligned else k = .profile ∨ k = .hold ∧ aligned
      let learns := k = .profile ∨ ¬move ∧ k = .hold ∧ aligned
      (berthed →
        t.trip.line = .parked ∧ t.trip.parkedBerth = some r.target.a ∧ t.trip.record = some { r with ending := some .berthed } ∧
        t.trip.stop = .none ∧ t.trip.holdCause = none ∧ t.trip.slot = s.trip.slot ∧
        t.trip.consentLower = false ∧ t.trip.consentUpper = false ∧ (∀ x, (t.doors.get x).alignment = judged x) ∧
        (∀ x d,
          let e := entries.get (r.target.get x)
          let set := s.grantSet x e d
          let due := e.autoRelease = 1 ∧ e.sides.getLsbD d.bit = true ∧ judged x = .aligned ∧ s.sup.sbFb = false ∧
            (s.track.cars.get x).link = .complete ∧ set ≠ 0
          let old := s.doors.get x
          let new := t.doors.get x
          (due → new.grants.get d = some ⟨r.target.get x, set, s.trip.number, .auto⟩ ∧ new.close.get d = false ∧
            new.marks.get d = old.marks.get d &&& ~~~set) ∧
          (¬due → new.grants.get d = old.grants.get d ∧ new.close.get d = old.close.get d ∧ new.marks.get d = old.marks.get d) ∧
          new.leaves = old.leaves) ∧
        t.links = s.links.map fun q => { q with flags := q.flags ||| Notice.lineState.bit ||| Notice.berthed.bit }) ∧
      (¬berthed → ¬move →
        t.trip.line = .held ∧ t.trip.stop = .none ∧ t.trip.record = s.trip.record ∧ t.trip.parkedBerth = none ∧
        t.trip.slot = some ⟨s.trip.number, r.dir, r.target, min r.speed (modeCap s.trip.mode h), s.trip.holdCause.getD .service⟩ ∧
        t.rope.certainty = s.rope.certainty ∧ t.links = s.links.map fun q => { q with flags := q.flags ||| Notice.lineState.bit }) ∧
      (¬berthed → move →
        t.trip.line = .recovery false ∧ t.trip.stop = .none ∧ t.trip.record = some { r with ending := some .idle } ∧
        t.trip.parkedBerth = none ∧
        t.rope.certainty = (if k = .service ∧ s.rope.certainty = .known then .uncertain else s.rope.certainty)) ∧
      (¬berthed → ∀ x, (t.doors.get x).grants = (s.doors.get x).grants) ∧
      (∀ x b, (t.trip.offsets.get x).get b =
        let l := (s.trip.offsets.get x).get b
        let e := s.pos x - ((entries.get b).position : Int)
        if learns ∧ b = r.target.get x then
          if r.dir.ascends x then { l with ascending := max (-300) (min 300 (l.ascending + Int.tdiv e 2)) }
          else { l with descending := max (-300) (min 300 (l.descending + Int.tdiv (-e) 2)) }
        else l) ∧
      t.sup = s.sup ∧ t.board = s.board ∧ t.tables = s.tables ∧ t.sched = s.sched ∧ t.track = s.track)

/-- From R67 to R74, R78, R86, R87, R97 and R100. A profile step sends the forming setpoint as the held one in a frame with the next count, forms a new
setpoint, hands on an overrun, and judges the start of a stop; an expiry while the step is stopped does nothing. The setpoint it forms is the
least of the held one raised by a_acc × 20/1000, the run cap, the planned speed where distances are computed, and E_step; in a hold until
SB_REL drops the least of the held one lowered by a_dec × 20/1000, the planned speed and E_step; in every other stop 0. The distance is the
lesser of the cars' distances to their targets with the learned offsets, and the phase goes by the term that gave the setpoint. An overrun
stands where a car is more than 1500 mm past its target, or in a move of unknown certainty has gone more than LINE_LEN + 2000 mm. A stop of
kind PROFILE begins where held setpoint, planned speed and v_sup are 0, in a move once a step has computed distances.
When it is judged is deduced (log entry 45), and that P(d) is formed from the figures as they stand is the model's choice (log entry 68); the service stop's
frame with DRV_EN down (log entry 58) and its hold cause in a move (log
entry 63), and that a stop's step still sends a forming setpoint above 0 (log entry 65), are the model's choice. -/
def Obligations.ProfileStepFormsTheSetpoint : Prop :=
  (∀ s : State,
      (s.trip.stepping = false ∨ s.tables.header = none → exec .profileStep s = .next s) ∧
      (∀ h, s.trip.stepping = true → s.tables.header = some h → ∃ a b : State,
        a.trip = { s.trip with
          held := s.trip.forming
          frameCount := (s.trip.frameCount + 1) % 256
          frame := ⟨s.frameDir, s.trip.forming, s.trip.number, (s.trip.frameCount + 1) % 256⟩ } ∧
        { a with trip := s.trip } = s ∧
        b.trip = { a.trip with
          forming := a.formSetpoint h, distances := decide (s.rope.certainty ≠ .unknown) && s.profileDist.isSome
          line := match s.trip.line with
            | .running .holding => .running .holding
            | .running ph => if s.trip.stop = .none then .running (a.stepPhase h (a.formSetpoint h)) else .running ph
            | l => l } ∧
        { b with trip := s.trip } = s ∧
        exec .profileStep s = .next (settle s (profileStop (if b.overrun h then serviceStop .berthOverrun b else b))))) ∧
  (∀ s : State,
    let due := s.trip.line.inMotion = true ∧ (s.trip.line = .recovery true → s.trip.distances = true) ∧ s.trip.stepping = true ∧ s.trip.stop = .none ∧ s.rope.certainty ≠ .unknown ∧ s.trip.held = 0 ∧
      s.vSup = 0 ∧ ∃ h d, s.tables.header = some h ∧ s.profileDist = some d ∧ planned h d = 0
    (due → profileStop s = { s with
      trip := { s.trip with stop := .profile }
      sup := if s.sup.sbRel then { s.sup with
          sbRel := false, sbLimit := s.sup.sbFb, dirWatch := none
          rollaway := if s.sup.rollaway = none ∧ s.rope.flag = true then some s.rope.sRef else s.sup.rollaway }
        else s.sup }) ∧
    (¬due → profileStop s = s)) ∧
  (∀ s : State,
    let t := serviceStop .berthOverrun s
    let taken := s.trip.line.supervised = true ∧ s.trip.stop ≠ .service ∧ s.sup.causes = []
    (taken → t.trip.stop = .service ∧ t.trip.holdCause = some .service ∧ t.trip.held = 0 ∧ t.trip.forming = 0 ∧ t.trip.frame.speed = 0 ∧
      t.trip.frameCount = (s.trip.frameCount + 1) % 256 ∧ t.trip.stepping = (s.trip.stepping && !s.sup.drvEn) ∧
      (∀ ph, s.trip.line = .running ph → t.trip.line = .running .holding) ∧
      t.sup.sbRel = false ∧ t.sup.drvEn = false ∧ t.sup.ebRel = s.sup.ebRel ∧ t.sup.lastService = some .berthOverrun ∧
      t.sup.serviceCount = min 255 (s.sup.serviceCount + 1) ∧
      ∀ p, (t.links.get p).flags &&& Notice.serviceStop.bit = Notice.serviceStop.bit) ∧
    (¬taken → t = s)) ∧
  ∀ (h : Header) (s : State),
    let course : Option Course := match s.trip.line with
      | .testing .railA => some ⟨.down, s.sched.targets⟩
      | .testing .railB => some ⟨.up, s.sched.targets⟩
      | _ => s.trip.record.map fun r => ⟨r.dir, r.target⟩
    let toGo : PerBerth BerthEntry → Course → Car → Int := fun t c x =>
      let b := c.target.get x
      let l := (s.trip.offsets.get x).get b
      if c.dir = .up ↔ x = .a then (t.get b).position - l.ascending - s.pos x else s.pos x - ((t.get b).position + l.descending)
    let past := ∃ t c, s.tables.berths = some t ∧ course = some c ∧ (toGo t c .a < -1500 ∨ toGo t c .b < -1500)
    s.profileDist = (match s.tables.berths, course with
      | some t, some c => some (min (toGo t c .a) (toGo t c .b))
      | _, _ => none) ∧
    (∀ ph, s.trip.line = .running ph → (s.overrun h = true ↔ past)) ∧
    (s.trip.line = .recovery true →
      (s.overrun h = true ↔ if s.rope.certainty = .unknown
        then h.lineLen + 2000 < (s.rope.chans.ch1.count - s.trip.moveStart).natAbs * h.scale / 1000
        else past)) ∧
    (s.trip.line.inMotion = false → s.overrun h = false) ∧
    let plan := if s.rope.certainty = .unknown then none else s.profileDist.map (planned h)
    let least := fun (x : Nat) => match plan with
      | some v => min (min x v) (s.formE h)
      | none => min x (s.formE h)
    let cap := if s.trip.line = .testing .railA ∨ s.trip.line = .testing .railB then min h.vCr h.inspectionCap
      else match s.trip.record with
        | some r => if r.kind = .recovery then r.speed
            else min r.speed (match s.trip.mode with | .normal => h.vLine | .reduced => h.reducedCap | .inspection => h.inspectionCap)
        | none => 0
    s.formSetpoint h = (match s.trip.stop with
      | .none => least (min (s.trip.held + h.aAcc * 20 / 1000) cap)
      | .hold => if s.sup.sbRel then least (s.trip.held - h.aDec * 20 / 1000) else 0
      | _ => 0) ∧
    (∀ f,
      let stopping := plan = some f ∧ f < h.vCr
      let creep := plan = some f ∧ f = h.vCr ∧ ∃ d, s.profileDist = some d ∧ 0 < d ∧ d ≤ h.creepRun
      let decel := plan = some f ∧ ∃ d, s.profileDist = some d ∧ h.creepRun < d
      let cruise := f = cap ∨ f = s.formE h
      (stopping → s.stepPhase h f = .stopping) ∧ (¬stopping → creep → s.stepPhase h f = .creep) ∧
      (¬stopping → ¬creep → decel → s.stepPhase h f = .decel) ∧ (¬stopping → ¬creep → ¬decel → cruise → s.stepPhase h f = .cruise) ∧
      (¬stopping → ¬creep → ¬decel → ¬cruise → s.stepPhase h f = .accel)) ∧
    (∀ d : Int, (d ≤ 0 → planned h d = 0) ∧ (0 < d → d ≤ h.creepRun → planned h d = min h.vCr (isqrt (2 * h.aDec * d.toNat))) ∧
      (h.creepRun < d → planned h d = isqrt (h.vCr * h.vCr + 2 * h.aDec * (d - h.creepRun).toNat)))

/-! ### The speed supervisor (chapter 05) -/

/-- From R25 and R94 to R96: a sample while a LINE header is active brings both caps toward their targets, counts the disagreement run, and keeps E with
the warning state where the line is RUNNING, RECOVERY-MOVING or in a rail test; elsewhere E reads 0, the over-S run is 0 and the warning clear.
Without a header only the latter happens. E is the least of the mode cap, the wind and certainty caps in effect, both cars' current limits, the
candidates of the sections ahead of each car and the target candidate, limited to 32,767; at certainty UNKNOWN it is v_cr. In a rail test
the target candidate is present in stages RELEASING and CREEP alone (R128).
The order of the judgements and E at certainty UNKNOWN are the model's reading (log entries 18 and 52); that E reads 0 from the next sample on,
and not at once, after the line has left the states that form it, is the model's choice (log entry 72). -/
def Obligations.SampleFormsTheEnvelope : Prop :=
  (∀ s : State, ∃ t : State, exec .supervisionSample s = .next t ∧
    let cap := fun (h : Header) (old : Option Nat) (target : Nat) =>
      match old with
      | none => target
      | some c => if c ≤ target then target else max target (c - h.aDec * 10 / 1000)
    (∀ h, s.tables.header = some h →
      let w := cap h s.sup.windCap (match s.trip.weather.wind with | 0 => h.vLine | 1 => h.windCap1 | 2 => h.windCap2 | _ => h.windCap3)
      let c := cap h s.sup.certCap (match s.rope.certainty with | .known => h.vLine | .uncertain => h.uncertainCap | .unknown => h.vCr)
      let capped : State := { s with sup := { s.sup with windCap := some w, certCap := some c } }
      t.sup.windCap = some w ∧ t.sup.certCap = some c ∧
      (s.trip.line.supervised = true → t.sup.envelope = capped.formE h ∧ t.sup.warning = decide (capped.formE h < s.vSup))) ∧
    (s.tables.header = none → t.sup.windCap = s.sup.windCap ∧ t.sup.certCap = s.sup.certCap) ∧
    (s.tables.header = none ∨ s.trip.line.supervised = false → t.sup.envelope = 0 ∧ t.sup.overS = 0 ∧ t.sup.warning = false) ∧
    t.rope = { s.rope with
      certainty := t.rope.certainty
      disagree := if 150 + s.vSup / 16 < distance (s.speed .ch1) (s.speed .ch2) then min 3 (s.rope.disagree + 1) else 0 } ∧
    t.tables = s.tables ∧ t.track = s.track ∧ t.sched.obligations = s.sched.obligations ∧ t.board.cars = s.board.cars ∧
    t.trip.number = s.trip.number ∧ t.trip.weather = s.trip.weather) ∧
  ∀ (h : Header) (s : State),
    let e := s.formE h
    let braking : Nat → Int → Nat := fun v d => isqrt (v * v + 2 * h.aSb * (d - h.dM).toNat)
    let targeted := s.trip.line = .testing .railA ∨ s.trip.line = .testing .railB →
      ∃ k, s.sched.test = some (k, .releasing) ∨ s.sched.test = some (k, .creep)
    let ofSections : Nat → Prop := fun v => ∃ l c x, s.tables.sections = some l ∧ s.course = some c ∧
      (currentLimit l (s.pos x) = some v ∨
        ∃ j ∈ l, if c.dir = .up ↔ x = .a then s.pos x < j.start ∧ v = braking j.limit (j.start - s.pos x)
          else j.stop ≤ s.pos x ∧ v = braking j.limit (s.pos x - j.stop))
    let term : Nat → Prop := fun v =>
      v = (match s.trip.mode with | .normal => h.vLine | .reduced => h.reducedCap | .inspection => h.inspectionCap) ∨
      s.sup.windCap = some v ∨ s.sup.certCap = some v ∨ ofSections v ∨
      (targeted ∧ ∃ d, s.profileDist = some d ∧ v = braking h.vCr d)
    (s.rope.certainty = .unknown → e = h.vCr) ∧
    (s.rope.certainty ≠ .unknown → e ≤ 32767 ∧ (∀ v, term v → e ≤ v) ∧ (e = 32767 ∨ term e))

/-- From R25, R98 to R100, R103, R105 and R111: what a sample counts and takes. With a header active, in a line state that forms E, a sample above S makes the
over-S run 1 from 0 and 0 from 1, one at or below S makes it 0, also where a cause is taken; ENVELOPE_WARNING is raised on all three ports exactly where v_sup is
above E and the warning was clear. Its causes are ENVELOPE_EXCEEDED above T, ABSOLUTE_OVERSPEED above V_ABS in every line state, ENCODER_DISAGREE where
the run is left at 3, DOOR_ZONE_MOVEMENT with a grant active more than 30 mm from s_ref, and END_OVERRUN with a car beyond an end by more than 1000 mm, certainty not
UNKNOWN. Each met is listed, or sets overflow where four are; with none listed before, exactly those met are, and any one trips the line without a service
stop. The second sample in a row above S, with no trip cause met and no service stop in hand, takes the service stop ENVELOPE_SERVICE. With no
header only DOOR_ZONE_MOVEMENT is judged.
Which cause stands first where a sample meets several is the model's choice (log entry 18); that E is formed with the caps as ramped at the
sample (log entry 52) and that the service stop is judged after every cause of it (log entry 42) are deduced. -/
def Obligations.SampleIntervenes : Prop :=
  (∀ s : State, ∃ t : State, exec .supervisionSample s = .next t ∧
    let moved := (∃ x d, (s.doors.get x).grants.get d ≠ none) ∧ 30 < |s.coord - s.rope.sRef|
    (s.tables.header = none → s.sup.causes = [] →
      (moved → t.trip.line = .tripped ∧ t.sup.causes = [⟨.doorZoneMovement, none⟩]) ∧ (¬moved → t.sup.causes = [])) ∧
    ∀ h, s.tables.header = some h →
      let capped : State := { s with sup := { s.sup with
        windCap := ramp h s.sup.windCap (windTarget h s.trip.weather.wind), certCap := ramp h s.sup.certCap (certTarget h s.rope.certainty) } }
      let e := capped.formE h
      let forms := s.trip.line.supervised = true
      let met : Cause → Prop := fun c => match c with
        | .envelopeExceeded => forms ∧ e * 9 / 8 + 200 < s.vSup
        | .absoluteOverspeed => h.vLine * 115 / 100 < s.vSup
        | .encoderDisagree => 150 + s.vSup / 16 < distance (s.speed .ch1) (s.speed .ch2) ∧ 2 ≤ s.rope.disagree
        | .doorZoneMovement => moved
        | .endOverrun => s.rope.certainty ≠ .unknown ∧ ∃ x, s.pos x < -1000 ∨ (h.lineLen : Int) + 1000 < s.pos x
        | _ => False
      let fifth := met .envelopeExceeded ∧ met .absoluteOverspeed ∧ met .encoderDisagree ∧ met .doorZoneMovement
      (forms →
        (s.vSup ≤ e * 17 / 16 + 100 → t.sup.overS = 0) ∧
        (e * 17 / 16 + 100 < s.vSup → t.sup.overS = if s.sup.overS = 0 then 1 else 0)) ∧
      (∀ p, (t.links.get p).flags.getLsbD Notice.envelopeWarning.code = true ↔
        (s.links.get p).flags.getLsbD Notice.envelopeWarning.code = true ∨ forms ∧ e < s.vSup ∧ s.sup.warning = false) ∧
      (∀ c, met c → (∃ f ∈ t.sup.causes, f.cause = c) ∨ t.sup.overflow = true) ∧
      (s.sup.causes = [] →
        (∀ f, f ∈ t.sup.causes ↔ f.port = none ∧ met f.cause ∧ ¬(f.cause = .endOverrun ∧ fifth)) ∧
        (t.sup.overflow = true ↔ s.sup.overflow = true ∨ met .endOverrun ∧ fifth) ∧
        ((∃ c, met c) → t.trip.line = .tripped ∧ t.sup.ebRel = false ∧ t.sup.sbRel = false ∧ t.sup.drvEn = false ∧ t.trip.held = 0 ∧
          t.sup.serviceCount = s.sup.serviceCount) ∧
        (met .absoluteOverspeed ∨ met .encoderDisagree → t.sup.railOrder = ⟨.trip, .trip⟩))) ∧
  ∀ (h : Header) (s : State), s.tables.header = some h → s.sup.causes = [] →
    let capped : State := { s with sup := { s.sup with
      windCap := ramp h s.sup.windCap (windTarget h s.trip.weather.wind), certCap := ramp h s.sup.certCap (certTarget h s.rope.certainty) } }
    let e := capped.formE h
    let aboveT := s.trip.line.supervised = true ∧ e * 9 / 8 + 200 < s.vSup
    let aboveAbs := h.vLine * 115 / 100 < s.vSup
    let tripped := fun (c : Cause) (t : State) =>
      exec .supervisionSample s = .next t ∧ t.trip.line = .tripped ∧ t.sup.causes.head? = some ⟨c, none⟩ ∧
        t.sup.ebRel = false ∧ t.sup.sbRel = false ∧ t.sup.drvEn = false ∧ t.trip.held = 0 ∧ t.sup.serviceCount = s.sup.serviceCount
    (aboveT → ∃ t, tripped .envelopeExceeded t) ∧
    (¬aboveT → aboveAbs → ∃ t, tripped .absoluteOverspeed t ∧ t.sup.railOrder = ⟨.trip, .trip⟩) ∧
    (¬aboveT → ¬aboveAbs → s.trip.line.supervised = true → e * 17 / 16 + 100 < s.vSup → 1 ≤ s.sup.overS → s.trip.stop ≠ .service →
      ¬(150 + s.vSup / 16 < distance (s.speed .ch1) (s.speed .ch2) ∧ 2 ≤ s.rope.disagree) →
      ¬(s.anyGrant = true ∧ 30 < distance s.coord s.rope.sRef) → s.endOverrun h = false →
      ∃ t : State, exec .supervisionSample s = .next t ∧ t.sup.causes = [] ∧ t.sup.lastService = some .envelopeService ∧
        t.sup.serviceCount = min 255 (s.sup.serviceCount + 1) ∧ t.sup.overS = 0 ∧ t.trip.held = 0 ∧
        t.sup.sbRel = false ∧ t.sup.drvEn = false ∧ t.sup.ebRel = s.sup.ebRel)

/-- From R93 with R169: a changed feedback is taken, its limit runs exactly in mismatch, SB reporting released against its command withdraws every grant,
and the steps that wait for the report follow; a running limit's expiry takes BRAKE_FEEDBACK; an unchanged level and a stopped limit do
nothing.
The order of the steps that follow is the model's choice (log entry 18). -/
def Obligations.BrakeFeedbackIsWatched : Prop :=
  ∀ (v : Bool) (s : State),
    (s.sup.ebFb = v → exec (.brakeFeedbackChange .eb v) s = .next s) ∧
    (s.sup.sbFb = v → exec (.brakeFeedbackChange .sb v) s = .next s) ∧
    (s.sup.ebFb ≠ v → exec (.brakeFeedbackChange .eb v) s =
      .next (settle s { s with sup := { s.sup with ebFb := v, ebLimit := decide (v ≠ s.sup.ebRel) } })) ∧
    (s.sup.sbFb ≠ v →
      let t : State := { s with sup := { s.sup with sbFb := v, sbLimit := decide (v ≠ s.sup.sbRel) } }
      exec (.brakeFeedbackChange .sb v) s = .next (settle s (if v = true ∧ s.sup.sbRel = false then withdrawAll t else t))) ∧
    (s.sup.ebLimit = false → exec (.brakeFeedbackLimitExpiry .eb) s = .next s) ∧
    (s.sup.sbLimit = false → exec (.brakeFeedbackLimitExpiry .sb) s = .next s) ∧
    (s.sup.ebLimit = true → exec (.brakeFeedbackLimitExpiry .eb) s =
      .next (settle s (takeCause .brakeFeedback none { s with sup := { s.sup with ebLimit := false } }))) ∧
    (s.sup.sbLimit = true → exec (.brakeFeedbackLimitExpiry .sb) s =
      .next (settle s (takeCause .brakeFeedback none { s with sup := { s.sup with sbLimit := false } })))

/-- From R109 to R111 and R122: what taking a trip cause does. With none listed it trips the line: outputs down, setpoint 0 with a frame, the cause first,
TRIPPED with its origin, the slot empty, the live record ended, an undecided test aborted. With some listed a repeat changes no list, a new
cause is appended up to four, a fifth sets overflow. Every cause withdraws every grant, and three of them set both rail brake orders.
The order within the event is the model's choice (log entry 18). -/
def Obligations.TripCauseIsTaken : Prop :=
  ∀ (c : Cause) (p : Option Port) (s : State),
    let t := takeCause c p s
    let orders := c = .encoderDisagree ∨ c = .absoluteOverspeed ∨ c = .carOverspeed
    t.anyGrant = false ∧ (∀ x d, s.present x d ≠ 0 → (t.doors.get x).close.get d = true) ∧ (orders → t.sup.railOrder = ⟨.trip, .trip⟩) ∧
    t.tables = s.tables ∧ t.rope = s.rope ∧ t.track = s.track ∧ t.now = s.now ∧ t.pending = s.pending ∧
    t.sched.obligations = s.sched.obligations ∧ t.board.cars = s.board.cars ∧
    (s.sup.causes = [] → s.trip.line ≠ .tripped →
      t.trip.line = .tripped ∧ t.sup.causes = [⟨c, p⟩] ∧ t.sup.ebRel = false ∧ t.sup.sbRel = false ∧ t.sup.drvEn = false ∧
      t.trip.held = 0 ∧ t.trip.forming = 0 ∧ t.trip.frame.speed = 0 ∧ t.trip.frame.count = (s.trip.frameCount + 1) % 256 ∧
      t.trip.slot = none ∧ t.trip.stop = .none ∧ t.trip.parkedBerth = none ∧
      t.trip.origin = (if s.trip.line = .closed then .closed else .open) ∧
      t.trip.record = s.trip.record.map (fun r => if r.ending = none then { r with ending := some .tripped } else r) ∧
      t.sup.tripCount = min 255 (s.sup.tripCount + 1) ∧ t.sup.ebLimit = s.sup.ebFb ∧ t.sup.sbLimit = s.sup.sbFb ∧
      t.sched.test = none ∧
      (∀ k g, s.sched.test = some (k, g) → g ≠ .ending →
        t.sched.lastTest = some ⟨k, .aborted, s.sched.largest, (s.sched.obligations.get k).debt⟩) ∧
      (∀ b, t.board.berths.get b = (s.board.berths.get b).moveOut) ∧
      ∀ q, (t.links.get q).flags.getLsbD 10 = true ∧ (t.links.get q).flags.getLsbD 0 = true) ∧
    (s.sup.causes ≠ [] →
      t.trip = s.trip ∧ t.sup.ebRel = s.sup.ebRel ∧ t.sup.sbRel = s.sup.sbRel ∧ t.sup.drvEn = s.sup.drvEn ∧
      t.sup.tripCount = s.sup.tripCount ∧ (¬orders → t.sup.railOrder = s.sup.railOrder) ∧
      ((∃ e ∈ s.sup.causes, e.cause = c) → t.sup.causes = s.sup.causes ∧ t.sup.overflow = s.sup.overflow ∧ t.links = s.links) ∧
      ((∀ e ∈ s.sup.causes, e.cause ≠ c) →
        (s.sup.causes.length < 4 → t.sup.causes = s.sup.causes ++ [⟨c, p⟩] ∧ t.sup.overflow = s.sup.overflow ∧
          ∀ q, (t.links.get q).flags.getLsbD 10 = true) ∧
        (4 ≤ s.sup.causes.length → t.sup.causes = s.sup.causes ∧ t.sup.overflow = true ∧
          (s.sup.overflow = false → ∀ q, (t.links.get q).flags.getLsbD 10 = true) ∧ (s.sup.overflow = true → t.links = s.links))))

/-- R108: EMERGENCY STOP, from any port in every line state, takes the trip cause EMERGENCY_REQUEST with the sending port and answers DONE, in TRIPPED
as well; a body that is not empty is refused BAD_ARGUMENT. -/
def Obligations.EmergencyStopIsTakenFromAnyPort : Prop :=
  ∀ (p : Port) (s : State), s.portFree p →
    exec (.emergencyStop p []) s =
      .next ((settle s (takeCause .emergencyRequest (some p) s)).answering p .emergencyStop [] .done .none) ∧
    ∀ (x : Byte) (l : List Byte),
      exec (.emergencyStop p (x :: l)) s = .next (s.answering p .emergencyStop (x :: l) .badArgument .none)

/-- From R27, R52, R111, R112 and R113: TRIP RESET in TRIPPED with the standstill flag set moves the list into the last trip record, clears orders of
TRIP, realigns channel 2, lowers certainty, takes the rollaway anchor again, and enters CLOSED, PARKED or RECOVERY-IDLE as the trip origin and
the berthed judgement say, with EB_REL energised but for CLOSED. With the flag clear it is refused INTERLOCK.
Arming the rollaway watch there is deduced (log entry 40). -/
def Obligations.TripResetLeavesTripped : Prop :=
  ∀ s : State, s.portFree .d → s.trip.line = .tripped →
    (s.rope.flag = false → exec (.tripReset .d []) s = .next (s.answering .d .tripReset [] .interlock .none)) ∧
    (s.rope.flag = true → ∃ t : State, exec (.tripReset .d []) s = .next (t.answering .d .tripReset [] .done (.line t.trip.line)) ∧
      t.sup.causes = [] ∧ t.sup.overflow = false ∧ t.sup.lastTrip = some ⟨s.trip.number, s.sup.causes, s.sup.overflow⟩ ∧
      (∀ x, t.sup.railOrder.get x = if s.sup.railOrder.get x = .trip then .none else s.sup.railOrder.get x) ∧
      t.sup.rollaway = s.sup.rollaway.map (fun _ => s.rope.sRef) ∧
      t.coord2 = s.coord ∧ t.coord = s.coord ∧ t.rope.disagree = 0 ∧
      t.rope.certainty = (if s.rope.certainty = .known then .uncertain else s.rope.certainty) ∧
      t.trip.origin = .none ∧ t.trip.number = s.trip.number ∧ t.trip.record = s.trip.record ∧
      t.sup.sbRel = s.sup.sbRel ∧ t.sup.drvEn = s.sup.drvEn ∧
      (s.trip.origin = .closed → t.trip.line = .closed ∧ t.sup.ebRel = s.sup.ebRel) ∧
      (∀ b, s.trip.origin ≠ .closed → s.rope.certainty = .known → s.berthedPair = some b →
        t.trip.line = .parked ∧ t.trip.parkedBerth = some b ∧ t.trip.consentLower = false ∧ t.trip.consentUpper = false ∧
          t.sup.ebRel = true) ∧
      (s.trip.origin ≠ .closed → s.rope.certainty ≠ .known ∨ s.berthedPair = none →
        t.trip.line = .recovery false ∧ t.trip.parkedBerth = none ∧ t.sup.ebRel = true) ∧
      t.tables = s.tables ∧ t.sched = s.sched ∧ t.track = s.track ∧ t.board = s.board)

/-! ### Brake tests (chapter 06) -/

/-- From R46, R54, R67, R102, R123, R124, R126 to R128, R131, R163, R164 and R184: an accepted BRAKE TEST takes the anchor and enters TESTING EB in stage APPLYING with EB_REL de-energised and the rollaway watch
disarmed; an accepted RAIL TEST takes its targets and enters TESTING of its car's kind in stage RELEASING with SB_REL energised. Each raises
LINE_STATE, keeps the parked berth and answers ACCEPTED. EB reporting applied energises SB_REL; SB reporting released, with both cars SECURE,
energises DRV_EN and opens the window or begins the creep, and otherwise aborts the test. In stage ENDING the test ends with SB reporting
applied: an emergency brake test in PARKED with EB_REL energised, each car judged and the rollaway watch armed where the flag is set, a rail
test, once the rope stands with both lines down, in RECOVERY-IDLE with its TEST order cleared and both alignments NONE. A rail test leaves SEALED
berths CLOSED. SECURE and both interlocks are spelled out: links, leaves and grants for each, with the parked berth and its mirror SEALED or CLOSED and the
standstill flag for BRAKE TEST, and with no one onboard, no rail brake reported applied and the flag for RAIL TEST. In PARKED a body of another form
is refused BAD_ARGUMENT, in INSPECTION a car under test that stands at B0 too, and a failing interlock INTERLOCK.
That the stop and the hold cause become none at the acceptance and at the end of a rail test is the model's choice, deduced (log entries 19
and 51). -/
def Obligations.BrakeTestsBeginAndEnd : Prop :=
  (∀ s : State,
    (s.bothSecure = true ↔ ∀ x, DoorsSecure s x) ∧
    (s.brakeTestHolds = true ↔ CarsReady s ∧ (∃ b, s.trip.parkedBerth = some b ∧ BoardingShut s b ∧ BoardingShut s b.mirror) ∧
      s.rope.flag = true) ∧
    (s.railTestHolds = true ↔ CarsReady s ∧ (∀ x, (s.board.cars.get x).onboard = 0) ∧
      (∀ x k, (s.track.cars.get x).block = some k → k.railApplied = false) ∧ s.rope.flag = true)) ∧
  (∀ s : State, s.portFree .d → s.trip.line = .parked →
    let refused := fun (r : Request) (body : List Byte) (c : Result) =>
      exec (r.command .d body) s = .next (s.answering .d r body c .none)
    (∀ body, body ≠ [] → refused .brakeTest body .badArgument) ∧
    (s.brakeTestHolds = false → refused .brakeTest [] .interlock) ∧
    (s.trip.mode = .inspection →
      (∀ body : List Byte, body ≠ [0#8] → body ≠ [1#8] → refused .railTest body .badArgument) ∧
      ∀ x : Car,
        let body := [match x with | .a => 0#8 | .b => 1#8]
        let bottom := s.trip.parkedBerth = some (match x with | .a => .b0 | .b => .b3)
        (bottom → refused .railTest body .badArgument) ∧ (¬bottom → s.railTestHolds = false → refused .railTest body .interlock))) ∧
  (∀ s : State, s.portFree .d → s.trip.line = .parked → s.brakeTestHolds = true →
    exec (.brakeTest .d []) s = .next ((settle s (raiseAll .lineState { s with
      trip := { s.trip with line := .testing .eb }
      sched := { s.sched with anchor := s.rope.sRef, largest := 0, test := some (.eb, .applying) }
      sup := { s.sup.withEb false with rollaway := none } })).answering .d .brakeTest [] .accepted .none)) ∧
  (∀ (x : Car) (s : State), s.portFree .d → s.trip.line = .parked → s.trip.mode = .inspection →
    s.trip.parkedBerth ≠ some (match x with | .a => .b0 | .b => .b3) → s.railTestHolds = true →
    let kind : TestKind := match x with | .a => .railA | .b => .railB
    let body := [match x with | .a => 0#8 | .b => 1#8]
    exec (.railTest .d body) s = .next ((settle s (setSb true (raiseAll .lineState { s with
      trip := { s.trip with line := .testing kind, stop := .none, holdCause := none }
      sched := { s.sched with
        test := some (kind, .releasing), largest := 0, targets := match x with | .a => ⟨.b0, .b3⟩ | .b => ⟨.b3, .b0⟩ }
      board := { s.board with berths := s.board.berths.map fun v => if v.state = .sealed then { v with state := .closed } else v } }))).answering
        .d .railTest body .accepted .none)) ∧
  (∀ before s : State, s.trip.line = .testing .eb →
    (s.sched.test = some (.eb, .applying) → s.sup.ebRel = false → s.sup.ebFb = false → s.sup.sbRel = false → s.sup.sbFb = false →
      settle before s = setSb true s) ∧
    (s.sched.test = some (.eb, .applying) → s.sup.sbRel = true → s.sup.sbFb = true → s.sup.drvEn = false →
      settle before s = if s.bothSecure then
          { s with sup := { s.sup with drvEn := true }, sched := { s.sched with test := some (.eb, .window), windowLimit := true } }
        else abortToEnding .eb (setSb false s)) ∧
    (s.sched.test = some (.eb, .ending) → s.sup.sbRel = true ∨ s.sup.sbFb = true → settle before s = s) ∧
    (∀ b, s.sched.test = some (.eb, .ending) → s.sup.sbRel = false → s.sup.sbFb = false → s.trip.parkedBerth = some b →
      let judged : Car → Berth → Machine.Alignment := fun x k => if s.alignedAt x k then .aligned else .misaligned
      settle before s = raiseAll .lineState { s with
        trip := { s.trip with line := .parked, parkedBerth := some b, consentLower := false, consentUpper := false }
        sup := { s.sup.withEb true with
          rollaway := if s.sup.rollaway = none ∧ s.rope.flag = true then some s.rope.sRef else s.sup.rollaway }
        sched := { s.sched with test := none }
        doors := ⟨{ s.doors.a with alignment := judged .a b }, { s.doors.b with alignment := judged .b b.mirror }⟩ })) ∧
  (∀ (k : TestKind) (before s : State), k ≠ .eb → s.trip.line = .testing k →
    let x : Car := match k with | .railB => .b | _ => .a
    (s.sched.test = some (k, .releasing) → s.sup.sbRel = true → s.sup.sbFb = true → s.sup.drvEn = false →
      settle before s = if s.bothSecure then
          { s with
            trip := { s.trip with stepping := true, distances := false, held := 0, forming := 0 }
            sup := { s.sup with drvEn := true }
            sched := { s.sched with test := some (k, .creep), creepStart := s.coord, creepLimit := true } }
        else abortToEnding k (setSb false s)) ∧
    (s.sched.test = some (k, .ending) → s.sup.sbRel = true ∨ s.sup.drvEn = true ∨ s.sup.sbFb = true ∨ s.rope.flag = false →
      settle before s = s) ∧
    (s.sched.test = some (k, .ending) → s.sup.sbRel = false → s.sup.drvEn = false → s.sup.sbFb = false → s.rope.flag = true →
      settle before s = raiseAll .lineState { s with
        trip := { s.trip with line := .recovery false, parkedBerth := none, stop := .none, holdCause := none }
        sup := if s.sup.railOrder.get x = .test then
            { s.sup with railOrder := s.sup.railOrder.set x .none, orderClears := s.sup.orderClears.set x false }
          else s.sup
        sched := { s.sched with test := none }
        doors := ⟨{ s.doors.a with alignment := .none }, { s.doors.b with alignment := .none }⟩ }))

/-- From R119 to R122, R125, R128 and R130: the debts, the record and the notices of a decision; and what the three test limits decide: the window's end
passes an emergency brake test, the creep limit aborts and the brake limit fails a rail test. A limit that is stopped does nothing. The first
setting of the standstill flag in BRAKING passes a rail test with the distance from the order anchor.
The movement that the record carries at the creep limit's expiry is the model's choice (log entry 66). -/
def Obligations.TestsAreDecided : Prop :=
  ∀ (k : TestKind) (r : TestResult) (m : Nat) (s : State),
    let o := s.sched.obligations.get k
    let debt : Int := match r with | .pass => if 0 < o.debt then 0 else max (o.debt - 1) (-2) | .fail => 3 | .aborted => o.debt
    let t := decideTest k r m s
    let newly := r = .fail ∧ o.debt < 3
    (r ≠ .aborted →
      t.sched.obligations = s.sched.obligations.set k { o with debt := debt } ∧ t.sched.lastTest = some ⟨k, r, m, debt⟩ ∧
      t.sched.test = some (k, .ending) ∧ t.sched.windowLimit = false ∧ t.sched.creepLimit = false ∧ t.sched.brakeLimit = false ∧
      t.trip = s.trip ∧ t.sup = s.sup ∧ t.board.cars = s.board.cars ∧
      (∀ q, (t.links.get q).flags = (s.links.get q).flags ||| Notice.testDone.bit ||| (if r = .fail then Notice.testFailed.bit else 0) |||
        (if newly then Notice.restricted.bit else 0)) ∧
      ∀ b, t.board.berths.get b = if newly then (s.board.berths.get b).moveOut else s.board.berths.get b) ∧
    ((abortToEnding k s).sched.obligations = s.sched.obligations ∧
      (abortToEnding k s).sched.lastTest = some ⟨k, .aborted, s.sched.largest, o.debt⟩ ∧ (abortToEnding k s).sched.test = some (k, .ending)) ∧
    (s.sched.windowLimit = true → s.sched.test = some (.eb, .window) →
      exec .ebTestWindowExpiry s = .next (settle s (setSb false (setDrv false (decideTest .eb .pass s.sched.largest s))))) ∧
    (s.sched.creepLimit = true → s.sched.test = some (k, .creep) →
      exec .creepLimitExpiry s = .next (settle s (abortToEnding k (forceZero (setSb false (setDrv false s)))))) ∧
    (s.sched.brakeLimit = true → s.sched.test = some (k, .braking) →
      exec .brakeLimitExpiry s = .next (settle s (setSb false (decideTest k .fail s.sched.largest s)))) ∧
    (s.rope.dwell = true → s.sched.test = some (k, .braking) → ∃ u : State, exec .standstillDwellExpiry s = .next u ∧
      u.rope.flag = true ∧ u.sup.sbRel = false ∧ u.sched.lastTest = some ⟨k, .pass, min 65535 (distance s.coord s.sched.orderAnchor),
        if 0 < o.debt then 0 else max (o.debt - 1) (-2)⟩) ∧
    (s.sched.windowLimit = false → exec .ebTestWindowExpiry s = .next s) ∧
    (s.sched.creepLimit = false → exec .creepLimitExpiry s = .next s) ∧
    (s.sched.brakeLimit = false → exec .brakeLimitExpiry s = .next s)

/-- From R57, R117, R118 and R120: each minute counts every obligation against its base interval, halved in cold weather; an expiry raises its debt up to 3
and restarts it. OBLIGATION_DUE is raised where a debt rose to 1, 2 or 3, and RESTRICTED with every berth moved out of OPEN and ARMED
where one reached 3. -/
def Obligations.ObligationMinuteCounts : Prop :=
  ∀ s : State, ∃ t : State, exec .obligationMinute s = .next t ∧
    let cold := s.trip.weather.stale = true ∨ s.trip.weather.temp = none ∨
      ∃ c, s.trip.weather.temp = some c ∧ c < (match s.tables.header with | some h => h.coldLimit | none => 3)
    let base := fun k : TestKind => match s.tables.header, k with
      | some h, .eb => h.ebInterval
      | some h, .railA => h.railAInterval
      | some h, .railB => h.railBInterval
      | none, .eb => 480
      | none, _ => 1440
    let was := fun k => s.sched.obligations.get k
    let now := fun k => t.sched.obligations.get k
    (∀ k, (cold → (now k).effective = base k / 2) ∧ (¬cold → (now k).effective = base k) ∧
      ((now k).effective ≤ (was k).elapsed + 1 → (now k).elapsed = 0 ∧ (now k).debt = min ((was k).debt + 1) 3) ∧
      ((was k).elapsed + 1 < (now k).effective → (now k).elapsed = (was k).elapsed + 1 ∧ (now k).debt = (was k).debt)) ∧
    (∀ q, (t.links.get q).flags.getLsbD 4 = true ↔
      (s.links.get q).flags.getLsbD 4 = true ∨ ∃ k, (was k).debt < (now k).debt ∧ 1 ≤ (now k).debt) ∧
    (∀ q, (t.links.get q).flags.getLsbD 13 = true ↔
      (s.links.get q).flags.getLsbD 13 = true ∨ ∃ k, (was k).debt < 3 ∧ (now k).debt = 3) ∧
    ((∃ k, (was k).debt < 3 ∧ (now k).debt = 3) →
      ∀ b, (t.board.berths.get b).state ≠ .open ∧ (t.board.berths.get b).state ≠ .armed) ∧
    t.tables = s.tables ∧ t.track = s.track ∧ t.board.cars = s.board.cars ∧ t.sup.causes = s.sup.causes

/-! ### The track line (chapter 07) -/

/-- From R135, R139 and R142: a turn begins where the line is FREE and quiet and a turn is owed: first the out-of-turn list, then the regular turn, of kind
POLL in CONFIRM, COMPLETE and CHECK. The poll timer owes the next car a turn where none is owed; reaching FREE_INTERVAL while nobody
drives makes the line quiet and ends a jam.
The quiet time as one flag is deduced (log entry 30). -/
def Obligations.TurnBeginsOnTheFreeLine : Prop :=
  ∀ s : State,
    let kind := fun x => if (s.track.cars.get x).link = .confirm ∨ (s.track.cars.get x).link = .complete ∨ (s.track.cars.get x).link = .check
      then TurnKind.poll else .identify
    let open_ := s.track.phase = .free ∧ s.track.quiet = true ∧ s.track.othersDrive = false
    let selected := fun (x : Car) (o : Option Car) (l : List Car) => s.setTrack { s.track with
      phase := .select, quiet := false, unheard := false, owed := o, outOfTurn := l, turn := some ⟨x, kind x⟩
      acceptLimit := false, answerLimit := false, sent := .selection ⟨x, kind x⟩ }
    (¬open_ ∨ s.track.owed = none ∧ s.track.outOfTurn = [] → tryTurn s = s) ∧
    (∀ x l, open_ → s.track.outOfTurn = x :: l → tryTurn s = selected x s.track.owed l) ∧
    (∀ x, open_ → s.track.outOfTurn = [] → s.track.owed = some x → tryTurn s = selected x none []) ∧
    (s.track.owed = none → exec .pollTimerExpiry s = .next (tryTurn (s.setTrack { s.track with
      owed := some s.track.nextTurn, nextTurn := match s.track.nextTurn with | .a => .b | .b => .a }))) ∧
    (s.track.owed ≠ none → exec .pollTimerExpiry s = .next (tryTurn s)) ∧
    (s.track.driven = true → exec .freeIntervalReached s = .next s) ∧
    (s.track.driven = false → exec .freeIntervalReached s = .next (tryTurn (s.setTrack { s.track with
      quiet := true, phase := if s.track.phase = .jammed then .free else s.track.phase })))

/-- From R134, R136, R137, R141, R144, R152 and R153: the end of the selection starts the ACCEPT limit; the selected car's accept code, free of character error,
in a drive that began after the part released the line, sends the command block formed from the state as it stands (POLL) or starts the
answer limit (IDENTIFY, where a DOWN link enters LISTEN); the end of the command block starts the answer limit. In phase FREE a character that
is no valid call is a garbled call.
That a character nobody awaits changes nothing but the quiet time in every other phase is the model's choice (log entry 4). -/
def Obligations.ExchangeAdvances : Prop :=
  ∀ (x : Car) (s : State),
    let c := s.track.cars.get x
    let accept : LineChar := ⟨match x with | .a => 0x61 | .b => 0x62, true, true⟩
    let waiting := s.track.phase = .select ∧ s.track.acceptLimit = true ∧ s.track.unheard = false
    (s.track.phase = .select → s.track.acceptLimit = false →
      exec .selectionSent s = .next (s.setTrack { s.track with acceptLimit := true })) ∧
    (s.track.phase ≠ .select ∨ s.track.acceptLimit = true → exec .selectionSent s = .next s) ∧
    (waiting → s.track.turn = some ⟨x, .poll⟩ → exec (.acceptReceived accept) s = .next (settle s (s.setTrack { s.track with
      phase := .command, acceptLimit := false, quiet := false, unheard := s.track.othersDrive
      sent := .command {
        car := x, line := s.trip.line, number := s.trip.number, dir := s.commandDir, next := s.nextBerth x
        release := ⟨(s.doors.get x).releaseSet .left, (s.doors.get x).releaseSet .right⟩, close := (s.doors.get x).close
        order := s.sup.railOrder.get x
        railTest := decide (s.trip.line = .testing (match x with | .a => .railA | .b => .railB))
        standstill := s.rope.flag, confirm := decide (c.link = .confirm)
        digest := match c.ability with | some r => if c.link = .confirm then r.digest else 0 | none => 0 } }))) ∧
    (waiting → s.track.turn = some ⟨x, .identify⟩ → c.link ≠ .down →
      exec (.acceptReceived accept) s = .next (settle s (s.setTrack { s.track with
      phase := .status, acceptLimit := false, answerLimit := true, quiet := false }))) ∧
    (waiting → s.track.turn = some ⟨x, .identify⟩ → c.link = .down →
      exec (.acceptReceived accept) s = .next (settle s (raiseAll .carLink
      (s.setTrack { s.track with
        phase := .status, acceptLimit := false, answerLimit := true, quiet := false
        cars := s.track.cars.set x { c with link := .listen, silence := true, refusals := 0 } })))) ∧
    (∀ ch, ¬waiting → s.track.phase ≠ .free → exec (.acceptReceived ch) s = .next (s.setTrack { s.track with quiet := false })) ∧
    (∀ ch, s.track.phase = .free → callOf ch = none → exec (.acceptReceived ch) s = exec .garbledCall s) ∧
    (s.track.phase = .command → exec .commandBlockSent s = .next (s.setTrack { s.track with
      phase := .status, answerLimit := true, quiet := false })) ∧
    (s.track.phase ≠ .command → exec .commandBlockSent s = .next s)

/-- From R134, R136, R138, R148 and R152: a missed answer ends the turn and is counted on the selected car, but for a missed ACCEPT of a DOWN car in an IDENTIFY
turn; in a POLL turn it takes the link from COMPLETE to CHECK. The two limits' expiries miss it, and so does a complete answer that is
invalid: one character that is neither the selected car's accept code nor a call, and seventeen or fifteen characters of the awaited kind
with a character error or a failing address, check or digest. A limit that is stopped does nothing, and an answer in a drive that began
before the part released the line is not heard.
What counts as a complete answer is the model's reading (log entries 31, 32 and 61). -/
def Obligations.MissedAnswerEndsTheTurn : Prop :=
  ∀ (t : Turn) (s : State), s.track.turn = some t →
    let c := s.track.cars.get t.car
    let counted := if t.kind = .identify ∧ c.link = .down ∧ s.track.phase = .select then c
      else if c.missed < 65535 then { c with missed := c.missed + 1 } else { c with missedOverflow := true }
    let toCheck := t.kind = .poll ∧ c.link = .complete
    let ended := fun quiet => s.setTrack { s.track with
      phase := .free, turn := none, acceptLimit := false, answerLimit := false, quiet := quiet
      cars := s.track.cars.set t.car (if toCheck then { counted with link := .check } else counted) }
    let missed := fun quiet => settle s (tryTurn (if toCheck then raiseAll .carLink (ended quiet) else ended quiet))
    let invalid := settle (s.setTrack { s.track with quiet := false })
      (if toCheck then raiseAll .carLink (ended false) else ended false)
    let damaged := fun l : List LineChar => ∃ ch ∈ l, ch.stop = false ∨ ((byteBits ch.data ++ [ch.parity]).filter id).length % 2 = 1
    let accepting := s.track.phase = .select ∧ s.track.acceptLimit = true ∧ s.track.unheard = false
    let awaiting := s.track.answerLimit = true ∧ s.track.unheard = false
    (s.track.acceptLimit = true → exec .acceptLimitExpiry s = .next (missed s.track.quiet)) ∧
    (s.track.answerLimit = true → exec .answerLimitExpiry s = .next (missed s.track.quiet)) ∧
    (accepting ∨ awaiting → exec .invalidAnswerReceived s = .next invalid) ∧
    (∀ ch, accepting → damaged [ch] ∨ (ch.data ≠ t.car.acceptCode ∧ ch.data ≠ 0x71 ∧ ch.data ≠ 0x72) →
      exec (.acceptReceived ch) s = .next invalid) ∧
    (∀ l, awaiting → t.kind = .poll → damaged l ∨ parseStatus t.car (l.map LineChar.data) = none →
      exec (.statusBlockReceived l) s = .next invalid) ∧
    (∀ l, awaiting → t.kind = .identify → damaged l ∨ parseAbility t.car (l.map LineChar.data) = none →
      exec (.abilityRecordReceived l) s = .next invalid) ∧
    (s.track.acceptLimit = false → exec .acceptLimitExpiry s = .next s) ∧
    (s.track.answerLimit = false → exec .answerLimitExpiry s = .next s) ∧
    (s.track.unheard = true → s.track.phase ≠ .free → ∀ i ch l, i = .invalidAnswerReceived ∨ i = .acceptReceived ch ∨
      i = .statusBlockReceived l ∨ i = .abilityRecordReceived l → exec i s = .next (s.setTrack { s.track with quiet := false }))

/-- From R107, R147 to R149, R154, R155 and R161: a car's status block answering its POLL turn is kept with every field as sent, is FRESH, starts the
silence limit where the link is not DOWN, moves the link, rewrites the records of the leaves present and no others, and in a usable link
leaves its counts as the baselines; car overspeed orders both rail brakes, and an unlocked leaf with DRV_EN energised trips the line.
That the unlocked leaf's cause stands first where the block also reports overspeed is the model's choice (log entry 18). -/
def Obligations.StatusBlockIsTaken : Prop :=
  ∀ (x : Car) (k : StatusBlock) (s : State), s.track.answerLimit = true → s.track.unheard = false →
    s.track.turn = some ⟨x, .poll⟩ → ∃ t : State, exec (.statusBlockReceived ((statusBytes x k).map lineChar)) s = .next t ∧
      let c := s.track.cars.get x
      let v := t.track.cars.get x
      v.block = some k ∧
      v.link = (match c.link with
        | .confirm => if k.ack then .complete else if c.refusals + 1 < 3 then .confirm else .listen
        | .check => .complete
        | l => l) ∧
      v.fresh = true ∧ (c.link ≠ .down → v.silence = true) ∧ (c.link = .down → v.silence = c.silence) ∧
      v.refusals = (if c.link = .confirm ∧ k.ack = false then (if c.refusals + 1 < 3 then c.refusals + 1 else 0) else c.refusals) ∧
      v.baselines = (if v.link.usable then some (k.boarded, k.alighted) else c.baselines) ∧
      (v.reported, v.ability, v.missed, v.calls, v.window) = (c.reported, c.ability, c.missed, c.calls, c.window) ∧
      (t.track.phase, t.track.turn, t.track.answerLimit) = (.free, none, false) ∧
      t.track.cars.get x.other = s.track.cars.get x.other ∧
      (t.doors.get x).leaves = ⟨writeSide (s.present x .left) (s.doors.get x).leaves.left k.leaves.left,
        writeSide (s.present x .right) (s.doors.get x).leaves.right k.leaves.right⟩ ∧
      (k.overspeed = true → t.sup.railOrder = ⟨.trip, .trip⟩) ∧
      (s.sup.causes = [] → s.sup.drvEn = true → s.sideLocked x k .left = false ∨ s.sideLocked x k .right = false →
        t.trip.line = .tripped ∧ t.sup.causes.head? = some ⟨.doorUnlockedMoving, none⟩) ∧
      t.tables = s.tables ∧ t.now = s.now

/-- From R79 and R172 to R174. At a status block that takes no trip cause: with the link usable after it, a close order ends at its side's leaves all LOCKED, and
every present leaf is marked exactly where it is reported OPEN or MOVING without a close order then standing or a grant of its compartment; a
leaf newly marked raises DOOR_UNAUTHORISED on the drive port and the station of the berth where the car stands, or on all three ports where it
stands at none, and moves that berth out of OPEN and ARMED. A newly reported passenger alarm raises its notice, holds a trip outside HOLDING
and a move with no hold or service stop in hand, and does nothing else. The steps that wait follow.
The order of the judgements is the model's choice (log entry 18). -/
def Obligations.StatusBlockJudgesDoorsAndAlarm : Prop :=
  ∀ (x : Car) (k : StatusBlock) (s : State), s.track.answerLimit = true → s.track.unheard = false → s.track.turn = some ⟨x, .poll⟩ →
    k.overspeed = false → s.sup.drvEn = false ∨ s.sideLocked x k .left = true ∧ s.sideLocked x k .right = true →
    s.trip.moveRelease = false →
    ∃ t : State, exec (.statusBlockReceived ((statusBytes x k).map lineChar)) s = .next (settleWith true t) ∧
      let usable := (t.track.cars.get x).link = .complete ∨ (t.track.cars.get x).link = .check
      let c := s.doors.get x
      let v := t.doors.get x
      let opening := fun (d : Side) (i : Nat) =>
        (k.leaves.get d).toList.getD i .absent = .open ∨ (k.leaves.get d).toList.getD i .absent = .moving
      let granted := fun (d : Side) (i : Nat) => ∃ g, c.grants.get d = some g ∧ g.set.getLsbD i = true
      let newly := ∃ d, ∃ i < 6, (v.marks.get d).getLsbD i = true ∧ (c.marks.get d).getLsbD i = false
      let alarm := k.alarm = true ∧ (match (s.track.cars.get x).block with | some l => l.alarm | none => false) = false
      (∀ d, v.close.get d = (c.close.get d && !(decide usable && s.sideLocked x k d)) ∧ v.grants.get d = c.grants.get d) ∧
      (∀ d, ∀ i < 6, (v.marks.get d).getLsbD i = true ↔
        if usable ∧ (s.present x d).getLsbD i = true then opening d i ∧ v.close.get d = false ∧ ¬granted d i
        else (c.marks.get d).getLsbD i = true) ∧
      t.doors.get x.other = s.doors.get x.other ∧
      (∀ q, (t.links.get q).flags.getLsbD 17 = true ↔ (s.links.get q).flags.getLsbD 17 = true ∨
        newly ∧ (s.berthOf x = none ∨ q = .d ∨ ∃ b, s.berthOf x = some b ∧ q = b.station)) ∧
      (∀ b, newly → s.berthOf x = some b → (t.board.berths.get b).state = (s.board.berths.get b).moveOut.state) ∧
      (∀ b, ¬newly ∨ s.berthOf x ≠ some b → (t.board.berths.get b).state = (s.board.berths.get b).state) ∧
      (∀ q, (t.links.get q).flags.getLsbD 16 = true ↔ (s.links.get q).flags.getLsbD 16 = true ∨ alarm) ∧
      t.trip = (if alarm then
          match s.trip.line with
          | .running ph => if ph = .holding then s.trip
              else { s.trip with line := .running .holding, stop := .hold, holdCause := some .alarm }
          | .recovery true => if s.trip.stop = .hold ∨ s.trip.stop = .service then s.trip
              else { s.trip with stop := .hold, holdCause := some .alarm }
          | _ => s.trip
        else s.trip) ∧
      t.sup = s.sup

/-- From R155, R187 and R195 to R197. The counts of a status block that takes no trip cause: handed on only with the link usable after it. With no baselines
nothing is counted. FIRST deltas, those of the block that completed a bring-up, of which one is above 64 are discarded, and the car's count
becomes uncertain, with COUNT_UNCERTAIN where it was not. Otherwise the boarded delta leaves the pen of the berth where the car stands, its
excess counted with COUNT_UNCERTAIN, and joins the onboard count; then the alighted delta leaves the onboard count and joins the berth's
alighting count. -/
def Obligations.StatusBlockHandsOnCounts : Prop :=
  ∀ (x : Car) (k : StatusBlock) (s : State), s.track.answerLimit = true → s.track.unheard = false → s.track.turn = some ⟨x, .poll⟩ →
    k.overspeed = false → s.sup.drvEn = false ∨ s.sideLocked x k .left = true ∧ s.sideLocked x k .right = true →
    s.trip.moveRelease = false →
    ∃ t : State, exec (.statusBlockReceived ((statusBytes x k).map lineChar)) s = .next t ∧
      let c := s.track.cars.get x
      let usable := (t.track.cars.get x).link = .complete ∨ (t.track.cars.get x).link = .check
      let n := s.board.cars.get x
      let raised := ∀ q, (t.links.get q).flags.getLsbD 18 = true
      let kept := ∀ q, (t.links.get q).flags.getLsbD 18 = (s.links.get q).flags.getLsbD 18
      let figures := fun (b : Berth) (pen alighting excess : Nat) =>
        t.board.berths.get b = { s.board.berths.get b with
          state := (t.board.berths.get b).state, pen := pen, alighting := alighting, excess := excess }
      let unchanged := fun b => figures b (s.board.berths.get b).pen (s.board.berths.get b).alighting (s.board.berths.get b).excess
      t.board.cars.get x.other = s.board.cars.get x.other ∧
      (¬usable ∨ c.baselines = none → t.board.cars.get x = n ∧ kept ∧ ∀ b, unchanged b) ∧
      (∀ p, usable → c.baselines = some p →
        let boarded := (k.boarded.toNat + 256 - p.1.toNat) % 256
        let alighted := (k.alighted.toNat + 256 - p.2.toNat) % 256
        let discarded := c.link = .confirm ∧ (64 < boarded ∨ 64 < alighted)
        (discarded → t.board.cars.get x = ⟨n.onboard, true⟩ ∧ (∀ b, unchanged b) ∧ (n.uncertain = false → raised) ∧ (n.uncertain = true → kept)) ∧
        (¬discarded →
          t.board.cars.get x = ⟨min 255 (n.onboard + boarded) - alighted, n.uncertain⟩ ∧
          (∀ b, s.berthOf x ≠ some b → unchanged b) ∧ (s.berthOf x = none → kept) ∧
          ∀ b, s.berthOf x = some b →
            let v := s.board.berths.get b
            figures b (v.pen - boarded) (min 255 (v.alighting + alighted))
              (if v.pen < boarded then min 255 (v.excess + (boarded - v.pen)) else v.excess) ∧
            (v.pen < boarded → raised) ∧ (boarded ≤ v.pen → kept)))

/-- From R145 and R146 with R160: a valid ability record answering an IDENTIFY turn becomes the reported ability; in LISTEN it goes on to CONFIRM where the
tables are valid and it equals the expected record, which then becomes the car's ability with its leaf records laid out afresh, to MISMATCH
where it differs, and to ABILITY where the tables are not valid. In any other link state no comparison is made. -/
def Obligations.AbilityRecordIsCompared : Prop :=
  ∀ (x : Car) (r : Ability) (l : List Byte) (s : State), s.track.answerLimit = true → s.track.unheard = false →
    s.track.turn = some ⟨x, .identify⟩ → parseAbility x l = some r →
    ∃ t : State, exec (.abilityRecordReceived (l.map lineChar)) s = .next t ∧
      let c := s.track.cars.get x
      let v := t.track.cars.get x
      let matched := c.link = .listen ∧ s.tables.valid = true ∧ s.tables.expected x = some r
      v.reported = some r ∧ (c.link ≠ .down → v.silence = true) ∧ (c.link = .down → v.silence = c.silence) ∧
      v.link = (if c.link = .listen then
          (if s.tables.valid then (if s.tables.expected x = some r then .confirm else .mismatch) else .ability)
        else c.link) ∧
      (matched → v.ability = some r ∧ v.refusals = 0 ∧
        (t.doors.get x).leaves = ⟨layoutSide r.left, layoutSide r.right⟩) ∧
      (¬matched → v.ability = c.ability ∧ v.refusals = c.refusals ∧ (t.doors.get x).leaves = (s.doors.get x).leaves) ∧
      (v.block, v.baselines, v.fresh, v.missed, v.calls, v.window) = (c.block, c.baselines, c.fresh, c.missed, c.calls, c.window) ∧
      t.track.turn = none ∧ t.track.phase = .free ∧ t.track.answerLimit = false ∧
      t.track.cars.get x.other = s.track.cars.get x.other ∧ t.tables = s.tables ∧ t.now = s.now ∧ t.sup.causes = s.sup.causes

/-- From R134, R136, R140 to R142 and R152: a car's call code, free of character error, in FREE owes its car a turn and starts its window, or is counted while the
window runs; any other character, and any other drive in FREE, is a garbled call, one from car A, then one from car B. A drive starts the
drive limit and ends it, and is not heard as an answer where the part drives at its beginning, whether the answer or the end of its drive is
taken first; the limit's expiry jams the line: no turn in hand, the jam counted, every grant withdrawn.
That in any other phase a call is no more than a drive of the line (log entries 4 and 61) and a drive that begins while JAMMED (log entry 27) are
the model's choice; that every answer has its beginning as an event is deduced (log entry 64). -/
def Obligations.CallsAndDrivesOfOthers : Prop :=
  (∀ (x : Car) (s : State),
    let c := s.track.cars.get x
    let call : LineChar := ⟨match x with | .a => 0x71 | .b => 0x72, false, true⟩
    (s.track.phase = .free → c.window = false → exec (.callReceived call) s = .next (s.setTrack { s.track with
      quiet := false, cars := s.track.cars.set x { c with window := true }
      outOfTurn := if x ∈ s.track.outOfTurn then s.track.outOfTurn else s.track.outOfTurn ++ [x] })) ∧
    (s.track.phase = .free → c.window = true → exec (.callReceived call) s = .next (s.setTrack { s.track with
      quiet := false, cars := s.track.cars.set x { c with calls := min 255 (c.calls + 1) } })) ∧
    (s.track.phase ≠ .free → exec (.callReceived call) s = .next (s.setTrack { s.track with quiet := false })) ∧
    exec .garbledCall s = runCommands [.callReceived ⟨0x71, false, true⟩, .callReceived ⟨0x72, false, true⟩] s ∧
    (∀ ch, s.track.phase = .free → (∀ y, callOf ch ≠ some y) → exec (.callReceived ch) s = exec .garbledCall s) ∧
    (∀ ch y, callOf ch = some y ↔ ch = ⟨match y with | .a => 0x71 | .b => 0x72, false, true⟩) ∧
    exec (.callWindowExpiry x) s = .next (s.setTrack { s.track with cars := s.track.cars.set x { c with window := false } })) ∧
  (∀ s : State,
    (s.track.othersDrive = false → exec .trackDriveStart s = .next (s.setTrack { s.track with
      othersDrive := true, driveLimit := true, quiet := false
      unheard := decide (s.track.phase = .command ∨ s.track.phase = .select ∧ s.track.acceptLimit = false) })) ∧
    (s.track.othersDrive = true → exec .trackDriveStart s = .next s) ∧
    exec .trackDriveEnd s = .next (s.setTrack { s.track with othersDrive := false, driveLimit := false, quiet := false }) ∧
    (s.track.othersDrive = false →
      let early := { s.track with quiet := false, driveLimit := false, unheard := true }
      (∀ ch, s.track.phase = .select → s.track.acceptLimit = false →
        ∀ l ∈ [[Instr.acceptReceived ch, .trackDriveEnd], [.trackDriveEnd, .acceptReceived ch]],
          runCommands (.trackDriveStart :: .selectionSent :: l) s = .next (s.setTrack { early with acceptLimit := true })) ∧
      (∀ chars, s.track.phase = .command →
        ∀ l ∈ [[Instr.statusBlockReceived chars, .trackDriveEnd], [.trackDriveEnd, .statusBlockReceived chars]],
          runCommands (.trackDriveStart :: .commandBlockSent :: l) s =
            .next (s.setTrack { early with phase := .status, answerLimit := true }))) ∧
    (s.track.driveLimit = false → exec .driveLimitExpiry s = .next s) ∧
    (s.track.driveLimit = true → s.track.phase = .jammed →
      exec .driveLimitExpiry s = .next (s.setTrack { s.track with driveLimit := false })) ∧
    (s.track.driveLimit = true → s.track.phase ≠ .jammed → ∃ t : State,
      exec .driveLimitExpiry s = .next (settle s t) ∧
      t.track = { s.track with
        driveLimit := false, phase := .jammed, turn := none, acceptLimit := false, answerLimit := false
        jams := min 255 (s.track.jams + 1) } ∧
      t.anyGrant = false ∧ t.tables = s.tables ∧ t.rope = s.rope ∧ t.board.cars = s.board.cars ∧
      (s.lossTrips = true → t.sup = (takeCause .trackLineJammed none s).sup ∧ t.trip = (takeCause .trackLineJammed none s).trip) ∧
      (s.lossTrips = false → t.sup = s.sup ∧ t.trip = s.trip ∧ t.links = s.links)))

/-- From R106, R149, R154 and R169: the silence limit's expiry takes every link but one in MISMATCH to DOWN, which withdraws a usable car's grants and takes
CAR_LINK_LOST where DRV_EN is energised; the freshness limit's expiry ages the status block. A stopped silence limit does nothing. -/
def Obligations.SilenceTakesTheLinkDown : Prop :=
  ∀ (x : Car) (s : State),
    let c := s.track.cars.get x
    (c.silence = false → exec (.silenceLimitExpiry x) s = .next s) ∧
    (c.silence = true → c.link = .mismatch ∨ c.link = .down →
      exec (.silenceLimitExpiry x) s = .next (settle s (s.setTrack { s.track with cars := s.track.cars.set x { c with silence := false } }))) ∧
    (c.silence = true → c.link ≠ .mismatch → c.link ≠ .down → ∃ t : State,
      exec (.silenceLimitExpiry x) s = .next (settle s t) ∧
      t.track = { s.track with cars := s.track.cars.set x { c with silence := false, link := .down } } ∧
      (c.link.usable = true → (t.doors.get x).anyGrant = false) ∧
      (∀ q, (t.links.get q).flags.getLsbD 14 = true) ∧
      (s.lossTrips = true → s.sup.causes = [] → s.trip.line ≠ .tripped →
        t.trip.line = .tripped ∧ t.sup.causes = [⟨.carLinkLost, none⟩] ∧ t.anyGrant = false) ∧
      (s.lossTrips = false → t.trip = s.trip ∧ t.sup = s.sup) ∧
      t.tables = s.tables ∧ t.rope = s.rope ∧ t.board.cars = s.board.cars) ∧
    exec (.freshnessLimitExpiry x) s =
      .next (settle s (s.setTrack { s.track with cars := s.track.cars.set x { c with fresh := false } }))

/-- From R144: a link in DOWN enters LISTEN at a valid ACCEPT from its car in an IDENTIFY turn, which starts its silence limit, sets its confirm refusals to 0
and awaits the ability record; nothing but that character, as a transmission of one character, takes a link out of DOWN. -/
def Obligations.LinkLeavesDownByAcceptAlone : Prop :=
  ∀ (x : Car) (s : State), (s.track.cars.get x).link = .down →
    let accept : LineChar := ⟨match x with | .a => 0x61 | .b => 0x62, true, true⟩
    (s.track.phase = .select → s.track.acceptLimit = true → s.track.unheard = false → s.track.turn = some ⟨x, .identify⟩ →
      ∃ t : State, exec (.acceptReceived accept) s = .next t ∧ (t.track.cars.get x).link = .listen ∧ (t.track.cars.get x).silence = true ∧
        (t.track.cars.get x).refusals = 0 ∧ t.track.phase = .status ∧ t.track.answerLimit = true ∧ t.track.turn = s.track.turn) ∧
    ∀ (c : Instr) (t : State), exec c s = .next t → (t.track.cars.get x).link ≠ .down →
      (c = .acceptReceived accept ∨ c = .callReceived accept) ∧ s.track.phase = .select ∧ s.track.acceptLimit = true ∧
        s.track.unheard = false ∧ s.track.turn = some ⟨x, .identify⟩

/-! ### Doors (chapter 08) -/

/-- From R165 to R167, R170, R171 and R179: DOOR RELEASE in PARKED at a berth of the sending station, with every condition met, makes the grant, ends the side's close
order and clears the marks of its set, or answers with the grant already active. DOOR CLOSE, in every line state, leaves each named side
of the car at the berth, or of both cars where none is found, with no grant and, where it had one or has a leaf there, a close order. A body of
another form is refused BAD_ARGUMENT, a berth of the other station NOT_SERVING; the first condition of R166's table that fails refuses DOOR RELEASE with
INTERLOCK and its reason, codes 1 to 7. A grant's set is what R165 says.
That the conditions come before the answer of a grant already active, and the close orders' order, are deduced (log entries 35 and 54). -/
def Obligations.DoorsAreReleasedAndClosed : Prop :=
  ([.noCar, .alignment, .standstill, .brake, .noPlatform, .link, .noLeaf].map DoorReason.code = [1, 2, 3, 4, 5, 6, 7]) ∧
  (∀ (x : Car) (e : BerthEntry) (d : Side) (s : State), ∀ k < 8, (s.grantSet x e d).getLsbD k = true ↔
    k < 6 ∧ e.first ≤ k + 1 ∧ k + 1 ≤ e.last ∧ ∃ r, (s.track.cars.get x).ability = some r ∧ (r.leaves d).getLsbD k = true) ∧
  (∀ (p : Port) (b : Berth) (d : Side) (s : State), p ≠ .d → s.portFree p →
    let refused := fun (r : Request) (body : List Byte) (c : Result) (v : ReplyData) =>
      exec (r.command p body) s = .next (s.answering p r body c v)
    let body := [byteOf b.idx, match d with | .left => 1#8 | .right => 2#8]
    let reason := fun (r : DoorReason) => refused .doorRelease body .interlock (.doorReason r)
    (∀ set : Byte, 1 ≤ set.toNat → set.toNat ≤ 3 → b.station ≠ p → refused .doorClose [byteOf b.idx, set] .notServing .none) ∧
    (∀ l : List Byte, (∀ y z, l = [y, z] → 3 < y.toNat ∨ z = 0 ∨ 3 < z.toNat) → refused .doorClose l .badArgument .none) ∧
    (s.trip.line = .parked →
      (∀ l : List Byte, (∀ y z, l = [y, z] → 3 < y.toNat ∨ z ≠ 1 ∧ z ≠ 2) → refused .doorRelease l .badArgument .none) ∧
      (b.station ≠ p → refused .doorRelease body .notServing .none) ∧
      (b.station = p → (∀ x, ¬StandsAt s x b) → reason .noCar) ∧
      ∀ (x : Car) (e : BerthEntry), b.station = p → StandsAt s x b → s.berthEntry b = some e →
        let aligned := (s.doors.get x).alignment = .aligned ∧ s.rope.switches.get b = true ∧ |s.pos x - e.position| ≤ 150
        (¬aligned → reason .alignment) ∧
        (aligned → s.rope.flag = false → reason .standstill) ∧
        (aligned → s.rope.flag = true → s.sup.sbFb = true → reason .brake) ∧
        (aligned → s.rope.flag = true → s.sup.sbFb = false →
          (e.sides.getLsbD d.bit = false → reason .noPlatform) ∧
          (e.sides.getLsbD d.bit = true → (s.track.cars.get x).link ≠ .complete → reason .link) ∧
          (e.sides.getLsbD d.bit = true → (s.track.cars.get x).link = .complete → s.grantSet x e d = 0 → reason .noLeaf)))) ∧
  (∀ (p : Port) (b : Berth) (x : Car) (d : Side) (e : BerthEntry) (s : State), s.portFree p → s.trip.line = .parked → b.station = p →
    s.carAt b = some x → s.berthEntry b = some e → (s.doors.get x).alignment = .aligned → s.alignedAt x b = true → s.rope.flag = true →
    s.sup.sbFb = false → memberAt e.sides d.bit = true → (s.track.cars.get x).link = .complete → s.grantSet x e d ≠ 0 →
    let body := [byteOf b.idx, match d with | .left => 1#8 | .right => 2#8]
    let c := s.doors.get x
    (c.grants.get d = none → exec (.doorRelease p body) s = .next ((s.setDoors x { c with
      grants := c.grants.set d (some ⟨b, s.grantSet x e d, s.trip.number, .request p⟩)
      close := c.close.set d false
      marks := c.marks.set d (c.marks.get d &&& ~~~s.grantSet x e d) }).answering p .doorRelease body .done
        (.grant x d (s.grantSet x e d)))) ∧
    (∀ g, c.grants.get d = some g →
      exec (.doorRelease p body) s = .next (s.answering p .doorRelease body .done (.grant x d g.set)))) ∧
  (∀ (p : Port) (b : Berth) (set : Byte) (s : State), s.portFree p → b.station = p → 1 ≤ set.toNat → set.toNat ≤ 3 →
    ∃ t : State, exec (.doorClose p [byteOf b.idx, set]) s =
        .next ((settle s t).answering p .doorClose [byteOf b.idx, set] .done (.closeOrders (t.doors.map fun c => c.close))) ∧
      (∀ x d, let c := s.doors.get x; let v := t.doors.get x
        if memberAt set d.bit = true ∧ (s.carAt b = some x ∨ s.carAt b = none) then
          v.grants.get d = none ∧ v.close.get d = (c.close.get d || (c.grants.get d).isSome || s.present x d != 0)
        else v.grants.get d = c.grants.get d ∧ v.close.get d = c.close.get d) ∧
      (∀ x, (t.doors.get x).leaves = (s.doors.get x).leaves ∧ (t.doors.get x).marks = (s.doors.get x).marks ∧
        (t.doors.get x).alignment = (s.doors.get x).alignment) ∧
      (∀ k, t.board.berths.get k = s.board.berths.get k ∨ t.board.berths.get k = (s.board.berths.get k).moveOut) ∧
      t.board.cars = s.board.cars ∧ { t with doors := s.doors, board := s.board } = s)

/-! ### Boarding (chapter 09) -/

/-- From R179 to R184: BOARDING OPEN in PARKED, outside INSPECTION and unrestricted, at a berth of the station whose car holds a grant, arms a CLOSED or SEALED
berth and opens it at once where its alighting count allows; an ARMED or OPEN berth is left. BOARDING CLOSE moves OPEN to SEALED, or to
CLOSING with admissions pending, and ARMED to CLOSED. A body of another form is refused BAD_ARGUMENT, a berth of the other station NOT_SERVING; BOARDING OPEN
in PARKED is refused, in this order, WRONG_STATE in INSPECTION, RESTRICTED while some debt is 3, INTERLOCK with no car at the berth or no grant for
it, and BUSY in CLOSING.
That the conditions come before the answer of a berth already OPEN or ARMED is deduced (log entry 35), and the body of that answer is the
model's choice (log entry 60). -/
def Obligations.BoardingOpensAndCloses : Prop :=
  (∀ (p : Port) (b : Berth) (s : State), p ≠ .d → s.portFree p →
    let refused := fun (r : Request) (body : List Byte) (c : Result) =>
      exec (r.command p body) s = .next (s.answering p r body c .none)
    let body := [byteOf b.idx]
    let restricted := ∃ k, (s.sched.obligations.get k).debt = 3
    (∀ l : List Byte, (∀ y, l = [y] → 3 < y.toNat) →
      refused .boardingClose l .badArgument ∧ (s.trip.line = .parked → refused .boardingOpen l .badArgument)) ∧
    (b.station ≠ p → refused .boardingClose body .notServing ∧ (s.trip.line = .parked → refused .boardingOpen body .notServing)) ∧
    (b.station = p → s.trip.line = .parked →
      (s.trip.mode = .inspection → refused .boardingOpen body .wrongState) ∧
      (s.trip.mode ≠ .inspection → restricted → refused .boardingOpen body .restricted) ∧
      (s.trip.mode ≠ .inspection → ¬restricted → (∀ x, StandsAt s x b → ∀ d, (s.doors.get x).grants.get d = none) →
        refused .boardingOpen body .interlock))) ∧
  ∀ (p : Port) (b : Berth) (s : State), s.portFree p → b.station = p →
    let v := s.board.berths.get b
    let body := [byteOf b.idx]
    (∀ x, s.trip.line = .parked → s.trip.mode ≠ .inspection → (∀ k, (s.sched.obligations.get k).debt ≠ 3) → s.carAt b = some x →
      (∃ d, (s.doors.get x).grants.get d ≠ none) →
      (v.state = .closed ∨ v.state = .sealed →
        let n := if v.alighting ≤ s.alightAllow then BoardingState.open else .armed
        exec (.boardingOpen p body) s =
          .next ((s.setBoard b { v with state := n }).answering p .boardingOpen body .done (.boarding n (s.quota b)))) ∧
      (v.state = .open ∨ v.state = .armed →
        exec (.boardingOpen p body) s = .next (s.answering p .boardingOpen body .done (.boarding v.state (s.quota b)))) ∧
      (v.state = .closing → exec (.boardingOpen p body) s = .next (s.answering p .boardingOpen body .busy .none))) ∧
    (let n := match v.state with
        | .open => if v.pending = [] then BoardingState.sealed else .closing
        | .armed => .closed
        | st => st
      exec (.boardingClose p body) s =
        .next ((settle s (s.setBoard b { v with state := n })).answering p .boardingClose body .done (.boardingState n)))

/-- R188: the first rule that names the berth and agrees with the class code in every bit outside its ignore set decides: the admission passes where that
rule admits and its limit holds the group, and fails where it does not or no rule matches. -/
def Obligations.FirstMatchingRuleDecides : Prop :=
  ∀ (l : List RuleEntry) (code : Byte) (b : Berth) (group : Nat),
    let matching := fun r : RuleEntry => r.berths.getLsbD b.idx = true ∧
      ∀ i < 8, r.ignore.getLsbD i = false → code.getLsbD i = r.classValue.getLsbD i
    (passesRules l code b group = true ↔
      ∃ before r after, l = before ++ r :: after ∧ (∀ q ∈ before, ¬matching q) ∧ matching r ∧ r.action = 1 ∧ group ≤ r.limit)

/-- From R179, R185, R186, R189 and R190: the quota of a berth is what the capacity of the car that stands there leaves after its onboard count and the
berth's pen and reserved counts, and 0 at an uncertain count or with no car; the capacity is the sum of the compartments', 0 with no car ability. An
ADMIT that passes the five checks appends its record with its window, and answers GRANTED with the quota less the group; one refused
for its quota counts that and raises QUOTA_FULL on the sending port and the drive port; each other check gives its own refusal and changes
nothing. -/
def Obligations.AdmissionIsWithinTheQuota : Prop :=
  (∀ (b : Berth) (s : State),
    let v := s.board.berths.get b
    (∀ x, s.carAt b = some x ↔ StandsAt s x b) ∧
    (∀ x, StandsAt s x b →
      let c := s.board.cars.get x
      let capacity := match (s.track.cars.get x).ability with
        | some r => (r.capacities.toList.map BitVec.toNat).sum
        | none => 0
      (c.uncertain = false → (s.quota b : Int) = max 0 ((capacity : Int) - c.onboard - v.pen - ((v.pending.map fun r => r.group).sum : Nat))) ∧
      (c.uncertain = true → s.quota b = 0)) ∧
    ((∀ x, ¬StandsAt s x b) → s.quota b = 0)) ∧
  ∀ (p : Port) (g : Nat) (code : Byte) (group : Nat) (s : State), p ≠ .d → s.portFree p → g ≤ 7 → 1 ≤ group → group ≤ 8 →
    let body := [byteOf g, code, byteOf group]
    let i := if p = .us then 8 + g else g
    let held := ∃ k, ∃ r ∈ (s.board.berths.get k).pending, r.gate = i
    let refused := fun (c : Result) => exec (.admission p body) s = .next (s.answering p .admission body c .none)
    ((s.gate p g).kind ≠ 1 → refused .badArgument) ∧
    (∀ b, (s.gate p g).kind = 1 → Berth.ofCode (s.gate p g).berth = some b →
      let v := s.board.berths.get b
      (v.state ≠ .open → refused .boardingClosed) ∧
      (v.state = .open → held → refused .gateBusy) ∧
      (v.state = .open → ¬held → passesRules s.tables.rules code b group = false → refused .rule) ∧
      (v.state = .open → ¬held → passesRules s.tables.rules code b group = true → s.quota b < group →
        exec (.admission p body) s = .next ((raiseOn .quotaFull .d (raiseOn .quotaFull p (s.setBoard b { v with
          quotaRefused := min 255 (v.quotaRefused + 1) }))).answering p .admission body .quota (.quota (s.quota b)))) ∧
      (v.state = .open → ¬held → passesRules s.tables.rules code b group = true → group ≤ s.quota b →
        exec (.admission p body) s = .next ((s.setBoard b { v with
          pending := v.pending ++ [⟨i, group, s.now + s.passageWindow * 1000000⟩] }).answering p .admission body .granted
            (.admitted b group s.passageWindow (s.quota b - group)))))

/-- From R191 to R194: a PASSAGE at an ENTRY gate with a pending record settles it and counts into the pen; with none it is counted as late, with LATE_PASSAGE on
the sending port and the drive port; one at an EXIT gate lowers the alighting count and may open an ARMED berth. The end of a window removes
the oldest record. A CLOSING berth whose list empties is SEALED.
That the window's end takes the oldest record is deduced (log entry 20). -/
def Obligations.PassagesAreCounted : Prop :=
  let settled := fun (w : BerthBoard) => if w.state = .closing ∧ w.pending = [] then { w with state := .sealed } else w
  (∀ (p : Port) (g n : Nat) (b : Berth) (s : State), p ≠ .d → s.portFree p → g ≤ 7 → n ≤ 8 → Berth.ofCode (s.gate p g).berth = some b →
    let body := [byteOf g, byteOf n]
    let i := if p = .us then 8 + g else g
    let v := s.board.berths.get b
    let without := fun (w : BerthBoard) => settled { w with pending := w.pending.eraseP fun r => r.gate == i }
    let pen := min 255 (v.pen + n)
    ((s.gate p g).kind = 1 → ∀ k, s.holder i = some k → ∃ t : State,
      exec (.passage p body) s = .next ((settle s t).answering p .passage body .done (.counted b pen)) ∧
      { t with board := s.board } = s ∧ t.board.cars = s.board.cars ∧
      ∀ c, t.board.berths.get c =
        let w := if c = k then without (s.board.berths.get c) else s.board.berths.get c
        if c = b then { w with pen := pen } else w) ∧
    ((s.gate p g).kind = 1 → s.holder i = none →
      exec (.passage p body) s = .next ((settle s (raiseOn .latePassage .d (raiseOn .latePassage p (s.setBoard b { v with
        pen := pen, late := min 255 (v.late + 1) })))).answering p .passage body .late (.counted b pen))) ∧
    ((s.gate p g).kind = 2 →
      let a := v.alighting - n
      exec (.passage p body) s = .next ((settle s (s.setBoard b { v with
        alighting := a, state := if v.state = .armed ∧ a ≤ s.alightAllow then .open else v.state })).answering p .passage body .done
          (.counted b a)))) ∧
  ∀ (b : Berth) (s : State),
    let v := s.board.berths.get b
    (v.pending = [] → exec (.passageWindowExpiry b) s = .next s) ∧
    (v.pending ≠ [] → exec (.passageWindowExpiry b) s = .next (settle s (s.setBoard b (settled { v with pending := v.pending.tail }))))

/-- From R198: STATION CLEAR at a berth that is neither OPEN nor ARMED empties its pen and alighting counts and its pending list; with car-empty, at a terminus whose
car holds a grant, the car's onboard count becomes 0 and its uncertain flag clear. Its conditions refuse it in their order. -/
def Obligations.StationIsCleared : Prop :=
  ∀ (p : Port) (b : Berth) (s : State), s.portFree p → b.station = p →
    let v := s.board.berths.get b
    let body := fun (n : Byte) => [byteOf b.idx, n]
    let cleared := s.setBoard b { v with pen := 0, alighting := 0, pending := [], state := if v.state = .closing then .sealed else v.state }
    let refused := fun (n : Byte) (c : Result) => exec (.stationClear p (body n)) s = .next (s.answering p .stationClear (body n) c .none)
    let taken := fun (n : Byte) (t : State) => exec (.stationClear p (body n)) s = .next ((settle s t).answering p .stationClear (body n)
      .done (.boarding (t.board.berths.get b).state (t.quota b)))
    (b = .b1 ∨ b = .b2 → refused 1 .badArgument) ∧
    (v.state = .open ∨ v.state = .armed → refused 0 .interlock) ∧
    (b = .b0 ∨ b = .b3 → v.state = .open ∨ v.state = .armed → refused 1 .interlock) ∧
    (v.state ≠ .open → v.state ≠ .armed → taken 0 cleared) ∧
    (b = .b0 ∨ b = .b3 → v.state ≠ .open → v.state ≠ .armed →
      (s.carAt b = none → refused 1 .interlock) ∧
      ∀ x, s.carAt b = some x →
        ((s.doors.get x).anyGrant = false → refused 1 .interlock) ∧
        ((s.doors.get x).anyGrant = true →
          taken 1 { cleared with board := { cleared.board with cars := s.board.cars.set x ⟨0, false⟩ } }))

/-! ### The rope (chapter 02) -/

/-- From 00_scope, "Arithmetic", and R205: isqrt is exact; round_half_away gives a nearest integer and away from zero at a half; the CRC-8 starts at 0, takes each
byte most significant bit first through the polynomial x^8 + x^2 + x + 1, bit by bit, with no final inversion, and is 0 over a list followed
by its own CRC-8. -/
def Obligations.ArithmeticIsExact : Prop :=
  (∀ n < 2 ^ 80, isqrt n * isqrt n ≤ n ∧ n < (isqrt n + 1) * (isqrt n + 1)) ∧
  (∀ (n : Int) (d : Nat), 0 < d →
    2 * |roundHalfAway n d * d - n| ≤ d ∧ (2 * |roundHalfAway n d * d - n| = d → |n| ≤ |roundHalfAway n d * d|)) ∧
  crc8 [] = 0 ∧
  (∀ (l : List Byte) (b : Byte), ∃ r : Nat → Byte, r 0 = crc8 l ^^^ b ∧ r 8 = crc8 (l ++ [b]) ∧
    ∀ i < 8, ∀ j < 8, (r (i + 1)).getLsbD j =
      ((decide (0 < j) && (r i).getLsbD (j - 1)) ^^ ((r i).getLsbD 7 && decide (j = 0 ∨ j = 1 ∨ j = 2)))) ∧
  ∀ l : List Byte, crc8 (l ++ [crc8 l]) = 0

/-- From R19, R22, R23 and R29: a count step toggles its phase line and moves its own channel's count by the direction that the two levels then give, within the
count's range; it records its time and direction, restarts the gap limit, and appends its period but at a first step, after an emptying and
at a reversal. Channel 1 sets the rope direction, and clears the standstill flag beyond 5 mm.
The time a step carries and a period of at least 1 are the model's choice (log entries 15 and 16). -/
def Obligations.CountStepMovesTheCount : Prop :=
  ∀ (ch : Chan) (line : PhaseLine) (at_ : Nat) (s : State), ∃ t : State, exec (.countStep ch line at_) s = .next t ∧
    let c := s.rope.chans.get ch
    let v := t.rope.chans.get ch
    let time := max s.now at_
    let plus := match line with
      | .a => decide (v.levelA ≠ v.levelB)
      | .b => decide (v.levelA = v.levelB)
    let dir := if plus then Dir.up else .down
    t.now = time ∧
    (v.levelA, v.levelB) = (match line with | .a => (!c.levelA, c.levelB) | .b => (c.levelA, !c.levelB)) ∧
    v.count = max (-2147483648) (min 2147483647 (c.count + if plus then 1 else -1)) ∧
    v.last = some ⟨time, dir⟩ ∧ v.gap = true ∧ v.restart = false ∧ v.errors = c.errors ∧
    (∀ m, c.last = some m → c.restart = false → m.dir = dir →
      v.periods = (c.periods ++ [max 1 (min 250000 (time - m.time))]).drop (c.periods.length - 3)) ∧
    (c.last = none ∨ c.restart = true ∨ (∃ m, c.last = some m ∧ m.dir ≠ dir) → v.periods = []) ∧
    (∀ other, other ≠ ch → t.rope.chans.get other = s.rope.chans.get other) ∧
    t.rope.dir = (if ch = .ch1 then dir else s.rope.dir) ∧
    t.rope.flag = (s.rope.flag && !(decide (ch = .ch1) && decide (5 < distance t.coord s.rope.sRef))) ∧
    t.rope.sRef = s.rope.sRef ∧ t.rope.base = s.rope.base ∧ t.rope.base2 = s.rope.base2 ∧ t.rope.offs = s.rope.offs ∧
    t.tables = s.tables ∧ t.track = s.track ∧ t.board.cars = s.board.cars

/-- From R26, R102 to R104, R125, R129 and R130. At a step of channel 1 with no cause listed before it, s being the coordinate after the step: coordinates apart by
more than 400 mm give ENCODER_DISAGREE; ROLLAWAY is taken exactly where the watch's anchor lies more than 50 mm away, DOOR_ZONE_MOVEMENT
exactly where a grant was active and s_ref lies more than 30 mm away, and WRONG_DIRECTION where s lies more than 100 mm behind the reach of
the direction watch, whose reach goes with the furthest s. A step that takes no cause is judged by the test in hand: an emergency brake test
fails beyond 20 mm from its anchor, a rail test makes its rail brake order at 3000 mm from its creep start, and fails beyond 1500 mm from its
order anchor.
That a test of a kind is in hand exactly while the line is TESTING of that kind is the law of StepKeepsTheTargetAndTestLaws.
The order of these judgements is the model's choice (log entry 18); that a grant active before the step counts although the step withdraws it
(log entry 41), and that an order of TRIP stands against a test's (log entry 43), are deduced. -/
def Obligations.CountStepIsWatched : Prop :=
  ∀ (line : PhaseLine) (at_ : Nat) (s : State), s.sup.causes = [] → s.trip.line ≠ .tripped →
    ∃ t : State, exec (.countStep .ch1 line at_) s = .next t ∧
      let listed := fun c : Cause => ∃ e ∈ t.sup.causes, e.cause = c
      let off := fun a : Int => (t.coord - a).natAbs
      let apart := 400 < (t.coord - t.coord2).natAbs
      let reached : DirWatch → Int := fun w => match w.dir with | .up => t.coord - w.reach | .down => w.reach - t.coord
      (listed .encoderDisagree ↔ apart) ∧
      (listed .rollaway ↔ ∃ a, s.sup.rollaway = some a ∧ 50 < off a) ∧
      (listed .doorZoneMovement ↔ s.anyGrant = true ∧ 30 < off s.rope.sRef) ∧
      (∀ w, ¬apart → s.sup.rollaway = none → s.sup.dirWatch = some w → (listed .wrongDirection ↔ reached w < -100)) ∧
      (∀ w, ¬apart → s.sup.rollaway = none → s.sup.dirWatch = some w → (∀ k g, s.sched.test = some (k, g) → s.trip.line = .testing k) →
        s.sup.sbRel = true → t.sup.sbRel = true →
        t.sup.dirWatch = some { w with reach := if 0 < reached w then t.coord else w.reach }) ∧
      (t.sup.causes ≠ [] → t.trip.line = .tripped ∧ t.sup.ebRel = false ∧ t.sup.sbRel = false ∧ t.sup.drvEn = false) ∧
      (t.sup.causes = [] →
        (∀ g, s.trip.line = .testing .eb → s.sched.test = some (.eb, g) → g = .applying ∨ g = .window →
          let m := min 65535 (max s.sched.largest (off s.sched.anchor))
          (20 < off s.sched.anchor → t.sched.lastTest = some ⟨.eb, .fail, m, 3⟩ ∧ t.sched.obligations.eb.debt = 3 ∧
            t.sup.sbRel = false ∧ t.sup.drvEn = false ∧ t.sched.windowLimit = false) ∧
          (off s.sched.anchor ≤ 20 → g = .window → t.sched = { s.sched with largest := m })) ∧
        (∀ k, k ≠ .eb → s.trip.line = .testing k → s.sched.test = some (k, .creep) →
          let x : Car := match k with | .railB => .b | _ => .a
          (3000 ≤ off s.sched.creepStart →
            t.sched = { s.sched with test := some (k, .braking), orderAnchor := t.coord, creepLimit := false, brakeLimit := true } ∧
            t.sup.railOrder = s.sup.railOrder.set x (if s.sup.railOrder.get x = .trip then .trip else .test) ∧
            t.sup.drvEn = false ∧ t.sup.sbRel = s.sup.sbRel ∧ t.sup.ebRel = s.sup.ebRel ∧ t.trip.held = 0 ∧ t.trip.forming = 0 ∧
            t.trip.frame.speed = 0 ∧ t.trip.frameCount = (s.trip.frameCount + 1) % 256) ∧
          (off s.sched.creepStart < 3000 → t.sched = s.sched ∧ t.sup.railOrder = s.sup.railOrder)) ∧
        (∀ k, k ≠ .eb → s.trip.line = .testing k → s.sched.test = some (k, .braking) →
          let n := off s.sched.orderAnchor
          (1500 < n → t.sched.lastTest = some ⟨k, .fail, min 65535 n, 3⟩ ∧ (t.sched.obligations.get k).debt = 3 ∧ t.sup.sbRel = false ∧
            t.sched.brakeLimit = false) ∧
          (n ≤ 1500 → t.sched = { s.sched with largest := min 65535 (max s.sched.largest n) })))

/-- From R19, R23, R24 and R28: a quadrature error counts itself and empties its channel's history, and the end of the gap limit empties it; either leaves the
channel's speed 0 and the counts as they were. The end of the dwell sets the standstill flag and takes s_ref. Limits that are stopped do
nothing. -/
def Obligations.HistoryIsEmptiedAndRopeStands : Prop :=
  ∀ (ch : Chan) (s : State),
    let c := s.rope.chans.get ch
    (∃ t : State, exec (.quadratureError ch) s = .next t ∧
      t.rope.chans = s.rope.chans.set ch { c with
        levelA := !c.levelA, levelB := !c.levelB, periods := [], restart := true, errors := min 255 (c.errors + 1) } ∧
      t.speed ch = 0 ∧ t.coord = s.coord ∧ t.coord2 = s.coord2 ∧ t.rope.flag = s.rope.flag ∧ t.tables = s.tables ∧ t.track = s.track) ∧
    (c.gap = true → ∃ t : State, exec (.standstillGapExpiry ch) s = .next t ∧
      t.rope.chans = s.rope.chans.set ch { c with periods := [], restart := true, gap := false } ∧
      t.speed ch = 0 ∧ t.coord = s.coord ∧ t.coord2 = s.coord2 ∧ t.rope.flag = s.rope.flag ∧ t.tables = s.tables ∧ t.track = s.track ∧
      (s.vSup ≠ 0 → t.vSup = 0 → s.rope.flag = false → t.rope.dwell = true)) ∧
    (c.gap = false → exec (.standstillGapExpiry ch) s = .next s) ∧
    (s.rope.dwell = true → ∃ t : State, exec .standstillDwellExpiry s = .next t ∧
      t.rope = { s.rope with flag := true, sRef := s.coord, dwell := false, certainty := t.rope.certainty } ∧
      t.tables = s.tables ∧ t.track = s.track ∧ t.board.cars = s.board.cars ∧ t.sup.causes = s.sup.causes) ∧
    (s.rope.dwell = false → exec .standstillDwellExpiry s = .next s)

/-- From R30 to R35: an edge changes its input's level. An attributed active edge with one candidate corrects that car's offset by an error of up to 300 mm, clamped
to ±2000, and settles certainty; a larger error is rejected as UNCERTAIN with POSITION; with no candidate or two it is spurious. An establishing
edge in UNKNOWN puts the arriving car at the edge with zero offsets and makes certainty KNOWN. A car is a candidate within the window of the edge
position, its error that position less its own: at a berth switch zone_lo for a car that ascends and zone_hi for one that descends, within 2000 mm; at a free
marker the position and window of the entry that names the input, for the cars it allows. An edge establishes where a recovery move is in motion to a terminus:
at the switch of car A's target for car A, at its mirror for car B.
What establishment moves with the bases is deduced (log entry 26). -/
def Obligations.MarkerEdgeCorrectsThePosition : Prop :=
  ∀ (m : MarkerInput) (s : State),
    let u := setLevel m true s
    (∀ (x : Car) (v : Int), s.edgeError m x = some v ↔ ∃ (p : Int) (window : Nat), v = p - s.pos x ∧ |p - s.pos x| ≤ window ∧
      match m with
      | .switch b => window = 2000 ∧ ∃ e, s.berthEntry b = some e ∧ p = if s.rope.dir = .up ↔ x = .a then e.zoneLo else e.zoneHi
      | .free i => ∃ l e, s.tables.markers = some l ∧ l.find? (fun e => e.input == match i with | .m4 => 4 | .m5 => 5 | .m6 => 6 | .m7 => 7) = some e ∧
          (e.car = 3 ∨ e.car = 1 ∧ x = .a ∨ e.car = 2 ∧ x = .b) ∧ p = e.position ∧ window = e.window) ∧
    (∀ x b, s.establishing m = some (x, b) ↔ m = .switch b ∧ s.trip.line = .recovery true ∧ ∃ r, s.trip.record = some r ∧
      (r.target.a = .b0 ∨ r.target.a = .b3) ∧ (x = .a ∧ b = r.target.a ∨ x = .b ∧ b = r.target.a.mirror)) ∧
    (∀ v, s.level m = v → exec (.markerEdge m v) s = .next s) ∧
    (s.level m = true → exec (.markerEdge m false) s = .next (settle s (setLevel m false s)) ∧ (setLevel m false s).level m = false) ∧
    (s.level m = false → u.level m = true ∧
      (s.rope.certainty ≠ .unknown → s.rope.flag = true ∨ s.tables.valid = false → exec (.markerEdge m true) s = .next (settle s u)) ∧
      (s.rope.certainty ≠ .unknown → s.rope.flag = false → s.tables.valid = true →
        (∀ x e, s.edgeError m x = some e → s.edgeError m x.other = none →
          (300 < |e| → exec (.markerEdge m true) s =
            .next (settle s (raiseAll .position { u with rope := { u.rope with certainty := .uncertain } }))) ∧
          (|e| ≤ 300 → -2000 ≤ s.rope.offs.get x + e → s.rope.offs.get x + e ≤ 2000 → exec (.markerEdge m true) s =
            .next (settle s { u with rope := { u.rope with
              offs := s.rope.offs.set x (s.rope.offs.get x + e), certainty := .known } })) ∧
          (|e| ≤ 300 → s.rope.offs.get x + e < -2000 ∨ 2000 < s.rope.offs.get x + e →
            let t : State := { u with rope := { u.rope with
              offs := s.rope.offs.set x (if s.rope.offs.get x + e < 0 then -2000 else 2000), certainty := .uncertain } }
            exec (.markerEdge m true) s = .next (settle s (if s.rope.certainty = .known then raiseAll .position t else t)))) ∧
        ((s.edgeError m .a).isSome = (s.edgeError m .b).isSome → exec (.markerEdge m true) s =
          .next (settle s { u with rope := { u.rope with spurious := min 65535 (s.rope.spurious + 1) } }))) ∧
      (s.rope.certainty = .unknown → s.establishing m = none → exec (.markerEdge m true) s = .next (settle s u)) ∧
      (∀ x b h e, s.rope.certainty = .unknown → s.establishing m = some (x, b) → s.tables.header = some h → s.berthEntry b = some e →
        ∃ t : State, exec (.markerEdge m true) s = .next (settle s t) ∧
          t.pos x = (if b = .b3 then e.zoneLo else e.zoneHi) ∧ t.rope.offs = ⟨0, 0⟩ ∧ t.rope.certainty = .known ∧
          t.coord - s.coord = t.coord2 - s.coord2 ∧ t.rope.sRef - s.rope.sRef = t.coord - s.coord ∧
          t.rope.chans = s.rope.chans ∧ t.tables = s.tables ∧ t.track = s.track))

/-! ### The resets -/

/-- From R18, R40, R58, R59, R114, R115, R133, R158, R159, R177, R201, R202, R218 and R219: what the two resets leave. Inputs stand at both: phase lines, marker inputs,
brake feedback, straps, and the drive of the track line by others. A line reset keeps the tables, the measurement but for certainty KNOWN,
every counter, the weather, the mode, the trip number and the learned offsets.
The inputs and the registers without a reset value (log entries 5, 6, 28 and 29), and the direction of a line reset's setpoint frame (log entry
56), are the model's choice. -/
def Obligations.ResetsLeaveTheirValues : Prop :=
  ∀ s : State,
    (∃ t : State, exec .powerOn s = .next t ∧
      t.tables = .reset ∧ t.trip = .reset ∧ t.sched = .reset ∧ t.doors = ⟨.reset, .reset⟩ ∧ t.board = .reset ∧
      t.sup.ebRel = false ∧ t.sup.sbRel = false ∧ t.sup.drvEn = false ∧ t.sup.causes = [] ∧ t.sup.lastTrip = none ∧
      t.sup.ebLimit = s.sup.ebFb ∧ t.sup.sbLimit = s.sup.sbFb ∧ t.sup.ebFb = s.sup.ebFb ∧ t.sup.sbFb = s.sup.sbFb ∧
      (∀ ch, (t.rope.chans.get ch).levelA = (s.rope.chans.get ch).levelA ∧ (t.rope.chans.get ch).levelB = (s.rope.chans.get ch).levelB) ∧
      t.rope.frees = s.rope.frees ∧ t.track = { Track.reset with othersDrive := s.track.othersDrive } ∧
      t.rope.certainty = .unknown ∧ t.rope.flag = false ∧ t.rope.dwell = true ∧
      t.rope.switches = s.rope.switches ∧ t.coord = 0 ∧ t.vSup = 0 ∧
      (∀ x, (t.track.cars.get x).link = .down ∧ (t.track.cars.get x).ability = none ∧ (t.track.cars.get x).baselines = none) ∧
      ∀ p, (t.links.get p).flags = Notice.reset.bit ∧ (t.links.get p).enables = 0 ∧ (t.links.get p).executing = none ∧
        (t.links.get p).rate = (s.links.get p).strap ∧ (t.links.get p).strap = (s.links.get p).strap) ∧
    (∃ t : State, exec .lineReset s = .next t ∧
      t.tables = { s.tables with staging := none } ∧
      t.rope = { s.rope with certainty := if s.rope.certainty = .known then .uncertain else s.rope.certainty } ∧
      t.trip = { s.trip with
        line := .closed, record := none, stage := none, dispatchLimit := false, stop := .none, holdCause := none, slot := none
        forming := 0, held := 0, stepping := false, distances := false, resumeRelease := false, moveRelease := false, parkedBerth := none, origin := .none
        consentLower := false, consentUpper := false, frameCount := (s.trip.frameCount + 1) % 256
        frame := ⟨s.frameDir, 0, s.trip.number, (s.trip.frameCount + 1) % 256⟩ } ∧
      t.sup.ebRel = false ∧ t.sup.sbRel = false ∧ t.sup.drvEn = false ∧ t.sup.causes = [] ∧ t.sup.overflow = false ∧
      t.sup.serviceCount = s.sup.serviceCount ∧ t.sup.tripCount = s.sup.tripCount ∧ t.sup.windCap = s.sup.windCap ∧
      (s.trip.line = .tripped → t.sup.lastTrip = some ⟨s.trip.number,
        s.sup.causes ++ (if s.rope.flag then [] else [⟨.resetInMotion, none⟩]), s.sup.overflow⟩) ∧
      (s.trip.line = .dispatch ∨ s.trip.line.inMotion = true ∨ s.trip.line.isTest = true →
        t.sup.lastTrip = some ⟨s.trip.number, [⟨.resetInMotion, none⟩], false⟩) ∧
      (s.trip.line = .closed ∨ s.trip.line = .parked ∨ s.trip.line = .held ∨ s.trip.line = .recovery false →
        t.sup.lastTrip = s.sup.lastTrip) ∧
      t.sched.obligations = s.sched.obligations ∧ t.sched.test = none ∧ t.sup.ebFb = s.sup.ebFb ∧ t.sup.sbFb = s.sup.sbFb ∧
      t.track.jams = s.track.jams ∧ t.track.othersDrive = s.track.othersDrive ∧ t.track.driveLimit = s.track.othersDrive ∧
      t.track.phase = .free ∧ t.track.turn = none ∧ t.track.owed = none ∧ t.track.outOfTurn = [] ∧ t.track.nextTurn = .a ∧
      (∀ x, (t.track.cars.get x).link = .down ∧ (t.track.cars.get x).ability = (s.track.cars.get x).ability ∧
        (t.track.cars.get x).missed = (s.track.cars.get x).missed ∧ (t.track.cars.get x).missedOverflow = (s.track.cars.get x).missedOverflow ∧
        (t.track.cars.get x).calls = (s.track.cars.get x).calls ∧ (t.doors.get x).anyGrant = false ∧
        (t.doors.get x).alignment = .none ∧ (t.doors.get x).leaves = (s.doors.get x).leaves ∧
        (t.board.cars.get x) = ⟨(s.board.cars.get x).onboard, true⟩) ∧
      (∀ b, t.board.berths.get b = { s.board.berths.get b with state := .closed, pending := [] }) ∧
      ∀ p, t.links.get p = { s.links.get p with
        flags := if s.rope.certainty = .known then Notice.reset.bit ||| Notice.position.bit else Notice.reset.bit
        enables := 0, normal := false, abnormal := false })

/-! ### The laws that every step keeps -/

/-- The state after reset meets the seven laws. -/
def Obligations.ResetMeetsTheLaws : Prop :=
  CauseLaw State.reset ∧ SlotLaw State.reset ∧ GrantLaw State.reset ∧ PendingLaw State.reset ∧ DriveLaw State.reset ∧
    TargetLaw State.reset ∧ TestLaw State.reset

/-- From R110: every step from a state where a cause is listed exactly in TRIPPED, with the outputs then down, the held setpoint 0 and at most four causes, each
once, leads to such a state. -/
def Obligations.StepKeepsTheCauseLaw : Prop := ∀ s t : State, CauseLaw s → step s = .next t → CauseLaw t

/-- From R82: every step keeps the hold save slot occupied exactly in HELD. -/
def Obligations.StepKeepsTheSlotLaw : Prop := ∀ s t : State, SlotLaw s → step s = .next t → SlotLaw t

/-- From R29 and R165: every step keeps the rope within 5 mm of s_ref while the standstill flag is set, and grants to PARKED with the flag set. -/
def Obligations.StepKeepsTheGrantLaw : Prop := ∀ s t : State, GrantLaw s → step s = .next t → GrantLaw t

/-- From R178 and R190: every step keeps admissions pending in OPEN and CLOSING berths only, at least one in CLOSING, and at most one per gate. -/
def Obligations.StepKeepsThePendingLaw : Prop := ∀ s t : State, PendingLaw s → step s = .next t → PendingLaw t

/-- From R92: every step from a state that meets the cause law keeps DRV_EN energised only in motion or in a test, with both links usable, every
present leaf of both cars LOCKED and no grant active. -/
def Obligations.StepKeepsTheDriveLaw : Prop := ∀ s t : State, CauseLaw s → DriveLaw s → step s = .next t → DriveLaw t

/-- From R61, R83, R85 and R127: every step keeps the targets of the trip record, of the hold save slot and of a rail test in hand mirror pairs. From R122,
R123, R126, R127 and R131: every step keeps a test of a kind in hand exactly while the line is TESTING of that kind. -/
def Obligations.StepKeepsTheTargetAndTestLaws : Prop :=
  (∀ s t : State, TargetLaw s → step s = .next t → TargetLaw t) ∧ ∀ s t : State, TestLaw s → step s = .next t → TestLaw t

end
end

