-- ==== Sys2Proof/Laws/State.lean ====
section
/-! SUPPORT. The small lemmas of State: groups of like things read after a write, and each block of the state after each named update. -/

namespace Sys2Proof.Machine

/-! ### Groups -/

@[simp] theorem PerCar.get_set_same {α : Type} (t : PerCar α) (k : Car) (v : α) : (t.set k v).get k = v := by
  cases k <;> rfl

theorem PerCar.get_set_ne {α : Type} (t : PerCar α) (k l : Car) (v : α) (h : l ≠ k) : (t.set k v).get l = t.get l := by
  cases k <;> cases l <;> first | rfl | exact absurd rfl h

@[simp] theorem PerCar.get_map {α β : Type} (f : α → β) (t : PerCar α) (k : Car) : (t.map f).get k = f (t.get k) := by
  cases k <;> rfl

@[simp] theorem PerCar.set_get_self {α : Type} (t : PerCar α) (k : Car) : t.set k (t.get k) = t := by
  cases k <;> rfl

@[simp] theorem PerCar.set_set {α : Type} (t : PerCar α) (k : Car) (v w : α) : (t.set k v).set k w = t.set k w := by
  cases k <;> rfl

@[simp] theorem PerSide.get_set_same {α : Type} (t : PerSide α) (k : Side) (v : α) : (t.set k v).get k = v := by
  cases k <;> rfl

theorem PerSide.get_set_ne {α : Type} (t : PerSide α) (k l : Side) (v : α) (h : l ≠ k) : (t.set k v).get l = t.get l := by
  cases k <;> cases l <;> first | rfl | exact absurd rfl h

@[simp] theorem PerBerth.get_set_same {α : Type} (t : PerBerth α) (k : Berth) (v : α) : (t.set k v).get k = v := by
  cases k <;> rfl

theorem PerBerth.get_set_ne {α : Type} (t : PerBerth α) (k l : Berth) (v : α) (h : l ≠ k) : (t.set k v).get l = t.get l := by
  cases k <;> cases l <;> first | rfl | exact absurd rfl h

@[simp] theorem PerBerth.get_map {α β : Type} (f : α → β) (t : PerBerth α) (k : Berth) : (t.map f).get k = f (t.get k) := by
  cases k <;> rfl

@[simp] theorem PerBerth.set_get_self {α : Type} (t : PerBerth α) (k : Berth) : t.set k (t.get k) = t := by
  cases k <;> rfl

@[simp] theorem PerBerth.set_set {α : Type} (t : PerBerth α) (k : Berth) (v w : α) : (t.set k v).set k w = t.set k w := by
  cases k <;> rfl

@[simp] theorem PerPort.get_set_same {α : Type} (t : PerPort α) (k : Port) (v : α) : (t.set k v).get k = v := by
  cases k <;> rfl

theorem PerPort.get_set_ne {α : Type} (t : PerPort α) (k l : Port) (v : α) (h : l ≠ k) : (t.set k v).get l = t.get l := by
  cases k <;> cases l <;> first | rfl | exact absurd rfl h

@[simp] theorem PerPort.get_map {α β : Type} (f : α → β) (t : PerPort α) (k : Port) : (t.map f).get k = f (t.get k) := by
  cases k <;> rfl

@[simp] theorem PerPort.set_get_self {α : Type} (t : PerPort α) (k : Port) : t.set k (t.get k) = t := by
  cases k <;> rfl

@[simp] theorem PerPort.set_set {α : Type} (t : PerPort α) (k : Port) (v w : α) : (t.set k v).set k w = t.set k w := by
  cases k <;> rfl

@[simp] theorem PerChan.get_set_same {α : Type} (t : PerChan α) (k : Chan) (v : α) : (t.set k v).get k = v := by
  cases k <;> rfl

theorem PerChan.get_set_ne {α : Type} (t : PerChan α) (k l : Chan) (v : α) (h : l ≠ k) : (t.set k v).get l = t.get l := by
  cases k <;> cases l <;> first | rfl | exact absurd rfl h

@[simp] theorem PerFree.get_set_same {α : Type} (t : PerFree α) (k : FreeInput) (v : α) : (t.set k v).get k = v := by
  cases k <;> rfl

theorem PerFree.get_set_ne {α : Type} (t : PerFree α) (k l : FreeInput) (v : α) (h : l ≠ k) : (t.set k v).get l = t.get l := by
  cases k <;> cases l <;> first | rfl | exact absurd rfl h

@[simp] theorem PerTest.get_set_same {α : Type} (t : PerTest α) (k : TestKind) (v : α) : (t.set k v).get k = v := by
  cases k <;> rfl

theorem PerTest.get_set_ne {α : Type} (t : PerTest α) (k l : TestKind) (v : α) (h : l ≠ k) : (t.set k v).get l = t.get l := by
  cases k <;> cases l <;> first | rfl | exact absurd rfl h

/-! ### Named updates -/

@[simp] theorem State.setPort_tables (s : State) (p : Port) (v : PortState) : (s.setPort p v).tables = s.tables := rfl
@[simp] theorem State.setPort_rope (s : State) (p : Port) (v : PortState) : (s.setPort p v).rope = s.rope := rfl
@[simp] theorem State.setPort_trip (s : State) (p : Port) (v : PortState) : (s.setPort p v).trip = s.trip := rfl
@[simp] theorem State.setPort_sup (s : State) (p : Port) (v : PortState) : (s.setPort p v).sup = s.sup := rfl
@[simp] theorem State.setPort_sched (s : State) (p : Port) (v : PortState) : (s.setPort p v).sched = s.sched := rfl
@[simp] theorem State.setPort_track (s : State) (p : Port) (v : PortState) : (s.setPort p v).track = s.track := rfl
@[simp] theorem State.setPort_doors (s : State) (p : Port) (v : PortState) : (s.setPort p v).doors = s.doors := rfl
@[simp] theorem State.setPort_board (s : State) (p : Port) (v : PortState) : (s.setPort p v).board = s.board := rfl
@[simp] theorem State.setPort_links (s : State) (p : Port) (v : PortState) : (s.setPort p v).links = s.links.set p v := rfl
@[simp] theorem State.setPort_now (s : State) (p : Port) (v : PortState) : (s.setPort p v).now = s.now := rfl
@[simp] theorem State.setPort_pending (s : State) (p : Port) (v : PortState) : (s.setPort p v).pending = s.pending := rfl

@[simp] theorem State.setBoard_tables (s : State) (b : Berth) (v : BerthBoard) : (s.setBoard b v).tables = s.tables := rfl
@[simp] theorem State.setBoard_rope (s : State) (b : Berth) (v : BerthBoard) : (s.setBoard b v).rope = s.rope := rfl
@[simp] theorem State.setBoard_trip (s : State) (b : Berth) (v : BerthBoard) : (s.setBoard b v).trip = s.trip := rfl
@[simp] theorem State.setBoard_sup (s : State) (b : Berth) (v : BerthBoard) : (s.setBoard b v).sup = s.sup := rfl
@[simp] theorem State.setBoard_sched (s : State) (b : Berth) (v : BerthBoard) : (s.setBoard b v).sched = s.sched := rfl
@[simp] theorem State.setBoard_track (s : State) (b : Berth) (v : BerthBoard) : (s.setBoard b v).track = s.track := rfl
@[simp] theorem State.setBoard_doors (s : State) (b : Berth) (v : BerthBoard) : (s.setBoard b v).doors = s.doors := rfl
@[simp] theorem State.setBoard_board (s : State) (b : Berth) (v : BerthBoard) : (s.setBoard b v).board = ⟨s.board.berths.set b v, s.board.cars⟩ := rfl
@[simp] theorem State.setBoard_links (s : State) (b : Berth) (v : BerthBoard) : (s.setBoard b v).links = s.links := rfl
@[simp] theorem State.setBoard_now (s : State) (b : Berth) (v : BerthBoard) : (s.setBoard b v).now = s.now := rfl
@[simp] theorem State.setBoard_pending (s : State) (b : Berth) (v : BerthBoard) : (s.setBoard b v).pending = s.pending := rfl

@[simp] theorem State.setCarBoard_tables (s : State) (x : Car) (v : CarBoard) : (s.setCarBoard x v).tables = s.tables := rfl
@[simp] theorem State.setCarBoard_rope (s : State) (x : Car) (v : CarBoard) : (s.setCarBoard x v).rope = s.rope := rfl
@[simp] theorem State.setCarBoard_trip (s : State) (x : Car) (v : CarBoard) : (s.setCarBoard x v).trip = s.trip := rfl
@[simp] theorem State.setCarBoard_sup (s : State) (x : Car) (v : CarBoard) : (s.setCarBoard x v).sup = s.sup := rfl
@[simp] theorem State.setCarBoard_sched (s : State) (x : Car) (v : CarBoard) : (s.setCarBoard x v).sched = s.sched := rfl
@[simp] theorem State.setCarBoard_track (s : State) (x : Car) (v : CarBoard) : (s.setCarBoard x v).track = s.track := rfl
@[simp] theorem State.setCarBoard_doors (s : State) (x : Car) (v : CarBoard) : (s.setCarBoard x v).doors = s.doors := rfl
@[simp] theorem State.setCarBoard_board (s : State) (x : Car) (v : CarBoard) : (s.setCarBoard x v).board = ⟨s.board.berths, s.board.cars.set x v⟩ := rfl
@[simp] theorem State.setCarBoard_links (s : State) (x : Car) (v : CarBoard) : (s.setCarBoard x v).links = s.links := rfl
@[simp] theorem State.setCarBoard_now (s : State) (x : Car) (v : CarBoard) : (s.setCarBoard x v).now = s.now := rfl
@[simp] theorem State.setCarBoard_pending (s : State) (x : Car) (v : CarBoard) : (s.setCarBoard x v).pending = s.pending := rfl

@[simp] theorem State.setDoors_tables (s : State) (x : Car) (v : CarDoors) : (s.setDoors x v).tables = s.tables := rfl
@[simp] theorem State.setDoors_rope (s : State) (x : Car) (v : CarDoors) : (s.setDoors x v).rope = s.rope := rfl
@[simp] theorem State.setDoors_trip (s : State) (x : Car) (v : CarDoors) : (s.setDoors x v).trip = s.trip := rfl
@[simp] theorem State.setDoors_sup (s : State) (x : Car) (v : CarDoors) : (s.setDoors x v).sup = s.sup := rfl
@[simp] theorem State.setDoors_sched (s : State) (x : Car) (v : CarDoors) : (s.setDoors x v).sched = s.sched := rfl
@[simp] theorem State.setDoors_track (s : State) (x : Car) (v : CarDoors) : (s.setDoors x v).track = s.track := rfl
@[simp] theorem State.setDoors_doors (s : State) (x : Car) (v : CarDoors) : (s.setDoors x v).doors = s.doors.set x v := rfl
@[simp] theorem State.setDoors_board (s : State) (x : Car) (v : CarDoors) : (s.setDoors x v).board = s.board := rfl
@[simp] theorem State.setDoors_links (s : State) (x : Car) (v : CarDoors) : (s.setDoors x v).links = s.links := rfl
@[simp] theorem State.setDoors_now (s : State) (x : Car) (v : CarDoors) : (s.setDoors x v).now = s.now := rfl
@[simp] theorem State.setDoors_pending (s : State) (x : Car) (v : CarDoors) : (s.setDoors x v).pending = s.pending := rfl

@[simp] theorem State.setCar_tables (s : State) (x : Car) (v : CarLink) : (s.setCar x v).tables = s.tables := rfl
@[simp] theorem State.setCar_rope (s : State) (x : Car) (v : CarLink) : (s.setCar x v).rope = s.rope := rfl
@[simp] theorem State.setCar_trip (s : State) (x : Car) (v : CarLink) : (s.setCar x v).trip = s.trip := rfl
@[simp] theorem State.setCar_sup (s : State) (x : Car) (v : CarLink) : (s.setCar x v).sup = s.sup := rfl
@[simp] theorem State.setCar_sched (s : State) (x : Car) (v : CarLink) : (s.setCar x v).sched = s.sched := rfl
@[simp] theorem State.setCar_track (s : State) (x : Car) (v : CarLink) : (s.setCar x v).track = { s.track with cars := s.track.cars.set x v } := rfl
@[simp] theorem State.setCar_doors (s : State) (x : Car) (v : CarLink) : (s.setCar x v).doors = s.doors := rfl
@[simp] theorem State.setCar_board (s : State) (x : Car) (v : CarLink) : (s.setCar x v).board = s.board := rfl
@[simp] theorem State.setCar_links (s : State) (x : Car) (v : CarLink) : (s.setCar x v).links = s.links := rfl
@[simp] theorem State.setCar_now (s : State) (x : Car) (v : CarLink) : (s.setCar x v).now = s.now := rfl
@[simp] theorem State.setCar_pending (s : State) (x : Car) (v : CarLink) : (s.setCar x v).pending = s.pending := rfl

@[simp] theorem State.setTrack_tables (s : State) (v : Track) : (s.setTrack v).tables = s.tables := rfl
@[simp] theorem State.setTrack_rope (s : State) (v : Track) : (s.setTrack v).rope = s.rope := rfl
@[simp] theorem State.setTrack_trip (s : State) (v : Track) : (s.setTrack v).trip = s.trip := rfl
@[simp] theorem State.setTrack_sup (s : State) (v : Track) : (s.setTrack v).sup = s.sup := rfl
@[simp] theorem State.setTrack_sched (s : State) (v : Track) : (s.setTrack v).sched = s.sched := rfl
@[simp] theorem State.setTrack_track (s : State) (v : Track) : (s.setTrack v).track = v := rfl
@[simp] theorem State.setTrack_doors (s : State) (v : Track) : (s.setTrack v).doors = s.doors := rfl
@[simp] theorem State.setTrack_board (s : State) (v : Track) : (s.setTrack v).board = s.board := rfl
@[simp] theorem State.setTrack_links (s : State) (v : Track) : (s.setTrack v).links = s.links := rfl
@[simp] theorem State.setTrack_now (s : State) (v : Track) : (s.setTrack v).now = s.now := rfl
@[simp] theorem State.setTrack_pending (s : State) (v : Track) : (s.setTrack v).pending = s.pending := rfl

@[simp] theorem State.setTables_tables (s : State) (v : Tables) : (s.setTables v).tables = v := rfl
@[simp] theorem State.setTables_rope (s : State) (v : Tables) : (s.setTables v).rope = s.rope := rfl
@[simp] theorem State.setTables_trip (s : State) (v : Tables) : (s.setTables v).trip = s.trip := rfl
@[simp] theorem State.setTables_sup (s : State) (v : Tables) : (s.setTables v).sup = s.sup := rfl
@[simp] theorem State.setTables_sched (s : State) (v : Tables) : (s.setTables v).sched = s.sched := rfl
@[simp] theorem State.setTables_track (s : State) (v : Tables) : (s.setTables v).track = s.track := rfl
@[simp] theorem State.setTables_doors (s : State) (v : Tables) : (s.setTables v).doors = s.doors := rfl
@[simp] theorem State.setTables_board (s : State) (v : Tables) : (s.setTables v).board = s.board := rfl
@[simp] theorem State.setTables_links (s : State) (v : Tables) : (s.setTables v).links = s.links := rfl
@[simp] theorem State.setTables_now (s : State) (v : Tables) : (s.setTables v).now = s.now := rfl
@[simp] theorem State.setTables_pending (s : State) (v : Tables) : (s.setTables v).pending = s.pending := rfl

@[simp] theorem State.setChan_tables (s : State) (x : Chan) (v : ChanState) : (s.setChan x v).tables = s.tables := rfl
@[simp] theorem State.setChan_rope (s : State) (x : Chan) (v : ChanState) : (s.setChan x v).rope = { s.rope with chans := s.rope.chans.set x v } := rfl
@[simp] theorem State.setChan_trip (s : State) (x : Chan) (v : ChanState) : (s.setChan x v).trip = s.trip := rfl
@[simp] theorem State.setChan_sup (s : State) (x : Chan) (v : ChanState) : (s.setChan x v).sup = s.sup := rfl
@[simp] theorem State.setChan_sched (s : State) (x : Chan) (v : ChanState) : (s.setChan x v).sched = s.sched := rfl
@[simp] theorem State.setChan_track (s : State) (x : Chan) (v : ChanState) : (s.setChan x v).track = s.track := rfl
@[simp] theorem State.setChan_doors (s : State) (x : Chan) (v : ChanState) : (s.setChan x v).doors = s.doors := rfl
@[simp] theorem State.setChan_board (s : State) (x : Chan) (v : ChanState) : (s.setChan x v).board = s.board := rfl
@[simp] theorem State.setChan_links (s : State) (x : Chan) (v : ChanState) : (s.setChan x v).links = s.links := rfl
@[simp] theorem State.setChan_now (s : State) (x : Chan) (v : ChanState) : (s.setChan x v).now = s.now := rfl
@[simp] theorem State.setChan_pending (s : State) (x : Chan) (v : ChanState) : (s.setChan x v).pending = s.pending := rfl

end Sys2Proof.Machine
end

