-- ==== Sys2Proof/Laws/Frames.lean ====
section
/-! SUPPORT. What each shared operation leaves unchanged: one lemma per operation, every block of the state that it does not touch. -/

namespace Sys2Proof.Machine

/-! ### Flags -/

@[simp] theorem raiseOn_frame (n : Notice) (p : Port) (s : State) :
    (raiseOn n p s).tables = s.tables ∧ (raiseOn n p s).rope = s.rope ∧ (raiseOn n p s).trip = s.trip ∧ (raiseOn n p s).sup = s.sup ∧
    (raiseOn n p s).sched = s.sched ∧ (raiseOn n p s).track = s.track ∧ (raiseOn n p s).doors = s.doors ∧
    (raiseOn n p s).board = s.board ∧ (raiseOn n p s).now = s.now ∧ (raiseOn n p s).pending = s.pending := by
  unfold raiseOn
  try dsimp only
  all_goals simp

@[simp] theorem raiseAll_frame (n : Notice) (s : State) :
    (raiseAll n s).tables = s.tables ∧ (raiseAll n s).rope = s.rope ∧ (raiseAll n s).trip = s.trip ∧ (raiseAll n s).sup = s.sup ∧
    (raiseAll n s).sched = s.sched ∧ (raiseAll n s).track = s.track ∧ (raiseAll n s).doors = s.doors ∧ (raiseAll n s).board = s.board ∧
    (raiseAll n s).now = s.now ∧ (raiseAll n s).pending = s.pending := by
  unfold raiseAll
  try dsimp only
  all_goals simp

@[simp] theorem linkError_frame (p : Port) (e : LinkError) (s : State) :
    (linkError p e s).tables = s.tables ∧ (linkError p e s).rope = s.rope ∧ (linkError p e s).trip = s.trip ∧
    (linkError p e s).sup = s.sup ∧ (linkError p e s).sched = s.sched ∧ (linkError p e s).track = s.track ∧
    (linkError p e s).doors = s.doors ∧ (linkError p e s).board = s.board ∧ (linkError p e s).now = s.now ∧
    (linkError p e s).pending = s.pending := by
  unfold linkError
  try dsimp only
  repeat' split
  all_goals simp

/-! ### Line record -/

@[simp] theorem moveBerth_frame (b : Berth) (s : State) :
    (moveBerth b s).tables = s.tables ∧ (moveBerth b s).rope = s.rope ∧ (moveBerth b s).trip = s.trip ∧ (moveBerth b s).sup = s.sup ∧
    (moveBerth b s).sched = s.sched ∧ (moveBerth b s).track = s.track ∧ (moveBerth b s).doors = s.doors ∧
    (moveBerth b s).links = s.links ∧ (moveBerth b s).now = s.now ∧ (moveBerth b s).pending = s.pending := by
  unfold moveBerth
  try dsimp only
  all_goals simp

@[simp] theorem moveAllBerths_frame (s : State) :
    (moveAllBerths s).tables = s.tables ∧ (moveAllBerths s).rope = s.rope ∧ (moveAllBerths s).trip = s.trip ∧
    (moveAllBerths s).sup = s.sup ∧ (moveAllBerths s).sched = s.sched ∧ (moveAllBerths s).track = s.track ∧
    (moveAllBerths s).doors = s.doors ∧ (moveAllBerths s).links = s.links ∧ (moveAllBerths s).now = s.now ∧
    (moveAllBerths s).pending = s.pending := by
  unfold moveAllBerths
  try dsimp only
  all_goals simp

@[simp] theorem setAlignments_frame (v w : Alignment) (s : State) :
    (setAlignments v w s).tables = s.tables ∧ (setAlignments v w s).rope = s.rope ∧ (setAlignments v w s).trip = s.trip ∧
    (setAlignments v w s).sup = s.sup ∧ (setAlignments v w s).sched = s.sched ∧ (setAlignments v w s).track = s.track ∧
    (setAlignments v w s).board = s.board ∧ (setAlignments v w s).links = s.links ∧ (setAlignments v w s).now = s.now ∧
    (setAlignments v w s).pending = s.pending := by
  unfold setAlignments
  try dsimp only
  all_goals simp

@[simp] theorem enterLine_frame (l : LineState) (s : State) :
    (enterLine l s).tables = s.tables ∧ (enterLine l s).rope = s.rope ∧ (enterLine l s).sup = s.sup ∧ (enterLine l s).sched = s.sched ∧
    (enterLine l s).track = s.track ∧ (enterLine l s).now = s.now ∧ (enterLine l s).pending = s.pending := by
  unfold enterLine
  try dsimp only
  repeat' split
  all_goals simp

@[simp] theorem enterParked_frame (b : Berth) (s : State) :
    (enterParked b s).tables = s.tables ∧ (enterParked b s).rope = s.rope ∧ (enterParked b s).sup = s.sup ∧
    (enterParked b s).sched = s.sched ∧ (enterParked b s).track = s.track ∧ (enterParked b s).now = s.now ∧
    (enterParked b s).pending = s.pending := by
  unfold enterParked
  try dsimp only
  all_goals simp

@[simp] theorem setPhase_frame (ph : Phase) (s : State) :
    (setPhase ph s).tables = s.tables ∧ (setPhase ph s).rope = s.rope ∧ (setPhase ph s).sup = s.sup ∧ (setPhase ph s).sched = s.sched ∧
    (setPhase ph s).track = s.track ∧ (setPhase ph s).doors = s.doors ∧ (setPhase ph s).board = s.board ∧
    (setPhase ph s).links = s.links ∧ (setPhase ph s).now = s.now ∧ (setPhase ph s).pending = s.pending := by
  unfold setPhase
  try dsimp only
  repeat' split
  all_goals simp

@[simp] theorem endRecord_frame (e : Ending) (s : State) :
    (endRecord e s).tables = s.tables ∧ (endRecord e s).rope = s.rope ∧ (endRecord e s).sup = s.sup ∧ (endRecord e s).sched = s.sched ∧
    (endRecord e s).track = s.track ∧ (endRecord e s).doors = s.doors ∧ (endRecord e s).board = s.board ∧
    (endRecord e s).links = s.links ∧ (endRecord e s).now = s.now ∧ (endRecord e s).pending = s.pending := by
  unfold endRecord
  try dsimp only
  all_goals simp

@[simp] theorem clearStop_frame (s : State) :
    (clearStop s).tables = s.tables ∧ (clearStop s).rope = s.rope ∧ (clearStop s).sup = s.sup ∧ (clearStop s).sched = s.sched ∧
    (clearStop s).track = s.track ∧ (clearStop s).doors = s.doors ∧ (clearStop s).board = s.board ∧ (clearStop s).links = s.links ∧
    (clearStop s).now = s.now ∧ (clearStop s).pending = s.pending := by
  unfold clearStop
  try dsimp only
  all_goals simp

@[simp] theorem emitFrame_frame (s : State) :
    (emitFrame s).tables = s.tables ∧ (emitFrame s).rope = s.rope ∧ (emitFrame s).sup = s.sup ∧ (emitFrame s).sched = s.sched ∧
    (emitFrame s).track = s.track ∧ (emitFrame s).doors = s.doors ∧ (emitFrame s).board = s.board ∧ (emitFrame s).links = s.links ∧
    (emitFrame s).now = s.now ∧ (emitFrame s).pending = s.pending := by
  unfold emitFrame
  try dsimp only
  all_goals simp

@[simp] theorem forceZero_frame (s : State) :
    (forceZero s).tables = s.tables ∧ (forceZero s).rope = s.rope ∧ (forceZero s).sup = s.sup ∧ (forceZero s).sched = s.sched ∧
    (forceZero s).track = s.track ∧ (forceZero s).doors = s.doors ∧ (forceZero s).board = s.board ∧ (forceZero s).links = s.links ∧
    (forceZero s).now = s.now ∧ (forceZero s).pending = s.pending := by
  unfold forceZero
  try dsimp only
  all_goals simp

@[simp] theorem armRollaway_frame (s : State) :
    (armRollaway s).tables = s.tables ∧ (armRollaway s).rope = s.rope ∧ (armRollaway s).trip = s.trip ∧
    (armRollaway s).sched = s.sched ∧ (armRollaway s).track = s.track ∧ (armRollaway s).doors = s.doors ∧
    (armRollaway s).board = s.board ∧ (armRollaway s).links = s.links ∧ (armRollaway s).now = s.now ∧
    (armRollaway s).pending = s.pending := by
  unfold armRollaway
  try dsimp only
  repeat' split
  all_goals simp

@[simp] theorem setEb_frame (v : Bool) (s : State) :
    (setEb v s).tables = s.tables ∧ (setEb v s).rope = s.rope ∧ (setEb v s).trip = s.trip ∧ (setEb v s).sched = s.sched ∧
    (setEb v s).track = s.track ∧ (setEb v s).doors = s.doors ∧ (setEb v s).board = s.board ∧ (setEb v s).links = s.links ∧
    (setEb v s).now = s.now ∧ (setEb v s).pending = s.pending := by
  unfold setEb
  try dsimp only
  repeat' split
  all_goals simp

@[simp] theorem setSb_frame (v : Bool) (s : State) :
    (setSb v s).tables = s.tables ∧ (setSb v s).rope = s.rope ∧ (setSb v s).trip = s.trip ∧ (setSb v s).sched = s.sched ∧
    (setSb v s).track = s.track ∧ (setSb v s).doors = s.doors ∧ (setSb v s).board = s.board ∧ (setSb v s).links = s.links ∧
    (setSb v s).now = s.now ∧ (setSb v s).pending = s.pending := by
  unfold setSb
  try dsimp only
  repeat' split
  all_goals simp

@[simp] theorem setDrv_frame (v : Bool) (s : State) :
    (setDrv v s).tables = s.tables ∧ (setDrv v s).rope = s.rope ∧ (setDrv v s).sched = s.sched ∧ (setDrv v s).track = s.track ∧
    (setDrv v s).doors = s.doors ∧ (setDrv v s).board = s.board ∧ (setDrv v s).links = s.links ∧ (setDrv v s).now = s.now ∧
    (setDrv v s).pending = s.pending := by
  unfold setDrv
  try dsimp only
  repeat' split
  all_goals simp

@[simp] theorem dwellAfter_frame (n : Nat) (s : State) :
    (dwellAfter n s).tables = s.tables ∧ (dwellAfter n s).trip = s.trip ∧ (dwellAfter n s).sup = s.sup ∧
    (dwellAfter n s).sched = s.sched ∧ (dwellAfter n s).track = s.track ∧ (dwellAfter n s).doors = s.doors ∧
    (dwellAfter n s).board = s.board ∧ (dwellAfter n s).links = s.links ∧ (dwellAfter n s).now = s.now ∧
    (dwellAfter n s).pending = s.pending := by
  unfold dwellAfter
  try dsimp only
  repeat' split
  all_goals simp

@[simp] theorem setCertainty_frame (c : Certainty) (s : State) :
    (setCertainty c s).tables = s.tables ∧ (setCertainty c s).trip = s.trip ∧ (setCertainty c s).sup = s.sup ∧
    (setCertainty c s).sched = s.sched ∧ (setCertainty c s).track = s.track ∧ (setCertainty c s).doors = s.doors ∧
    (setCertainty c s).board = s.board ∧ (setCertainty c s).now = s.now ∧ (setCertainty c s).pending = s.pending := by
  unfold setCertainty
  try dsimp only
  repeat' split
  all_goals simp

@[simp] theorem lowerCertainty_frame (s : State) :
    (lowerCertainty s).tables = s.tables ∧ (lowerCertainty s).trip = s.trip ∧ (lowerCertainty s).sup = s.sup ∧
    (lowerCertainty s).sched = s.sched ∧ (lowerCertainty s).track = s.track ∧ (lowerCertainty s).doors = s.doors ∧
    (lowerCertainty s).board = s.board ∧ (lowerCertainty s).now = s.now ∧ (lowerCertainty s).pending = s.pending := by
  unfold lowerCertainty
  try dsimp only
  repeat' split
  all_goals simp

/-! ### Doors -/

@[simp] theorem withdraw_frame (x : Car) (d : Side) (s : State) :
    (withdraw x d s).tables = s.tables ∧ (withdraw x d s).rope = s.rope ∧ (withdraw x d s).trip = s.trip ∧
    (withdraw x d s).sup = s.sup ∧ (withdraw x d s).sched = s.sched ∧ (withdraw x d s).track = s.track ∧
    (withdraw x d s).links = s.links ∧ (withdraw x d s).now = s.now ∧ (withdraw x d s).pending = s.pending := by
  unfold withdraw
  try dsimp only
  repeat' split
  all_goals simp

@[simp] theorem withdrawCar_frame (x : Car) (s : State) :
    (withdrawCar x s).tables = s.tables ∧ (withdrawCar x s).rope = s.rope ∧ (withdrawCar x s).trip = s.trip ∧
    (withdrawCar x s).sup = s.sup ∧ (withdrawCar x s).sched = s.sched ∧ (withdrawCar x s).track = s.track ∧
    (withdrawCar x s).links = s.links ∧ (withdrawCar x s).now = s.now ∧ (withdrawCar x s).pending = s.pending := by
  unfold withdrawCar
  try dsimp only
  all_goals simp

@[simp] theorem withdrawAll_frame (s : State) :
    (withdrawAll s).tables = s.tables ∧ (withdrawAll s).rope = s.rope ∧ (withdrawAll s).trip = s.trip ∧ (withdrawAll s).sup = s.sup ∧
    (withdrawAll s).sched = s.sched ∧ (withdrawAll s).track = s.track ∧ (withdrawAll s).links = s.links ∧ (withdrawAll s).now = s.now ∧
    (withdrawAll s).pending = s.pending := by
  unfold withdrawAll
  try dsimp only
  all_goals simp

@[simp] theorem closeCar_frame (x : Car) (s : State) :
    (closeCar x s).tables = s.tables ∧ (closeCar x s).rope = s.rope ∧ (closeCar x s).trip = s.trip ∧ (closeCar x s).sup = s.sup ∧
    (closeCar x s).sched = s.sched ∧ (closeCar x s).track = s.track ∧ (closeCar x s).board = s.board ∧ (closeCar x s).links = s.links ∧
    (closeCar x s).now = s.now ∧ (closeCar x s).pending = s.pending := by
  unfold closeCar
  try dsimp only
  all_goals simp

@[simp] theorem closeAll_frame (s : State) :
    (closeAll s).tables = s.tables ∧ (closeAll s).rope = s.rope ∧ (closeAll s).trip = s.trip ∧ (closeAll s).sup = s.sup ∧
    (closeAll s).sched = s.sched ∧ (closeAll s).track = s.track ∧ (closeAll s).board = s.board ∧ (closeAll s).links = s.links ∧
    (closeAll s).now = s.now ∧ (closeAll s).pending = s.pending := by
  unfold closeAll
  try dsimp only
  all_goals simp

@[simp] theorem makeGrant_frame (x : Car) (d : Side) (g : Grant) (s : State) :
    (makeGrant x d g s).tables = s.tables ∧ (makeGrant x d g s).rope = s.rope ∧ (makeGrant x d g s).trip = s.trip ∧
    (makeGrant x d g s).sup = s.sup ∧ (makeGrant x d g s).sched = s.sched ∧ (makeGrant x d g s).track = s.track ∧
    (makeGrant x d g s).board = s.board ∧ (makeGrant x d g s).links = s.links ∧ (makeGrant x d g s).now = s.now ∧
    (makeGrant x d g s).pending = s.pending := by
  unfold makeGrant
  try dsimp only
  all_goals simp

@[simp] theorem autoReleaseSide_frame (x : Car) (b : Berth) (d : Side) (s : State) :
    (autoReleaseSide x b d s).tables = s.tables ∧ (autoReleaseSide x b d s).rope = s.rope ∧ (autoReleaseSide x b d s).trip = s.trip ∧
    (autoReleaseSide x b d s).sup = s.sup ∧ (autoReleaseSide x b d s).sched = s.sched ∧ (autoReleaseSide x b d s).track = s.track ∧
    (autoReleaseSide x b d s).board = s.board ∧ (autoReleaseSide x b d s).links = s.links ∧ (autoReleaseSide x b d s).now = s.now ∧
    (autoReleaseSide x b d s).pending = s.pending := by
  unfold autoReleaseSide
  try dsimp only
  repeat' split
  all_goals simp

@[simp] theorem autoRelease_frame (b : Berth) (s : State) :
    (autoRelease b s).tables = s.tables ∧ (autoRelease b s).rope = s.rope ∧ (autoRelease b s).trip = s.trip ∧
    (autoRelease b s).sup = s.sup ∧ (autoRelease b s).sched = s.sched ∧ (autoRelease b s).track = s.track ∧
    (autoRelease b s).board = s.board ∧ (autoRelease b s).links = s.links ∧ (autoRelease b s).now = s.now ∧
    (autoRelease b s).pending = s.pending := by
  unfold autoRelease
  try dsimp only
  all_goals simp

/-! ### Brake tests -/

@[simp] theorem writeTest_frame (k : TestKind) (r : TestResult) (n : Nat) (s : State) :
    (writeTest k r n s).tables = s.tables ∧ (writeTest k r n s).rope = s.rope ∧ (writeTest k r n s).trip = s.trip ∧
    (writeTest k r n s).sup = s.sup ∧ (writeTest k r n s).track = s.track ∧ (writeTest k r n s).doors = s.doors ∧
    (writeTest k r n s).board = s.board ∧ (writeTest k r n s).links = s.links ∧ (writeTest k r n s).now = s.now ∧
    (writeTest k r n s).pending = s.pending := by
  unfold writeTest
  try dsimp only
  all_goals simp

@[simp] theorem stopTestLimits_frame (s : State) :
    (stopTestLimits s).tables = s.tables ∧ (stopTestLimits s).rope = s.rope ∧ (stopTestLimits s).trip = s.trip ∧
    (stopTestLimits s).sup = s.sup ∧ (stopTestLimits s).track = s.track ∧ (stopTestLimits s).doors = s.doors ∧
    (stopTestLimits s).board = s.board ∧ (stopTestLimits s).links = s.links ∧ (stopTestLimits s).now = s.now ∧
    (stopTestLimits s).pending = s.pending := by
  unfold stopTestLimits
  try dsimp only
  all_goals simp

@[simp] theorem setStage_frame (k : TestKind) (g : TestStage) (s : State) :
    (setStage k g s).tables = s.tables ∧ (setStage k g s).rope = s.rope ∧ (setStage k g s).trip = s.trip ∧
    (setStage k g s).sup = s.sup ∧ (setStage k g s).track = s.track ∧ (setStage k g s).doors = s.doors ∧
    (setStage k g s).board = s.board ∧ (setStage k g s).links = s.links ∧ (setStage k g s).now = s.now ∧
    (setStage k g s).pending = s.pending := by
  unfold setStage
  try dsimp only
  all_goals simp

@[simp] theorem restrict_frame (s : State) :
    (restrict s).tables = s.tables ∧ (restrict s).rope = s.rope ∧ (restrict s).trip = s.trip ∧ (restrict s).sup = s.sup ∧
    (restrict s).sched = s.sched ∧ (restrict s).track = s.track ∧ (restrict s).doors = s.doors ∧ (restrict s).now = s.now ∧
    (restrict s).pending = s.pending := by
  unfold restrict
  try dsimp only
  all_goals simp

@[simp] theorem decideTest_frame (k : TestKind) (r : TestResult) (n : Nat) (s : State) :
    (decideTest k r n s).tables = s.tables ∧ (decideTest k r n s).rope = s.rope ∧ (decideTest k r n s).trip = s.trip ∧
    (decideTest k r n s).sup = s.sup ∧ (decideTest k r n s).track = s.track ∧ (decideTest k r n s).doors = s.doors ∧
    (decideTest k r n s).now = s.now ∧ (decideTest k r n s).pending = s.pending := by
  unfold decideTest
  try dsimp only
  repeat' split
  all_goals simp

@[simp] theorem abortToEnding_frame (k : TestKind) (s : State) :
    (abortToEnding k s).tables = s.tables ∧ (abortToEnding k s).rope = s.rope ∧ (abortToEnding k s).trip = s.trip ∧
    (abortToEnding k s).sup = s.sup ∧ (abortToEnding k s).track = s.track ∧ (abortToEnding k s).doors = s.doors ∧
    (abortToEnding k s).board = s.board ∧ (abortToEnding k s).now = s.now ∧ (abortToEnding k s).pending = s.pending := by
  unfold abortToEnding
  try dsimp only
  all_goals simp

@[simp] theorem clearTestOrder_frame (x : Car) (s : State) :
    (clearTestOrder x s).tables = s.tables ∧ (clearTestOrder x s).rope = s.rope ∧ (clearTestOrder x s).trip = s.trip ∧
    (clearTestOrder x s).sched = s.sched ∧ (clearTestOrder x s).track = s.track ∧ (clearTestOrder x s).doors = s.doors ∧
    (clearTestOrder x s).board = s.board ∧ (clearTestOrder x s).links = s.links ∧ (clearTestOrder x s).now = s.now ∧
    (clearTestOrder x s).pending = s.pending := by
  unfold clearTestOrder
  try dsimp only
  repeat' split
  all_goals simp

@[simp] theorem endTestAtTrip_frame (s : State) :
    (endTestAtTrip s).tables = s.tables ∧ (endTestAtTrip s).rope = s.rope ∧ (endTestAtTrip s).trip = s.trip ∧
    (endTestAtTrip s).track = s.track ∧ (endTestAtTrip s).doors = s.doors ∧ (endTestAtTrip s).board = s.board ∧
    (endTestAtTrip s).now = s.now ∧ (endTestAtTrip s).pending = s.pending := by
  unfold endTestAtTrip
  try dsimp only
  repeat' split
  all_goals simp

/-! ### Causes, service stops and links -/

@[simp] theorem orderTrip_frame (s : State) :
    (orderTrip s).tables = s.tables ∧ (orderTrip s).rope = s.rope ∧ (orderTrip s).trip = s.trip ∧ (orderTrip s).sched = s.sched ∧
    (orderTrip s).track = s.track ∧ (orderTrip s).doors = s.doors ∧ (orderTrip s).board = s.board ∧ (orderTrip s).links = s.links ∧
    (orderTrip s).now = s.now ∧ (orderTrip s).pending = s.pending := by
  unfold orderTrip
  try dsimp only
  all_goals simp

@[simp] theorem tripController_frame (s : State) :
    (tripController s).tables = s.tables ∧ (tripController s).rope = s.rope ∧ (tripController s).sup = s.sup ∧
    (tripController s).sched = s.sched ∧ (tripController s).track = s.track ∧ (tripController s).doors = s.doors ∧
    (tripController s).board = s.board ∧ (tripController s).links = s.links ∧ (tripController s).now = s.now ∧
    (tripController s).pending = s.pending := by
  unfold tripController
  try dsimp only
  all_goals simp

@[simp] theorem restartFeedback_frame (s : State) :
    (restartFeedback s).tables = s.tables ∧ (restartFeedback s).rope = s.rope ∧ (restartFeedback s).trip = s.trip ∧
    (restartFeedback s).sched = s.sched ∧ (restartFeedback s).track = s.track ∧ (restartFeedback s).doors = s.doors ∧
    (restartFeedback s).board = s.board ∧ (restartFeedback s).links = s.links ∧ (restartFeedback s).now = s.now ∧
    (restartFeedback s).pending = s.pending := by
  unfold restartFeedback
  try dsimp only
  all_goals simp

@[simp] theorem tripLine_frame (e : CauseEntry) (s : State) :
    (tripLine e s).tables = s.tables ∧ (tripLine e s).rope = s.rope ∧ (tripLine e s).track = s.track ∧ (tripLine e s).now = s.now ∧
    (tripLine e s).pending = s.pending := by
  unfold tripLine
  try dsimp only
  all_goals simp

@[simp] theorem listCause_frame (e : CauseEntry) (s : State) :
    (listCause e s).tables = s.tables ∧ (listCause e s).rope = s.rope ∧ (listCause e s).trip = s.trip ∧
    (listCause e s).sched = s.sched ∧ (listCause e s).track = s.track ∧ (listCause e s).doors = s.doors ∧
    (listCause e s).board = s.board ∧ (listCause e s).now = s.now ∧ (listCause e s).pending = s.pending := by
  unfold listCause
  try dsimp only
  repeat' split
  all_goals simp

@[simp] theorem takeCause_frame (c : Cause) (p : Option Port) (s : State) :
    (takeCause c p s).tables = s.tables ∧ (takeCause c p s).rope = s.rope ∧ (takeCause c p s).track = s.track ∧
    (takeCause c p s).now = s.now ∧ (takeCause c p s).pending = s.pending := by
  unfold takeCause
  try dsimp only
  repeat' split
  all_goals simp

@[simp] theorem causeIf_frame (v : Bool) (c : Cause) (s : State) :
    (causeIf v c s).tables = s.tables ∧ (causeIf v c s).rope = s.rope ∧ (causeIf v c s).track = s.track ∧ (causeIf v c s).now = s.now ∧
    (causeIf v c s).pending = s.pending := by
  unfold causeIf
  try dsimp only
  repeat' split
  all_goals simp

@[simp] theorem serviceStop_frame (c : ServiceCause) (s : State) :
    (serviceStop c s).tables = s.tables ∧ (serviceStop c s).rope = s.rope ∧ (serviceStop c s).track = s.track ∧
    (serviceStop c s).doors = s.doors ∧ (serviceStop c s).board = s.board ∧ (serviceStop c s).now = s.now ∧
    (serviceStop c s).pending = s.pending := by
  unfold serviceStop
  try dsimp only
  repeat' split
  all_goals simp

@[simp] theorem setLink_frame (x : Car) (l : Link) (s : State) :
    (setLink x l s).tables = s.tables ∧ (setLink x l s).rope = s.rope ∧ (setLink x l s).now = s.now ∧
    (setLink x l s).pending = s.pending := by
  unfold setLink
  try dsimp only
  repeat' split
  all_goals simp

/-! ### Sequences -/

@[simp] theorem learnCar_frame (t : PerBerth BerthEntry) (c : Course) (x : Car) (s : State) :
    (learnCar t c x s).tables = s.tables ∧ (learnCar t c x s).rope = s.rope ∧ (learnCar t c x s).sup = s.sup ∧
    (learnCar t c x s).sched = s.sched ∧ (learnCar t c x s).track = s.track ∧ (learnCar t c x s).doors = s.doors ∧
    (learnCar t c x s).board = s.board ∧ (learnCar t c x s).links = s.links ∧ (learnCar t c x s).now = s.now ∧
    (learnCar t c x s).pending = s.pending := by
  unfold learnCar
  try dsimp only
  all_goals simp

@[simp] theorem learnStops_frame (s : State) :
    (learnStops s).tables = s.tables ∧ (learnStops s).rope = s.rope ∧ (learnStops s).sup = s.sup ∧ (learnStops s).sched = s.sched ∧
    (learnStops s).track = s.track ∧ (learnStops s).doors = s.doors ∧ (learnStops s).board = s.board ∧ (learnStops s).links = s.links ∧
    (learnStops s).now = s.now ∧ (learnStops s).pending = s.pending := by
  unfold learnStops
  try dsimp only
  repeat' split
  all_goals simp

@[simp] theorem judgeAt_frame (b c : Berth) (s : State) :
    (judgeAt b c s).tables = s.tables ∧ (judgeAt b c s).rope = s.rope ∧ (judgeAt b c s).trip = s.trip ∧ (judgeAt b c s).sup = s.sup ∧
    (judgeAt b c s).sched = s.sched ∧ (judgeAt b c s).track = s.track ∧ (judgeAt b c s).board = s.board ∧
    (judgeAt b c s).links = s.links ∧ (judgeAt b c s).now = s.now ∧ (judgeAt b c s).pending = s.pending := by
  unfold judgeAt
  try dsimp only
  all_goals simp

@[simp] theorem berth_frame (s : State) :
    (berth s).tables = s.tables ∧ (berth s).rope = s.rope ∧ (berth s).sup = s.sup ∧ (berth s).sched = s.sched ∧
    (berth s).track = s.track ∧ (berth s).now = s.now ∧ (berth s).pending = s.pending := by
  unfold berth
  try dsimp only
  repeat' split
  all_goals simp

@[simp] theorem enterHeld_frame (s : State) :
    (enterHeld s).tables = s.tables ∧ (enterHeld s).rope = s.rope ∧ (enterHeld s).sup = s.sup ∧ (enterHeld s).sched = s.sched ∧
    (enterHeld s).track = s.track ∧ (enterHeld s).now = s.now ∧ (enterHeld s).pending = s.pending := by
  unfold enterHeld
  try dsimp only
  repeat' split
  all_goals simp

@[simp] theorem endMove_frame (k : StopKind) (s : State) :
    (endMove k s).tables = s.tables ∧ (endMove k s).sched = s.sched ∧ (endMove k s).track = s.track ∧ (endMove k s).now = s.now ∧
    (endMove k s).pending = s.pending := by
  unfold endMove
  try dsimp only
  repeat' split
  all_goals simp

@[simp] theorem completeStop_frame (s : State) :
    (completeStop s).tables = s.tables ∧ (completeStop s).sched = s.sched ∧ (completeStop s).track = s.track ∧
    (completeStop s).now = s.now ∧ (completeStop s).pending = s.pending := by
  unfold completeStop
  try dsimp only
  repeat' split
  all_goals simp

@[simp] theorem holdTrip_frame (c : HoldCause) (s : State) :
    (holdTrip c s).tables = s.tables ∧ (holdTrip c s).rope = s.rope ∧ (holdTrip c s).sup = s.sup ∧ (holdTrip c s).sched = s.sched ∧
    (holdTrip c s).track = s.track ∧ (holdTrip c s).doors = s.doors ∧ (holdTrip c s).board = s.board ∧ (holdTrip c s).links = s.links ∧
    (holdTrip c s).now = s.now ∧ (holdTrip c s).pending = s.pending := by
  unfold holdTrip
  try dsimp only
  all_goals simp

@[simp] theorem holdMove_frame (c : HoldCause) (s : State) :
    (holdMove c s).tables = s.tables ∧ (holdMove c s).sched = s.sched ∧ (holdMove c s).track = s.track ∧ (holdMove c s).now = s.now ∧
    (holdMove c s).pending = s.pending := by
  unfold holdMove
  try dsimp only
  repeat' split
  all_goals simp

@[simp] theorem startTrip_frame (s : State) :
    (startTrip s).tables = s.tables ∧ (startTrip s).rope = s.rope ∧ (startTrip s).sched = s.sched ∧ (startTrip s).track = s.track ∧
    (startTrip s).now = s.now ∧ (startTrip s).pending = s.pending := by
  unfold startTrip
  try dsimp only
  all_goals simp

@[simp] theorem restartTrip_frame (s : State) :
    (restartTrip s).tables = s.tables ∧ (restartTrip s).rope = s.rope ∧ (restartTrip s).sched = s.sched ∧
    (restartTrip s).track = s.track ∧ (restartTrip s).now = s.now ∧ (restartTrip s).pending = s.pending := by
  unfold restartTrip
  try dsimp only
  repeat' split
  all_goals simp

@[simp] theorem startMove_frame (s : State) :
    (startMove s).tables = s.tables ∧ (startMove s).rope = s.rope ∧ (startMove s).sched = s.sched ∧ (startMove s).track = s.track ∧
    (startMove s).doors = s.doors ∧ (startMove s).board = s.board ∧ (startMove s).links = s.links ∧ (startMove s).now = s.now ∧
    (startMove s).pending = s.pending := by
  unfold startMove
  try dsimp only
  all_goals simp

@[simp] theorem ebReleased_frame (s : State) :
    (ebReleased s).tables = s.tables ∧ (ebReleased s).rope = s.rope ∧ (ebReleased s).track = s.track ∧ (ebReleased s).doors = s.doors ∧
    (ebReleased s).board = s.board ∧ (ebReleased s).now = s.now ∧ (ebReleased s).pending = s.pending := by
  unfold ebReleased
  try dsimp only
  repeat' split
  all_goals simp

@[simp] theorem railReleased_frame (k : TestKind) (s : State) :
    (railReleased k s).tables = s.tables ∧ (railReleased k s).rope = s.rope ∧ (railReleased k s).track = s.track ∧
    (railReleased k s).doors = s.doors ∧ (railReleased k s).board = s.board ∧ (railReleased k s).now = s.now ∧
    (railReleased k s).pending = s.pending := by
  unfold railReleased
  try dsimp only
  repeat' split
  all_goals simp

@[simp] theorem endEbTest_frame (s : State) :
    (endEbTest s).tables = s.tables ∧ (endEbTest s).rope = s.rope ∧ (endEbTest s).track = s.track ∧ (endEbTest s).now = s.now ∧
    (endEbTest s).pending = s.pending := by
  unfold endEbTest
  try dsimp only
  repeat' split
  all_goals simp

@[simp] theorem endRailTest_frame (k : TestKind) (s : State) :
    (endRailTest k s).tables = s.tables ∧ (endRailTest k s).rope = s.rope ∧ (endRailTest k s).track = s.track ∧
    (endRailTest k s).now = s.now ∧ (endRailTest k s).pending = s.pending := by
  unfold endRailTest
  try dsimp only
  repeat' split
  all_goals simp

@[simp] theorem settleInterlock_frame (v : Bool) (s : State) :
    (settleInterlock v s).tables = s.tables ∧ (settleInterlock v s).sched = s.sched ∧ (settleInterlock v s).track = s.track ∧
    (settleInterlock v s).now = s.now ∧ (settleInterlock v s).pending = s.pending := by
  unfold settleInterlock
  try dsimp only
  repeat' split
  all_goals simp

@[simp] theorem settleHold_frame (s : State) :
    (settleHold s).tables = s.tables ∧ (settleHold s).rope = s.rope ∧ (settleHold s).trip = s.trip ∧ (settleHold s).sched = s.sched ∧
    (settleHold s).track = s.track ∧ (settleHold s).doors = s.doors ∧ (settleHold s).board = s.board ∧ (settleHold s).links = s.links ∧
    (settleHold s).now = s.now ∧ (settleHold s).pending = s.pending := by
  unfold settleHold
  try dsimp only
  repeat' split
  all_goals simp

@[simp] theorem settleEbApplied_frame (s : State) :
    (settleEbApplied s).tables = s.tables ∧ (settleEbApplied s).rope = s.rope ∧ (settleEbApplied s).trip = s.trip ∧
    (settleEbApplied s).sched = s.sched ∧ (settleEbApplied s).track = s.track ∧ (settleEbApplied s).doors = s.doors ∧
    (settleEbApplied s).board = s.board ∧ (settleEbApplied s).links = s.links ∧ (settleEbApplied s).now = s.now ∧
    (settleEbApplied s).pending = s.pending := by
  unfold settleEbApplied
  try dsimp only
  repeat' split
  all_goals simp

@[simp] theorem settleReleased_frame (s : State) :
    (settleReleased s).tables = s.tables ∧ (settleReleased s).rope = s.rope ∧ (settleReleased s).track = s.track ∧
    (settleReleased s).now = s.now ∧ (settleReleased s).pending = s.pending := by
  unfold settleReleased
  try dsimp only
  repeat' split
  all_goals simp

@[simp] theorem settleApplied_frame (s : State) :
    (settleApplied s).tables = s.tables ∧ (settleApplied s).rope = s.rope ∧ (settleApplied s).sched = s.sched ∧
    (settleApplied s).track = s.track ∧ (settleApplied s).doors = s.doors ∧ (settleApplied s).board = s.board ∧
    (settleApplied s).links = s.links ∧ (settleApplied s).now = s.now ∧ (settleApplied s).pending = s.pending := by
  unfold settleApplied
  try dsimp only
  repeat' split
  all_goals simp

@[simp] theorem settleComplete_frame (s : State) :
    (settleComplete s).tables = s.tables ∧ (settleComplete s).sched = s.sched ∧ (settleComplete s).track = s.track ∧
    (settleComplete s).now = s.now ∧ (settleComplete s).pending = s.pending := by
  unfold settleComplete
  try dsimp only
  repeat' split
  all_goals simp

@[simp] theorem settleTest_frame (s : State) :
    (settleTest s).tables = s.tables ∧ (settleTest s).rope = s.rope ∧ (settleTest s).track = s.track ∧ (settleTest s).now = s.now ∧
    (settleTest s).pending = s.pending := by
  unfold settleTest
  try dsimp only
  repeat' split
  all_goals simp

@[simp] theorem settleWith_frame (v : Bool) (s : State) :
    (settleWith v s).tables = s.tables ∧ (settleWith v s).track = s.track ∧ (settleWith v s).now = s.now ∧
    (settleWith v s).pending = s.pending := by
  unfold settleWith
  try dsimp only
  all_goals simp

@[simp] theorem settle_frame (b : State) (s : State) :
    (settle b s).tables = s.tables ∧ (settle b s).track = s.track ∧ (settle b s).now = s.now ∧ (settle b s).pending = s.pending := by
  unfold settle
  try dsimp only
  all_goals simp

@[simp] theorem profileStop_frame (s : State) :
    (profileStop s).tables = s.tables ∧ (profileStop s).rope = s.rope ∧ (profileStop s).sched = s.sched ∧
    (profileStop s).track = s.track ∧ (profileStop s).doors = s.doors ∧ (profileStop s).board = s.board ∧
    (profileStop s).links = s.links ∧ (profileStop s).now = s.now ∧ (profileStop s).pending = s.pending := by
  unfold profileStop
  try dsimp only
  repeat' split
  all_goals simp

@[simp] theorem profileStopAfter_frame (n : Nat) (s : State) :
    (profileStopAfter n s).tables = s.tables ∧ (profileStopAfter n s).rope = s.rope ∧ (profileStopAfter n s).sched = s.sched ∧
    (profileStopAfter n s).track = s.track ∧ (profileStopAfter n s).doors = s.doors ∧ (profileStopAfter n s).board = s.board ∧
    (profileStopAfter n s).links = s.links ∧ (profileStopAfter n s).now = s.now ∧ (profileStopAfter n s).pending = s.pending := by
  unfold profileStopAfter
  try dsimp only
  repeat' split
  all_goals simp

end Sys2Proof.Machine
end

