-- ==== Sys2Proof/Laws/Interlocks.lean ====
section
/-! SUPPORT. What the judgements that the interlocks share say, each as one equivalence with its rule in Safety, to be cited in place of
their definitions. -/

namespace Sys2Proof.Machine

/-! ### Doors secure (R163) -/

/-- Every present leaf of a side, compartment by compartment. -/
theorem allPresent_iff {α : Type} (p : α → Bool) (set : Byte) (l : Six α) (z : α) :
    allPresent p set l = true ↔ ∀ k < 6, set.getLsbD k = true → p (l.toList.getD k z) = true := by
  have h : ∀ m v : Bool, (!m || v) = true ↔ (m = true → v = true) := by decide
  simp only [allPresent, Six.ofFn, Six.zipWith, Six.toList, memberAt, List.all_cons, List.all_nil, Bool.and_true, Bool.and_eq_true, id, h]
  constructor
  · rintro ⟨h0, h1, h2, h3, h4, h5⟩ k hk
    match k, hk with
    | 0, _ => exact h0
    | 1, _ => exact h1
    | 2, _ => exact h2
    | 3, _ => exact h3
    | 4, _ => exact h4
    | 5, _ => exact h5
  · intro g
    exact ⟨g 0 (by decide), g 1 (by decide), g 2 (by decide), g 3 (by decide), g 4 (by decide), g 5 (by decide)⟩

theorem State.allLocked_iff (s : State) (x : Car) : s.allLocked x = true ↔
    ∀ d r, (s.track.cars.get x).ability = some r → ∀ k < 6, (r.leaves d).getLsbD k = true →
      ((s.doors.get x).leaves.get d).toList.getD k .absent = .locked := by
  unfold State.allLocked State.present sideList
  cases ha : (s.track.cars.get x).ability with
  | none => simp [allPresent_iff _ _ _ LeafRecord.absent]
  | some r =>
    simp only [List.all_cons, List.all_nil, Bool.and_true, Bool.and_eq_true, allPresent_iff _ _ _ LeafRecord.absent, beq_iff_eq]
    constructor
    · rintro ⟨h1, h2⟩ d r' e
      cases e; cases d
      exacts [h1, h2]
    · exact fun h => ⟨h .left r rfl, h .right r rfl⟩

/-- A car's records are current in COMPLETE and in CHECK (R143, R162). -/
theorem State.stale_eq_false (s : State) (x : Car) :
    s.stale x = false ↔ (s.track.cars.get x).link = .complete ∨ (s.track.cars.get x).link = .check := by
  unfold State.stale Link.usable; cases (s.track.cars.get x).link <;> simp

theorem CarDoors.anyGrant_eq_false (c : CarDoors) : c.anyGrant = false ↔ ∀ d, c.grants.get d = none := by
  unfold CarDoors.anyGrant
  constructor
  · intro h d; cases d <;> simp_all [PerSide.get]
  · intro h; have := h .left; have := h .right; simp_all [PerSide.get]

theorem State.secure_iff (s : State) (x : Car) : s.secure x = true ↔ DoorsSecure s x := by
  simp only [State.secure, DoorsSecure, Bool.and_eq_true, Bool.not_eq_true', s.stale_eq_false, s.allLocked_iff,
    CarDoors.anyGrant_eq_false, forall_and]
  tauto

/-! ### The parts of the interlocks -/

theorem State.anyGrant_eq_false (s : State) : s.anyGrant = false ↔ ∀ x d, (s.doors.get x).grants.get d = none := by
  simp only [State.anyGrant, Bool.or_eq_false_iff, CarDoors.anyGrant_eq_false]
  exact ⟨fun h x => by cases x; exacts [h.1, h.2], fun h => ⟨h .a, h .b⟩⟩

/-- The links, the leaves and the grants, as every interlock takes them together (R163). -/
theorem carsReady_iff (s : State) : (s.linksComplete && s.bothSecure && !s.anyGrant) = true ↔ CarsReady s := by
  simp only [State.linksComplete, State.bothSecure, Bool.and_eq_true, beq_iff_eq, Bool.not_eq_true', s.secure_iff, s.anyGrant_eq_false]
  constructor
  · rintro ⟨⟨⟨ha, hb⟩, sa, sb⟩, -⟩ x
    cases x
    exacts [⟨ha, sa⟩, ⟨hb, sb⟩]
  · exact fun h => ⟨⟨⟨(h .a).1, (h .b).1⟩, (h .a).2, (h .b).2⟩, fun x d => ((h x).2.2.2 d).1⟩

theorem BerthBoard.shut_iff (s : State) (b : Berth) : (s.board.berths.get b).shut = true ↔ BoardingShut s b := by
  unfold BerthBoard.shut BoardingShut; cases (s.board.berths.get b).state <;> simp

/-- A car's latest status block reports a passenger alarm. -/
theorem CarLink.alarm_iff (c : CarLink) : c.alarm = true ↔ ∃ k, c.block = some k ∧ k.alarm = true := by
  unfold CarLink.alarm; cases c.block <;> simp

/-- A car's latest status block reports the rail brake applied. -/
theorem CarLink.railApplied_iff (c : CarLink) : c.railApplied = true ↔ ∃ k, c.block = some k ∧ k.railApplied = true := by
  unfold CarLink.railApplied; cases c.block <;> simp

/-! ### The car at a berth (R179) -/

theorem State.carAt_iff (s : State) (x : Car) (b : Berth) : s.carAt b = some x ↔ StandsAt s x b := by
  have hA : ∀ k, s.berthA = some k ↔ ((s.trip.line = .parked ∨ s.trip.line = .testing .eb) ∧ s.trip.parkedBerth = some k ∨
      s.trip.line = .dispatch ∧ ∃ r, s.trip.record = some r ∧ r.start = some k) := by
    intro k; unfold State.berthA; split <;> simp_all [Option.bind_eq_some_iff]
  simp only [StandsAt, State.carAt, ← hA]
  cases hb : s.berthA with
  | none => simp
  | some k => cases k <;> cases b <;> cases x <;> simp [Berth.mirror]

end Sys2Proof.Machine
end

