-- ==== Sys2Proof/Laws/Ops.lean ====
section
/-! SUPPORT. What each shared operation does to the blocks it touches: one lemma per block, to be cited in place of the operation's
definition. What it leaves alone stands in Laws/Frames.lean. -/

namespace Sys2Proof.Machine

/-! ### Notices -/

@[simp] theorem raiseAll_links (n : Notice) (s : State) : (raiseAll n s).links = s.links.map fun q => q.raise n := rfl

@[simp] theorem raise_flags (q : PortState) (n : Notice) : (q.raise n).flags = q.flags ||| n.bit := rfl

/-- A raised flag is set (R213). -/
theorem raise_sets (q : PortState) (n : Notice) : (q.raise n).flags.getLsbD n.code = true := by
  cases n <;> simp [PortState.raise, Notice.bit, Notice.code]

/-- A flag already set stays set (R213). -/
theorem raise_keeps (q : PortState) (n : Notice) (k : Nat) (h : q.flags.getLsbD k = true) : (q.raise n).flags.getLsbD k = true := by
  simp [PortState.raise, h]

/-! ### The line record -/

@[simp] theorem enterLine_trip (l : LineState) (s : State) :
    (enterLine l s).trip = { s.trip with
      line := l
      parkedBerth := if l.keepsBerth then s.trip.parkedBerth else none
      consentLower := if l.clearsConsent then false else s.trip.consentLower
      consentUpper := if l.clearsConsent then false else s.trip.consentUpper } := by
  unfold enterLine; dsimp only; split <;> split <;> split <;> simp

@[simp] theorem enterLine_doors (l : LineState) (s : State) :
    (enterLine l s).doors =
      if l.clearsAlignment then ⟨{ s.doors.a with alignment := .none }, { s.doors.b with alignment := .none }⟩ else s.doors := by
  unfold enterLine; dsimp only; split <;> split <;> split <;> simp_all [setAlignments]

@[simp] theorem enterLine_board (l : LineState) (s : State) :
    (enterLine l s).board =
      if l.departs then { s.board with berths := s.board.berths.map BerthBoard.depart } else s.board := by
  unfold enterLine; dsimp only; split <;> split <;> split <;> simp_all

@[simp] theorem enterLine_links (l : LineState) (s : State) :
    (enterLine l s).links = if s.trip.line.noticed l then s.links.map fun q => q.raise .lineState else s.links := by
  unfold enterLine; dsimp only; split <;> split <;> split <;> simp_all [setAlignments]

@[simp] theorem enterParked_trip (b : Berth) (s : State) :
    (enterParked b s).trip =
      { s.trip with line := .parked, parkedBerth := some b, consentLower := false, consentUpper := false } := by
  simp [enterParked, LineState.clearsConsent]

@[simp] theorem enterParked_doors (b : Berth) (s : State) : (enterParked b s).doors = s.doors := by
  simp [enterParked, LineState.clearsAlignment]

@[simp] theorem enterParked_board (b : Berth) (s : State) : (enterParked b s).board = s.board := by
  simp [enterParked, LineState.departs]

@[simp] theorem enterParked_links (b : Berth) (s : State) :
    (enterParked b s).links = if s.trip.line.noticed .parked then s.links.map fun q => q.raise .lineState else s.links := by
  simp [enterParked]

@[simp] theorem clearStop_trip (s : State) : (clearStop s).trip = { s.trip with stop := .none, holdCause := none } := rfl

@[simp] theorem endRecord_trip (e : Ending) (s : State) :
    (endRecord e s).trip =
      { s.trip with record := s.trip.record.map fun r => if r.ending.isNone then { r with ending := some e } else r } := rfl

theorem setPhase_trip (ph : Phase) (s : State) :
    (setPhase ph s).trip =
      { s.trip with line := match s.trip.line with | .running _ => .running ph | l => l } := by
  unfold setPhase; split <;> simp_all

/-! ### Setpoints and output lines -/

@[simp] theorem emitFrame_trip (s : State) :
    (emitFrame s).trip = { s.trip with
      frameCount := (s.trip.frameCount + 1) % 256
      frame := ⟨s.frameDir, s.trip.held, s.trip.number, (s.trip.frameCount + 1) % 256⟩ } := rfl

@[simp] theorem forceZero_trip (s : State) :
    (forceZero s).trip = { s.trip with
      held := 0, forming := 0, frameCount := (s.trip.frameCount + 1) % 256
      frame := ⟨s.frameDir, 0, s.trip.number, (s.trip.frameCount + 1) % 256⟩ } := rfl

theorem armRollaway_sup (s : State) :
    (armRollaway s).sup = s.sup ∨ (armRollaway s).sup = { s.sup with rollaway := some s.rope.sRef } := by
  unfold armRollaway; split <;> simp

@[simp] theorem armRollaway_outputs (s : State) :
    (armRollaway s).sup.ebRel = s.sup.ebRel ∧ (armRollaway s).sup.sbRel = s.sup.sbRel ∧ (armRollaway s).sup.drvEn = s.sup.drvEn ∧
    (armRollaway s).sup.ebFb = s.sup.ebFb ∧ (armRollaway s).sup.sbFb = s.sup.sbFb ∧ (armRollaway s).sup.ebLimit = s.sup.ebLimit ∧
    (armRollaway s).sup.sbLimit = s.sup.sbLimit ∧ (armRollaway s).sup.dirWatch = s.sup.dirWatch ∧
    (armRollaway s).sup.causes = s.sup.causes ∧ (armRollaway s).sup.overflow = s.sup.overflow ∧
    (armRollaway s).sup.lastTrip = s.sup.lastTrip ∧ (armRollaway s).sup.lastService = s.sup.lastService ∧
    (armRollaway s).sup.railOrder = s.sup.railOrder ∧ (armRollaway s).sup.orderClears = s.sup.orderClears ∧
    (armRollaway s).sup.windCap = s.sup.windCap ∧ (armRollaway s).sup.certCap = s.sup.certCap ∧
    (armRollaway s).sup.envelope = s.sup.envelope ∧ (armRollaway s).sup.overS = s.sup.overS ∧
    (armRollaway s).sup.warning = s.sup.warning ∧ (armRollaway s).sup.serviceCount = s.sup.serviceCount ∧
    (armRollaway s).sup.tripCount = s.sup.tripCount := by
  rcases armRollaway_sup s with h | h <;> simp [h]

@[simp] theorem setEb_sup (v : Bool) (s : State) : (setEb v s).sup = s.sup.withEb v := by
  unfold setEb Sup.withEb; split
  · rfl
  · have h : (s.sup.ebFb != v) = decide (s.sup.ebFb ≠ v) := by cases s.sup.ebFb <;> cases v <;> rfl
    simp only [h]

@[simp] theorem withEb_ebRel (v : Sup) (b : Bool) : (v.withEb b).ebRel = b := by
  unfold Sup.withEb; split <;> simp_all

@[simp] theorem withEb_keeps (v : Sup) (b : Bool) :
    (v.withEb b).sbRel = v.sbRel ∧ (v.withEb b).drvEn = v.drvEn ∧ (v.withEb b).ebFb = v.ebFb ∧ (v.withEb b).sbFb = v.sbFb ∧
    (v.withEb b).sbLimit = v.sbLimit ∧ (v.withEb b).dirWatch = v.dirWatch ∧ (v.withEb b).rollaway = v.rollaway ∧
    (v.withEb b).causes = v.causes ∧ (v.withEb b).overflow = v.overflow ∧ (v.withEb b).lastTrip = v.lastTrip ∧
    (v.withEb b).lastService = v.lastService ∧ (v.withEb b).railOrder = v.railOrder ∧ (v.withEb b).orderClears = v.orderClears ∧
    (v.withEb b).windCap = v.windCap ∧ (v.withEb b).certCap = v.certCap ∧ (v.withEb b).envelope = v.envelope ∧
    (v.withEb b).overS = v.overS ∧ (v.withEb b).warning = v.warning ∧ (v.withEb b).serviceCount = v.serviceCount ∧
    (v.withEb b).tripCount = v.tripCount := by
  unfold Sup.withEb; split <;> simp

@[simp] theorem setSb_sbRel (v : Bool) (s : State) : (setSb v s).sup.sbRel = v := by
  unfold setSb; split
  · assumption
  · dsimp only; split <;> simp_all

@[simp] theorem setSb_keeps (v : Bool) (s : State) :
    (setSb v s).sup.ebRel = s.sup.ebRel ∧ (setSb v s).sup.drvEn = s.sup.drvEn ∧ (setSb v s).sup.ebFb = s.sup.ebFb ∧
    (setSb v s).sup.sbFb = s.sup.sbFb ∧ (setSb v s).sup.ebLimit = s.sup.ebLimit ∧ (setSb v s).sup.causes = s.sup.causes ∧
    (setSb v s).sup.overflow = s.sup.overflow ∧ (setSb v s).sup.lastTrip = s.sup.lastTrip ∧
    (setSb v s).sup.lastService = s.sup.lastService ∧ (setSb v s).sup.railOrder = s.sup.railOrder ∧
    (setSb v s).sup.orderClears = s.sup.orderClears ∧ (setSb v s).sup.windCap = s.sup.windCap ∧
    (setSb v s).sup.certCap = s.sup.certCap ∧ (setSb v s).sup.envelope = s.sup.envelope ∧ (setSb v s).sup.overS = s.sup.overS ∧
    (setSb v s).sup.warning = s.sup.warning ∧ (setSb v s).sup.serviceCount = s.sup.serviceCount ∧
    (setSb v s).sup.tripCount = s.sup.tripCount := by
  unfold setSb; split
  · simp
  · dsimp only; split <;> simp

@[simp] theorem setDrv_sup (v : Bool) (s : State) : (setDrv v s).sup = { s.sup with drvEn := v } := by
  unfold setDrv; split
  · rename_i h; rw [← h]
  · dsimp only; split
    · split <;> rfl
    · rfl

@[simp] theorem setDrv_off_trip (s : State) :
    (setDrv false s).trip = if s.sup.drvEn then { s.trip with stepping := false } else s.trip := by
  unfold setDrv; cases h : s.sup.drvEn <;> simp

/-! ### Berths, grants and close orders -/

@[simp] theorem moveBerth_board (b : Berth) (s : State) :
    (moveBerth b s).board = { s.board with berths := s.board.berths.set b (s.board.berths.get b).moveOut } := rfl

@[simp] theorem moveAllBerths_board (s : State) :
    (moveAllBerths s).board = { s.board with berths := s.board.berths.map BerthBoard.moveOut } := rfl

/-- A berth moved twice stands as after one move (R182). -/
@[simp] theorem moveOut_moveOut (v : BerthBoard) : v.moveOut.moveOut = v.moveOut := by
  obtain ⟨st, pen, al, l, q, la, e⟩ := v
  cases st <;> simp [BerthBoard.moveOut]
  cases l <;> simp

/-- What R182 leaves of a berth. -/
theorem moveOut_keeps (v : BerthBoard) :
    v.moveOut.pen = v.pen ∧ v.moveOut.alighting = v.alighting ∧ v.moveOut.pending = v.pending ∧
    v.moveOut.quotaRefused = v.quotaRefused ∧ v.moveOut.late = v.late ∧ v.moveOut.excess = v.excess := by
  unfold BerthBoard.moveOut; split <;> simp

/-- After R182 a berth is neither OPEN nor ARMED. -/
theorem moveOut_not_open (v : BerthBoard) : v.moveOut.state ≠ .open ∧ v.moveOut.state ≠ .armed := by
  unfold BerthBoard.moveOut
  cases h : v.state <;> simp_all
  cases v.pending <;> simp

/-- One side's grant withdrawn: it is gone, its side ordered closed where it was active, and the records and marks stand. -/
theorem withdraw_doors (x : Car) (d : Side) (s : State) :
    (withdraw x d s).doors = s.doors.set x ((s.doors.get x).dropGrant d) := by
  unfold withdraw
  split
  · dsimp only; split <;> simp [State.setDoors]
  · rename_i h; simp [CarDoors.dropGrant, h]

theorem withdraw_board (x : Car) (d : Side) (s : State) :
    (withdraw x d s).board.cars = s.board.cars ∧
    ∀ b, (withdraw x d s).board.berths.get b = s.board.berths.get b ∨
      (withdraw x d s).board.berths.get b = (s.board.berths.get b).moveOut := by
  unfold withdraw
  split
  · rename_i g hg
    dsimp only; split
    · simp [State.setDoors]
    · refine ⟨by simp [State.setDoors], fun b => ?_⟩
      by_cases hb : b = g.berth
      · right; subst hb; simp [State.setDoors]
      · left; simp [State.setDoors, PerBerth.get_set_ne _ _ _ _ hb]
  · simp

theorem dropGrant_none (c : CarDoors) (d : Side) : (c.dropGrant d).grants.get d = none := by
  unfold CarDoors.dropGrant; split <;> simp_all

theorem dropGrant_other (c : CarDoors) (d e : Side) (h : e ≠ d) :
    (c.dropGrant d).grants.get e = c.grants.get e ∧ (c.dropGrant d).close.get e = c.close.get e := by
  unfold CarDoors.dropGrant; split <;> simp [PerSide.get_set_ne _ _ _ _ h]

theorem dropGrant_close (c : CarDoors) (d : Side) : (c.dropGrant d).close.get d = (c.close.get d || (c.grants.get d).isSome) := by
  unfold CarDoors.dropGrant; split <;> simp_all

@[simp] theorem dropGrant_keeps (c : CarDoors) (d : Side) :
    (c.dropGrant d).leaves = c.leaves ∧ (c.dropGrant d).alignment = c.alignment ∧ (c.dropGrant d).marks = c.marks := by
  unfold CarDoors.dropGrant; split <;> simp

/-- After R170 no grant of the car is active. -/
theorem dropBoth_anyGrant (c : CarDoors) : ((c.dropGrant .left).dropGrant .right).anyGrant = false := by
  have h1 := dropGrant_none (c.dropGrant .left) .right
  have h2 := (dropGrant_other (c.dropGrant .left) .right .left (by decide)).1
  have h3 := dropGrant_none c .left
  simp only [PerSide.get] at h1 h2 h3
  simp [CarDoors.anyGrant, h1, h2, h3]

@[simp] theorem withdrawAll_doors (s : State) :
    (withdrawAll s).doors =
      ⟨(s.doors.a.dropGrant .left).dropGrant .right, (s.doors.b.dropGrant .left).dropGrant .right⟩ := by
  simp [withdrawAll, withdrawCar, withdraw_doors, PerCar.get, PerCar.set]

/-- R169 and R170: after every grant is withdrawn none is active. -/
@[simp] theorem withdrawAll_anyGrant (s : State) : (withdrawAll s).anyGrant = false := by
  simp [State.anyGrant, dropBoth_anyGrant]

theorem withdrawAll_board (s : State) :
    (withdrawAll s).board.cars = s.board.cars ∧
    ∀ b, (withdrawAll s).board.berths.get b = s.board.berths.get b ∨
      (withdrawAll s).board.berths.get b = (s.board.berths.get b).moveOut := by
  have step : ∀ (x : Car) (d : Side) (t : State),
      (t.board.cars = s.board.cars ∧ ∀ b, t.board.berths.get b = s.board.berths.get b ∨
        t.board.berths.get b = (s.board.berths.get b).moveOut) →
      ((withdraw x d t).board.cars = s.board.cars ∧ ∀ b, (withdraw x d t).board.berths.get b = s.board.berths.get b ∨
        (withdraw x d t).board.berths.get b = (s.board.berths.get b).moveOut) := by
    intro x d t h
    refine ⟨(withdraw_board x d t).1.trans h.1, fun b => ?_⟩
    rcases (withdraw_board x d t).2 b with e | e <;> rcases h.2 b with f | f <;> simp [e, f]
  exact step _ _ _ (step _ _ _ (step _ _ _ (step _ _ _ ⟨rfl, fun b => Or.inl rfl⟩)))

@[simp] theorem closeCar_doors (x : Car) (s : State) :
    (closeCar x s).doors = s.doors.set x { s.doors.get x with close :=
      ⟨(s.doors.get x).close.left || s.present x .left != 0, (s.doors.get x).close.right || s.present x .right != 0⟩ } := rfl

@[simp] theorem closeAll_doors (s : State) :
    (closeAll s).doors =
      ⟨{ s.doors.a with close := ⟨s.doors.a.close.left || s.present .a .left != 0, s.doors.a.close.right || s.present .a .right != 0⟩ },
       { s.doors.b with close := ⟨s.doors.b.close.left || s.present .b .left != 0, s.doors.b.close.right || s.present .b .right != 0⟩ }⟩ :=
  rfl

@[simp] theorem closeAll_anyGrant (s : State) : (closeAll s).anyGrant = s.anyGrant := rfl

/-! ### Trip causes -/

@[simp] theorem tripLine_sup (e : CauseEntry) (s : State) :
    (tripLine e s).sup.causes = [e] ∧ (tripLine e s).sup.ebRel = false ∧ (tripLine e s).sup.sbRel = false ∧
    (tripLine e s).sup.drvEn = false ∧ (tripLine e s).sup.ebFb = s.sup.ebFb ∧ (tripLine e s).sup.sbFb = s.sup.sbFb ∧
    (tripLine e s).sup.ebLimit = s.sup.ebFb ∧ (tripLine e s).sup.sbLimit = s.sup.sbFb ∧
    (tripLine e s).sup.overflow = s.sup.overflow ∧ (tripLine e s).sup.lastTrip = s.sup.lastTrip ∧
    (tripLine e s).sup.tripCount = min 255 (s.sup.tripCount + 1) ∧ (tripLine e s).sup.serviceCount = s.sup.serviceCount := by
  have h : ∀ (x : Car) (t : State), (clearTestOrder x t).sup = t.sup ∨
      (∃ o, (clearTestOrder x t).sup = { t.sup with railOrder := o }) ∨ ∃ o, (clearTestOrder x t).sup = { t.sup with orderClears := o } := by
    intro x t; unfold clearTestOrder; split
    · split
      · exact Or.inr (Or.inl ⟨_, rfl⟩)
      · exact Or.inr (Or.inr ⟨_, rfl⟩)
    · exact Or.inl rfl
  have k : ∀ t : State, ∃ o c, (endTestAtTrip t).sup = { t.sup with railOrder := o, orderClears := c } := by
    intro t; unfold endTestAtTrip; split
    · rename_i m g _
      dsimp only
      have keep : ∀ u : State, u.sup = t.sup → ∃ o c, (clearTestOrder .b (clearTestOrder .a u)).sup =
          { t.sup with railOrder := o, orderClears := c } := by
        intro u hu
        rcases h .a u with e1 | ⟨o, e1⟩ | ⟨o, e1⟩ <;> rcases h .b (clearTestOrder .a u) with e2 | ⟨q, e2⟩ | ⟨q, e2⟩ <;>
          rw [e2, e1, hu] <;> exact ⟨_, _, rfl⟩
      apply keep
      split <;> simp
    · exact ⟨_, _, rfl⟩
  unfold tripLine; dsimp only
  obtain ⟨o, c, e'⟩ := k (tripController (forceZero (setDrv false (setSb false (setEb false s)))))
  simp [restartFeedback, e', satAdd]

end Sys2Proof.Machine
end

