-- ==== Sys2Proof/Laws/Lines.lean ====
section
/-! SUPPORT. What the receivers and the track line take of a character, to be cited in place of the judgements' definitions. -/

namespace Sys2Proof.Machine

/-! ### Characters of the track line (R134, R152) -/

@[simp] theorem lineChar_data (b : Byte) : (lineChar b).data = b := rfl

@[simp] theorem soundChar_lineChar (b : Byte) : soundChar (lineChar b) = true := by
  simp only [soundChar, lineChar, Bool.true_and, beq_iff_eq]; rfl

/-- A character is free of error exactly where it is the one that its data is sent as. -/
theorem soundChar_iff (c : LineChar) : soundChar c = true ↔ c = lineChar c.data := by
  obtain ⟨b, p, t⟩ := c
  cases t <;> simp [soundChar, lineChar]

@[simp] theorem soundBytes_lineChar (l : List Byte) : soundBytes (l.map lineChar) = some l := by
  simp [soundBytes, Function.comp_def]

@[simp] theorem readStatus_lineChar (x : Car) (l : List Byte) : readStatus x (l.map lineChar) = parseStatus x l := by simp [readStatus]

@[simp] theorem readAbility_lineChar (x : Car) (l : List Byte) : readAbility x (l.map lineChar) = parseAbility x l := by simp [readAbility]

/-- Characters of which one has an error are no status block and no ability record. -/
theorem soundBytes_none (l : List LineChar) (h : ∃ c ∈ l, soundChar c = false) : soundBytes l = none := by
  obtain ⟨c, hc, hs⟩ := h
  have : ¬l.all soundChar = true := fun ha => by simp [List.all_eq_true.mp ha c hc] at hs
  simp [soundBytes, this]

/-- The one character that is a car's ACCEPT. -/
theorem acceptOf_eq_some (c : LineChar) (x : Car) : acceptOf c = some x ↔ c = lineChar x.acceptCode := by
  constructor
  · intro h
    unfold acceptOf at h
    split at h
    · rename_i hs
      have hd : x.acceptCode == c.data := List.find?_some (p := fun y : Car => y.acceptCode == c.data) h
      rw [(soundChar_iff c).mp hs, ← (beq_iff_eq.mp hd)]
    · cases h
  · rintro rfl; cases x <;> decide

/-- The one character that is a car's call. -/
theorem callOf_eq_some (c : LineChar) (x : Car) : callOf c = some x ↔ c = lineChar x.callCode := by
  constructor
  · intro h
    unfold callOf at h
    split at h
    · rename_i hs
      have hd : x.callCode == c.data := List.find?_some (p := fun y : Car => y.callCode == c.data) h
      rw [(soundChar_iff c).mp hs, ← (beq_iff_eq.mp hd)]
    · cases h
  · rintro rfl; cases x <;> decide

/-! ### Drives of the track line -/

/-- All that a call does: it changes one car's link record and the out-of-turn list (R140). -/
theorem takeCall_frame (x : Car) (s : State) : ∃ c l, takeCall x s =
    s.setTrack { s.track with cars := s.track.cars.set x { s.track.cars.get x with window := true, calls := c }, outOfTurn := l } := by
  unfold takeCall
  dsimp only
  split
  · rename_i h; exact ⟨satAdd 255 (s.track.cars.get x).calls 1, s.track.outOfTurn, by simp [State.setCar, State.setTrack, ← h]⟩
  · exact ⟨(s.track.cars.get x).calls, _, rfl⟩

/-- A stray drive in FREE is a garbled call (R141), elsewhere a drive alone. -/
theorem strayDrive_eq (s : State) :
    strayDrive s = if s.track.phase = .free then takeCall .b (takeCall .a (unquiet s)) else unquiet s := by
  have h : (unquiet s).track.phase = s.track.phase := rfl
  unfold strayDrive
  simp only [h]
  split <;> simp_all

/-- One character outside FREE, where no ACCEPT would be heard, is a drive alone. -/
theorem oneCharacter_unheard (c : LineChar) (s : State) (h : s.track.phase ≠ .free) (ha : s.track.hearsAccept = false) :
    oneCharacter c s = unquiet s := by
  unfold oneCharacter
  split <;> simp_all

/-- One character in FREE (R140, R141). -/
theorem oneCharacter_free (c : LineChar) (s : State) (h : s.track.phase = .free) :
    oneCharacter c s = match callOf c with
      | some x => takeCall x (unquiet s)
      | none => strayDrive s := by
  unfold oneCharacter
  split
  · rfl
  all_goals simp_all

/-- The selected car's ACCEPT (R136, R137). -/
theorem oneCharacter_accept (t : Turn) (s : State) (h : s.track.phase = .select) (ha : s.track.hearsAccept = true)
    (ht : s.track.turn = some t) : oneCharacter (lineChar t.car.acceptCode) s = settle s (takeAccept t s) := by
  simp [oneCharacter, h, ha, ht, (acceptOf_eq_some (lineChar t.car.acceptCode) t.car).mpr rfl]

/-! ### The receivers (R203) -/

/-- After FRAMING the receiver waits for a high line. -/
@[simp] theorem framingError_waits (p : Port) (s : State) : ((framingError p s).links.get p).waitHigh = true := by
  unfold framingError badCharacter discard linkError
  cases p <;> dsimp only [State.setPort, PerPort.get, PerPort.set] <;> split <;> rfl

end Sys2Proof.Machine
end

