-- ==== Sys2Proof/WellFormed.lean ====
section
/-! DEFINITION. The checks a command passes before it can stand for an event of the part: a request's body fits a frame (R205), a character
has eleven bits (R203), an answer on the track line has the length of its kind (R152). -/

namespace Sys2Proof

/-- The most body bytes of a frame (R205). -/
def maxBody : Nat := 48

/-- A request body fits a frame. -/
def bodyFits (body : List Byte) : Bool := decide (body.length ≤ maxBody)

/-- Whether a command is well formed. -/
def Instr.wellFormed : Instr → Bool
  | .powerOn => true
  | .lineReset => true
  | .stationCharacterReceived _ samples => samples.length == 11
  | .gapLimitExpiry _ => true
  | .answerSent _ => true
  | .statusRead _ body => bodyFits body
  | .noticeClear _ body => bodyFits body
  | .noticeEnable _ body => bodyFits body
  | .countsRead _ body => bodyFits body
  | .emergencyStop _ body => bodyFits body
  | .tableBegin _ body => bodyFits body
  | .tableEntries _ body => bodyFits body
  | .tableCommit _ body => bodyFits body
  | .tableRead _ body => bodyFits body
  | .openLine _ body => bodyFits body
  | .closeLine _ body => bodyFits body
  | .modeSet _ body => bodyFits body
  | .run _ body => bodyFits body
  | .hold _ body => bodyFits body
  | .resume _ body => bodyFits body
  | .tripReset _ body => bodyFits body
  | .recoveryMove _ body => bodyFits body
  | .brakeTest _ body => bodyFits body
  | .railTest _ body => bodyFits body
  | .departConsent _ body => bodyFits body
  | .doorRelease _ body => bodyFits body
  | .doorClose _ body => bodyFits body
  | .boardingOpen _ body => bodyFits body
  | .boardingClose _ body => bodyFits body
  | .admission _ body => bodyFits body
  | .passage _ body => bodyFits body
  | .stationClear _ body => bodyFits body
  | .weather _ body => bodyFits body
  | .stalenessLimitExpiry => true
  | .countStep _ _ _ => true
  | .quadratureError _ => true
  | .standstillGapExpiry _ => true
  | .standstillDwellExpiry => true
  | .markerEdge _ _ => true
  | .supervisionSample => true
  | .profileStep => true
  | .brakeFeedbackChange _ _ => true
  | .brakeFeedbackLimitExpiry _ => true
  | .dispatchTimeout => true
  | .ebTestWindowExpiry => true
  | .creepLimitExpiry => true
  | .brakeLimitExpiry => true
  | .obligationMinute => true
  | .passageWindowExpiry _ => true
  | .pollTimerExpiry => true
  | .freeIntervalReached => true
  | .selectionSent => true
  | .acceptReceived _ => true
  | .commandBlockSent => true
  | .acceptLimitExpiry => true
  | .answerLimitExpiry => true
  | .invalidAnswerReceived => true
  | .statusBlockReceived chars => chars.length == 17
  | .abilityRecordReceived chars => chars.length == 15
  | .callReceived _ => true
  | .garbledCall => true
  | .callWindowExpiry _ => true
  | .trackDriveStart => true
  | .trackDriveEnd => true
  | .driveLimitExpiry => true
  | .silenceLimitExpiry _ => true
  | .freshnessLimitExpiry _ => true
  | .startEdge _ => true

end Sys2Proof
end

