-- ==== Sys2Proof/Tests/Slice0.lean ====
section
/-! SUPPORT. Tests: the checks of WellFormed with ill-formed terms, worked examples of the spec, and for every obligation with hypotheses a
state and operands that meet them (the name of such a theorem is `witness_`, the obligation, the clause). -/

namespace Sys2Proof.Tests

open Sys2Proof Sys2Proof.Machine

/-! ### WellFormed -/

/-- A body of one byte more than a frame holds (R205). -/
def longBody : List Byte := List.replicate 49 0

theorem test_long_bodies_are_refused : (requestList.map fun r => (r.command .d longBody).wellFormed) = List.replicate 28 false := by decide

theorem test_longest_bodies_pass : (requestList.all fun r => (r.command .us (List.replicate 48 0)).wellFormed) = true := by decide

theorem test_short_character_is_refused : (Instr.stationCharacterReceived .d (List.replicate 10 7#3)).wellFormed = false := by decide

theorem test_short_status_block_is_refused : (Instr.statusBlockReceived (List.replicate 16 (lineChar 0))).wellFormed = false := by decide

theorem test_long_ability_record_is_refused : (Instr.abilityRecordReceived (List.replicate 16 (lineChar 0))).wellFormed = false := by decide

/-! ### Worked examples of the spec -/

/-- R205: a COUNTS READ request with an empty body is sent as C3 04 00 54. -/
theorem test_counts_read_frame : frameBytes Request.countsRead.code [] = [0xC3, 0x04, 0x00, 0x54] := by decide +kernel

/-- R203: 0x5A sent with even parity: start 0, data 01011010 least significant bit first, parity 0, stop 1. -/
theorem test_character : judgeChar ([false, false, true, false, true, true, false, true, false, false, true].map fun b => if b then 7#3 else 0#3) =
    .good 0x5A := by decide +kernel

/-- R152 and R134: 0x61 has three bits set and so parity 1, 0x72 four and parity 0; the other parity is a character error. -/
theorem test_track_characters : acceptOf ⟨0x61, true, true⟩ = some .a ∧ acceptOf ⟨0x61, false, true⟩ = none ∧ callOf ⟨0x72, false, true⟩ = some .b ∧
    callOf ⟨0x72, false, false⟩ = none := by decide

/-- R216: the twelve leaf records follow one another compartment by compartment, LEFT first, with UNREPORTED as 7. -/
theorem test_leaf_records : (blockOrder ⟨Six.ofFn fun k => if k = 0 then LeafRecord.unreported else .locked, Six.ofFn fun _ => .absent⟩).map
    LeafRecord.code = [7, 0, 1, 0, 1, 0, 1, 0, 1, 0, 1, 0] := by decide

/-- R20: 12,345 counts at SCALE 4000 give 49,380 mm, and -3 counts at SCALE 4500 give -14 mm. -/
theorem test_round_half_away : roundHalfAway (12345 * 4000) 1000 = 49380 ∧ roundHalfAway (-3 * 4500) 1000 = -14 := by decide

/-- R69: isqrt(91,450,000) = 9562. -/
theorem test_isqrt : isqrt 91450000 = 9562 := by decide

/-- R19: the sequence 00, 10, 11, 01, 00 of the levels of A and B is travel of +1 at each change. -/
theorem test_count_sequence :
    [stepDir .a true false, stepDir .b true true, stepDir .a false true, stepDir .b false false] = [.up, .up, .up, .up] := by decide

/-- R60: from B1 an UP RUN with the halt flag targets B2 for car A, without it B3; from B2 with the flag B3. -/
theorem test_run_targets : [runTarget .up true .b1, runTarget .up false .b1, runTarget .up true .b2] = [some .b2, some .b3, some .b3] := by decide

/-- R76: a car that stops 80 mm past gives L = 40, and 30 mm short with L = 40 gives L = 25. -/
theorem test_learned_offset : learned 0 80 = 40 ∧ learned 40 (-30) = 25 := by decide

/-- R119: a pass at debt 0 gives -1, two give -2, and a third gives -2 again. -/
theorem test_debts : [debtAfter .pass 0, debtAfter .pass (-1), debtAfter .pass (-2), debtAfter .pass 3, debtAfter .fail 0] = [-1, -2, -2, 0, 3] := by
  decide

/-! ### A commissioned line (section 1.6) -/

def header : Header :=
  { lineLen := 2400000, vLine := 12000, aAcc := 600, aDec := 1050, aSb := 1200, vCr := 500, dM := 2000, creepRun := 3000, scale := 4000,
    reducedCap := 6000, inspectionCap := 1000, uncertainCap := 3000, windCap1 := 9000, windCap2 := 6000, windCap3 := 3000,
    ebInterval := 480, railAInterval := 1440, railBInterval := 1440, coldLimit := 3, passageWindow := 8, alightAllow := 0 }

def sections : List SectionEntry := [⟨0, 150000, 6000⟩, ⟨150000, 2250000, 12000⟩, ⟨2250000, 2400000, 6000⟩]

def berths : PerBerth BerthEntry :=
  ⟨⟨3000, 2000, 4000, 2, 1, 4, 0⟩, ⟨1100000, 1099000, 1101000, 1, 2, 3, 0⟩, ⟨1300500, 1299500, 1301500, 2, 2, 3, 0⟩,
   ⟨2397000, 2396000, 2398000, 3, 1, 4, 1⟩⟩

/-- Four compartments of 30, with leaves on the two sides as given. -/
def ability (identity : Nat) (left right : Byte) : Ability :=
  let r : Ability := ⟨identity, 4, ⟨30, 30, 30, 30, 0, 0⟩, left, right, 0, 0⟩
  { r with digest := r.sum }

def gates : List GateEntry :=
  [⟨1, 0⟩, ⟨1, 0⟩, ⟨2, 0⟩, ⟨1, 1⟩, ⟨2, 1⟩, ⟨0, 0⟩, ⟨0, 0⟩, ⟨0, 0⟩, ⟨1, 3⟩, ⟨1, 3⟩, ⟨1, 3⟩, ⟨2, 3⟩, ⟨1, 2⟩, ⟨2, 2⟩, ⟨0, 0⟩, ⟨0, 0⟩]

def rules : List RuleEntry := [⟨0x40, 0x0F, 0x0F, 1, 6⟩, ⟨0x80, 0x7F, 8, 2, 1⟩]

def tables : Tables :=
  { header := some header, sections := some sections, berths := some berths, markers := some [], cars := some ⟨ability 257 3 12, ability 258 12 3⟩,
    gates := some gates, rules := rules, rulesMark := true, staging := none }

/-- A car's link in COMPLETE with a fresh block of locked leaves. -/
def carLink (r : Ability) : CarLink := { CarLink.reset with link := .complete, silence := true, fresh := true, ability := some r, reported := some r }

/-- A car with all leaves of compartments 1 to 4 locked, standing aligned. -/
def carDoors (left right : Byte) : CarDoors :=
  { CarDoors.reset with
    leaves := ⟨.ofFn fun k => if memberAt left k then .locked else .absent, .ofFn fun k => if memberAt right k then .locked else .absent⟩
    alignment := .aligned }

/-- The line PARKED with car A at B0 and car B at B3, at standstill, KNOWN, links COMPLETE, no debt. -/
def parked : State :=
  { State.reset with
    tables := tables
    rope := { Rope.reset with base := 3000, base2 := 3000, sRef := 3000, flag := true, dwell := false, certainty := .known,
                              switches := ⟨true, false, false, true⟩ }
    trip := { Trip.reset with line := .parked, parkedBerth := some .b0, number := 65535, weather := ⟨some 10, 2, false, true⟩ }
    sup := { Sup.reset with ebRel := true, ebFb := true }
    sched := { Sched.reset with obligations := ⟨⟨0, 0, 480⟩, ⟨0, 0, 1440⟩, ⟨0, 0, 1440⟩⟩ }
    track := { Track.reset with cars := ⟨carLink (ability 257 3 12), carLink (ability 258 12 3)⟩ }
    doors := ⟨carDoors 3 12, carDoors 12 3⟩
    board := { Board.reset with cars := ⟨⟨0, false⟩, ⟨0, false⟩⟩ } }

/-- `parked` in another line state. -/
def inLine (l : LineState) : State := { parked with trip := { parked.trip with line := l } }

/-- A live trip record from B0 to B3. -/
def record : TripRecord := ⟨1, .run, .up, 12000, some .b0, ⟨.b3, .b0⟩, none, none⟩

/-- `inLine` with the record and the stop given. -/
def inTrip (l : LineState) (st : StopKind) : State :=
  { parked with trip := { parked.trip with line := l, record := some record, stop := st, parkedBerth := none } }

/-- `parked` with grants active for both cars and berth B0 in a boarding state with a pending list. -/
def boarding (st : BoardingState) (pending : List Pending) : State :=
  { parked with
    doors := ⟨{ parked.doors.a with grants := ⟨none, some ⟨.b0, 12, 1, .auto⟩⟩ }, { parked.doors.b with grants := ⟨some ⟨.b3, 12, 1, .auto⟩, none⟩ }⟩
    board := { parked.board with berths := { parked.board.berths with b0 := { BerthBoard.reset with state := st, pending := pending } } } }

/-- `parked` with the executing slot of the drive port occupied, and a frame waiting or none. -/
def executing (w : Option Frame) : State :=
  parked.setPort .d { parked.links.d with executing := some ⟨0x04, []⟩, waiting := w }

/-! ### Witnesses: the machine and the station links -/

theorem witness_StepTakesTheFrontCommand_idle : State.reset.pending = [] := rfl

theorem witness_EveryCommandGoesOn_time : ∀ ch line at_, Instr.profileStep ≠ .countStep ch line at_ := by
  intro ch line at_ h; cases h

theorem witness_SettlingIsFramed_still : State.reset.trip.line.still = true := rfl

theorem witness_RequestsPassThroughTheSlots_refused : parked.portFree .ls ∧ Request.run.permitted .ls = false := ⟨rfl, rfl⟩

theorem witness_RequestsPassThroughTheSlots_taken : parked.portFree .d ∧ Request.hold.permitted .d = true ∧
    Request.hold.serve .d [] parked = (parked, ⟨.wrongState, .none⟩) := ⟨rfl, rfl, rfl⟩

theorem witness_RequestsPassThroughTheSlots_waits : ((executing none).links.get .d).executing = some ⟨0x04, []⟩ ∧
    ((executing none).links.get .d).waiting = none := ⟨rfl, rfl⟩

theorem witness_RequestsPassThroughTheSlots_overruns : ((executing (some ⟨0x05, []⟩)).links.get .d).executing = some ⟨0x04, []⟩ ∧
    ((executing (some ⟨0x05, []⟩)).links.get .d).waiting = some ⟨0x05, []⟩ := ⟨rfl, rfl⟩

theorem witness_RequestsPassThroughTheSlots_next : ((executing (some ⟨Request.hold.code, []⟩)).links.get .d).waiting =
    some ⟨Request.hold.code, []⟩ := rfl

theorem witness_RequestsPassThroughTheSlots_unknown : ((executing (some ⟨0x80, []⟩)).links.get .d).waiting = some ⟨0x80, []⟩ ∧
    ∀ r : Request, r.code ≠ 0x80 := ⟨rfl, fun r => by cases r <;> decide⟩

theorem witness_FrameCharactersMakeTheCommand : (List.replicate 48 (0 : Byte)).length ≤ 48 ∧ (parked.links.get .us).rx = .hunt := by decide

/-- R203: after FRAMING the receiver waits for a high line, so a second all-low character is not counted. -/
theorem test_framing_waits_for_a_high_line : (match runCommands (List.replicate 2 (.stationCharacterReceived .d (List.replicate 11 0))) parked with
    | .next t => t.links.d.framing
    | _ => 0) = 1 := by decide +kernel

theorem witness_DamagedFrameIsDiscarded_waits : (parked.links.get .d).waitHigh = false ∧
    (({ parked.links.d with waitHigh := true } : PortState).waitHigh = true) := ⟨rfl, rfl⟩

theorem witness_DamagedFrameIsDiscarded_check :
    let s := parked.setPort .d { parked.links.d with rx := .length }
    let t := parked.setPort .d { parked.links.d with rx := .check, kind := 0xC3, len := 0 }
    (s.links.get .d).rx = .length ∧ 49 ≤ (49#8).toNat ∧ (t.links.get .d).rx = .check ∧ (t.links.get .d).waitHigh = false ∧
      (0x55 : Byte) ≠ crc8 ((t.links.get .d).kind :: byteOf (t.links.get .d).len :: (t.links.get .d).body) := by
  exact ⟨rfl, by decide, rfl, rfl, by decide +kernel⟩

theorem witness_DamagedFrameIsDiscarded_noise : let l := List.replicate 11 7#3
    l.length = 11 ∧ (l.map vote).getD 0 true = true := by decide

theorem witness_DamagedFrameIsDiscarded_framing : let l := List.replicate 11 0#3
    l.length = 11 ∧ (l.map vote).getD 0 true = false ∧ (l.map vote).getD 10 true = false := by decide

theorem witness_DamagedFrameIsDiscarded_parity : let l := List.replicate 9 0#3 ++ [7#3, 7#3]
    l.length = 11 ∧ (l.map vote).getD 0 true = false ∧ (l.map vote).getD 10 true = true ∧
      ((((l.map vote).drop 1).take 9).filter id).length % 2 = 1 := by decide

theorem witness_DamagedFrameIsDiscarded_gap : let s := parked.setPort .d { parked.links.d with gap := true, rx := .kind }
    (s.links.get .d).gap = true ∧ (parked.links.get .d).gap = false := ⟨rfl, rfl⟩

theorem witness_NoticesAreCleared : parked.portFree .d ∧ (15#8).toNat < 16 ∧ 16 ≤ (16#8).toNat ∧ [1#8, 2#8].length ≠ 3 := by
  exact ⟨rfl, by decide, by decide, by decide⟩

theorem witness_EnablesFormTheAttentionLine : parked.portFree .us ∧ (15#8).toNat < 16 ∧ (3#8).toNat ≤ 3 ∧ 3 < (4#8).toNat ∧ [1#8].length ≠ 4 := by
  exact ⟨rfl, by decide, by decide, by decide, by decide⟩

theorem witness_StatusReadTellsTheSection : parked.portFree .ls ∧ (7#8).toNat ≤ 7 ∧ ∀ x : Byte, x.toNat ≤ 7 → [8#8] ≠ [x] := by
  refine ⟨rfl, by decide, fun x h e => ?_⟩
  cases e; exact absurd h (by decide)

theorem witness_CountsReadZeroesItsScope : parked.portFree .d ∧ Port.us ≠ .d ∧ parked.portFree .us := ⟨rfl, by decide, rfl⟩

/-! ### Witnesses: the table store -/

/-- `parked` in CLOSED with a staged RULES table of the entries given. -/
def staged (l : List (Option (List Byte))) (n : Nat) : State :=
  { inLine .closed with tables := { tables with staging := some ⟨.rules, l ++ List.replicate (16 - l.length) none, n⟩ } }

theorem witness_TablesAreStagedAndRead_begin : parked.portFree .d ∧ TableId.ofCode (7#8).toNat = some .rules ∧ TableOpen .rules parked.trip.line :=
  ⟨rfl, rfl, Or.inr ⟨rfl, Or.inr rfl⟩⟩

theorem witness_TablesAreStagedAndRead_entries : let s := staged [] 0
    let g : Staging := ⟨.rules, List.replicate 16 none, 0⟩
    s.portFree .d ∧ s.tables.staging = some g ∧ TableOpen g.table s.trip.line ∧ [[64#8, 15, 15, 1, 6]] ≠ [] ∧
      (∀ e ∈ [[64#8, 15, 15, 1, 6]], e.length = g.table.entrySize) ∧ (15#8).toNat + [[64#8, 15, 15, 1, 6]].length ≤ g.table.maxEntries ∧
      g.entries.length = g.table.maxEntries :=
  ⟨rfl, rfl, Or.inl rfl, by decide, by decide, by decide, by decide⟩

theorem witness_TablesAreStagedAndRead_read : parked.portFree .us ∧ TableId.ofCode (2#8).toNat = some .sections ∧
    parked.tables.entryBytes .sections = some (sections.map SectionEntry.bytes) ∧ State.reset.tables.entryBytes .sections = none :=
  ⟨rfl, rfl, rfl, rfl⟩

theorem witness_CommitTakesOrKeepsTheTable : TableOpen .rules (staged [] 0).trip.line ∧
    Staging.validate ⟨.rules, [some [64, 15, 15, 1, 6]], 1⟩ (some header) = .ok (.rules [⟨64, 15, 15, 1, 6⟩]) ∧
    Staging.validate ⟨.rules, [some [64, 15, 15, 3, 6]], 1⟩ (some header) = .error (0, .range) := by
  exact ⟨Or.inl rfl, rfl, rfl⟩

/-- The 21 fields of `header` as staged, with some left 0 for their defaults. -/
def lineBytes : List (List Byte) :=
  [2400000, 12000, 600, 1050, 1200, 500, 2000, 3000, 4000, 0, 0, 0, 0, 0, 0, 0, 0, 0, 3, 0, 0].map (beBytes 4)

/-- `parked` in CLOSED with a LINE table staged, the gates never committed or committed, and car A's link in ABILITY. -/
def stagedLine (g : Option (List GateEntry)) : State :=
  let s : State := { inLine .closed with
    tables := { tables with gates := g, staging := some ⟨.line, lineBytes.map some, 21⟩ }
    sup := { parked.sup with rollaway := some 3000 } }
  s.setCar .a { s.track.cars.a with link := .ability, reported := some (ability 257 3 12) }

theorem witness_CommitTakesOrKeepsTheTable_line :
    (match Staging.validate ⟨.line, lineBytes.map some, 21⟩ (some header) with | .ok (.line h) => h.lineLen | _ => 0) = 2400000 ∧
    (stagedLine none).rope.flag = true ∧ (stagedLine none).sup.rollaway = some 3000 ∧
    ((stagedLine none).track.cars.get .a).link = .ability ∧ ((stagedLine none).track.cars.get .b).link ≠ .ability := by
  exact ⟨by decide +kernel, rfl, rfl, rfl, by decide⟩

/-- The commit of GATES that makes the tables valid. -/
theorem witness_CommitTakesOrKeepsTheTable_valid :
    let s := { stagedLine none with tables := { tables with gates := none, staging := none } }
    s.tables.valid = false ∧ ((Validated.gates gates).into s.tables).valid = true ∧
      Staging.validate ⟨.gates, gates.map fun e => some [byteOf e.kind, byteOf e.berth], 16⟩ (some header) = .ok (.gates gates) := by
  exact ⟨rfl, rfl, by decide +kernel⟩

theorem witness_AcceptedTablesMeetTheirRules : sections ≠ [] ∧ judgeSections header sections = none ∧ 2399999 < header.lineLen ∧ (match validateOwn none .line lineBytes with | .ok (.line h) => h.aDec | _ => 0) = 1050 ∧
    judgeBerths header berths = none ∧ judgeMarkers header [⟨4, 700000, 3, 300⟩, ⟨6, 900000, 1, 100⟩] = none ∧
    firstFault judgeCar 0 none [ability 257 3 12, ability 258 12 3] = none ∧ firstFault judgeGate 0 none gates = none ∧
    firstFault judgeRule 0 none rules = none := by
  exact ⟨by decide, by decide, by decide, by decide +kernel, by decide +kernel, by decide, by decide +kernel, by decide, by decide⟩

/-! ### Witnesses: the line and its trips -/

theorem witness_LineStateJudgesTheRequests_states : (inLine .held).portFree .d ∧ (inLine .held).trip.line ≠ .closed ∧
    (inLine .held).trip.line ≠ .parked ∧ (inLine .held).trip.line ≠ .recovery false ∧ (inLine .parked).trip.line ≠ .held ∧
    (inLine .parked).trip.line ≠ .tripped ∧ (inLine .parked).trip.mode ≠ .inspection ∧ (inLine .parked).misaligned = false ∧
    (∀ k, (inLine .held).trip.line ≠ .testing k) ∧ Request.run.permitted .d = true := by
  exact ⟨rfl, by decide, by decide, by decide, by decide, by decide, by decide, rfl, (by intro k; cases k <;> decide), rfl⟩

theorem witness_LineStateJudgesTheRequests_holds : (inLine (.running .holding)).trip.line = .running .holding ∧
    (inTrip (.recovery true) .service).trip.line = .recovery true ∧ (inTrip (.recovery true) .service).trip.stop = .service ∧
    (inLine (.testing .railB)).trip.line = .testing .railB := ⟨rfl, rfl, rfl, rfl⟩

theorem witness_LineOpensAndCloses_parked : (inLine .closed).portFree .d ∧ (inLine .closed).tables.valid = true ∧
    (∀ x, ((inLine .closed).track.cars.get x).link = .complete) ∧ (inLine .closed).rope.certainty ≠ .unknown ∧
    (inLine .closed).berthedPair = some .b0 := by
  exact ⟨rfl, rfl, fun x => by cases x <;> rfl, by decide, by decide⟩

theorem witness_LineOpensAndCloses_recovery :
    let s := { inLine .closed with rope := { parked.rope with certainty := .unknown } }
    s.portFree .d ∧ s.trip.line = .closed ∧ s.tables.valid = true ∧ (∀ x, (s.track.cars.get x).link = .complete) ∧
      s.rope.certainty = .unknown := ⟨rfl, rfl, rfl, fun x => by cases x <;> rfl, rfl⟩

theorem witness_LineOpensAndCloses_close : parked.portFree .d ∧ parked.trip.line = .parked ∧ (∀ b, BoardingShut parked b) ∧
    ∀ x d, (parked.doors.get x).grants.get d = none :=
  ⟨rfl, rfl, fun b => by cases b <;> exact Or.inl rfl, fun x d => by cases x <;> cases d <;> rfl⟩

theorem witness_LineOpensAndCloses_refused :
    let s := (inLine .closed).setCar .b { parked.track.cars.b with link := .check }
    State.reset.trip.line = .closed ∧ State.reset.tables.valid = false ∧ s.portFree .d ∧ s.trip.line = .closed ∧ s.tables.valid = true ∧
      (s.track.cars.get .b).link ≠ .complete ∧ [0#8] ≠ [] ∧ (boarding .open []).portFree .d ∧ (boarding .open []).trip.line = .parked ∧
      ¬BoardingShut (boarding .open []) .b0 ∧ ((boarding .sealed []).doors.get .b).grants.get .left ≠ none := by
  refine ⟨rfl, rfl, rfl, rfl, rfl, by decide, by decide, rfl, rfl, ?_, by decide⟩
  rintro (h | h) <;> cases h

theorem witness_ModeConsentAndWeatherAreSet_mode : parked.portFree .d ∧ Mode.ofCode (2#8).toNat = some .inspection ∧ parked.trip.line = .parked ∧
    Mode.inspection ≠ parked.trip.mode ∧ parked.board.cars.a.onboard = 0 ∧ parked.board.cars.b.onboard = 0 ∧
    ∀ b, (parked.board.berths.get b).pen = 0 ∧ ((parked.board.berths.get b).state = .closed ∨ (parked.board.berths.get b).state = .sealed) := by
  refine ⟨rfl, rfl, rfl, by decide, rfl, rfl, fun b => ?_⟩
  cases b <;> exact ⟨rfl, Or.inl rfl⟩

theorem witness_ModeConsentAndWeatherAreSet_refused :
    let s := { parked with board := { parked.board with cars := ⟨⟨1, false⟩, ⟨0, false⟩⟩ } }
    let t := { parked with trip := { parked.trip with mode := .inspection } }
    s.portFree .d ∧ s.trip.line = .parked ∧ s.board.cars.a.onboard ≠ 0 ∧ Mode.inspection ≠ s.trip.mode ∧ t.trip.mode = .inspection ∧
      Mode.normal ≠ t.trip.mode ∧ Mode.ofCode (0#8).toNat = some .normal := by
  exact ⟨rfl, rfl, by decide, by decide, rfl, by decide, rfl⟩

theorem witness_ModeConsentAndWeatherAreSet_consent : Port.ls ≠ .d ∧ parked.portFree .ls ∧ parked.trip.line = .parked := ⟨by decide, rfl, rfl⟩

theorem witness_ModeConsentAndWeatherAreSet_weather : parked.portFree .us ∧ parked.trip.weather.limit = true ∧ State.reset.trip.weather.limit = false :=
  ⟨rfl, rfl, rfl⟩

theorem witness_RunStartsADispatch : parked.portFree .d ∧ parked.trip.line = .parked ∧ parked.trip.parkedBerth = some .b0 ∧
    IsTarget .up true .b0 .b1 ∧ IsTarget .down false .b3 .b0 ∧ parked.trip.weather.wind ≠ 3 ∧
    (∀ k, (parked.sched.obligations.get k).debt ≠ 3) ∧ parked.trip.number ≤ 65535 := by
  exact ⟨rfl, rfl, rfl, ⟨by decide, rfl⟩, ⟨by decide, rfl⟩, by decide, fun k => by cases k <;> decide, by decide⟩

/-- DOWN from B0 has no target; UP from B0 meets wind class 3, or a debt of 3 in NORMAL. -/
theorem witness_RunStartsADispatch_refused :
    let s := { parked with trip := { parked.trip with weather := ⟨none, 3, false, false⟩ } }
    let t := { parked with sched := { parked.sched with obligations := ⟨⟨0, 0, 480⟩, ⟨0, 3, 1440⟩, ⟨0, 0, 1440⟩⟩ } }
    s.portFree .d ∧ s.trip.line = .parked ∧ s.trip.parkedBerth = some .b0 ∧ s.trip.weather.wind = 3 ∧ t.trip.parkedBerth = some .b0 ∧
      t.trip.weather.wind ≠ 3 ∧ t.trip.mode ≠ .inspection ∧ (t.sched.obligations.get .railA).debt = 3 ∧
      ¬(Dir.up = .up ∧ Berth.b0 = .b3 ∨ Dir.up = .down ∧ Berth.b0 = .b0) ∧
      ∀ x h y z : Byte, [1#8, 0#8, 0#8] = [x, h, y, z] → 1 < x.toNat ∨ 1 < h.toNat := by
  refine ⟨rfl, rfl, rfl, rfl, rfl, by decide, by decide, rfl, by decide, fun x h y z e => ?_⟩
  cases e

theorem witness_DispatchStartsOrEnds_ends :
    let s := { inTrip .dispatch .none with trip := { (inTrip .dispatch .none).trip with stage := some .releasing, dispatchLimit := true } }
    s.trip.line = .dispatch ∧ s.trip.record = some record ∧ record.ending = none ∧ record.start = some .b0 ∧ s.portFree .us ∧
      s.trip.dispatchLimit = true := ⟨rfl, rfl, rfl, rfl, rfl, rfl⟩

/-- A dispatch in a stage with every part of its interlock holding, and SB_REL and its report as given. -/
def dispatching (g : DispatchStage) (rel fb : Bool) : State :=
  let s := inTrip .dispatch .none
  { s with
    trip := { s.trip with stage := some g, consentLower := true, consentUpper := true }
    sup := { s.sup with sbRel := rel, sbFb := fb } }

theorem witness_DispatchStartsOrEnds_waiting :
    let before := { dispatching .waiting false false with trip := { (dispatching .waiting false false).trip with consentUpper := false } }
    before.trip.line = .dispatch ∧ before.trip.record = some record ∧
      before.departureParts ≠ (dispatching .waiting false false).departureParts ∧
      (dispatching .waiting false false).departureHolds = true ∧ (dispatching .waiting false false).sup.sbFb = false ∧
      before.departureHolds = false := by decide

theorem witness_DispatchStartsOrEnds_releasing : (dispatching .releasing true true).departureHolds = true ∧
    (dispatching .releasing true true).sup.drvEn = false ∧ (dispatching .releasing true false).sup.sbFb = false ∧
    { dispatching .releasing true true with sup := { parked.sup with ebFb := false } }.departureHolds = false := by decide

theorem witness_HoldStopsTheTripOrMove_trip : (inTrip (.running .stopping) .none).portFree .ls ∧
    (inTrip (.running .stopping) .none).trip.line = .running .stopping ∧ Phase.stopping ≠ .holding ∧
    (inTrip (.recovery true) .profile).trip.moveRelease = false := ⟨rfl, rfl, by decide, rfl⟩

theorem witness_HoldStopsTheTripOrMove_release :
    let s := { inTrip (.recovery true) .none with trip := { (inTrip (.recovery true) .none).trip with moveRelease := true } }
    s.portFree .d ∧ s.trip.line = .recovery true ∧ s.trip.stop = .none ∧ s.trip.moveRelease = true ∧ s.trip.record = some record ∧
      record.ending = none := ⟨rfl, rfl, rfl, rfl, rfl, rfl⟩

theorem witness_ReleasesBegin_resume : (inTrip .held .none).portFree .d ∧ (inTrip .held .none).trip.line = .held ∧
    (inTrip .held .none).trip.resumeRelease = false ∧ (inTrip .held .none).resumeHolds = true := by
  exact ⟨rfl, rfl, rfl, by decide⟩

theorem witness_ReleasesBegin_move : (inLine (.recovery false)).portFree .d ∧ Berth.ofCode (1#8).toNat = some .b1 ∧
    (inLine (.recovery false)).rope.certainty ≠ .unknown ∧ (inLine (.recovery false)).berthEntry .b1 = some berths.b1 ∧
    150 < distance berths.b1.position ((inLine (.recovery false)).pos .a) ∧ (inLine (.recovery false)).moveHolds = true := by
  exact ⟨rfl, rfl, by decide, rfl, by decide, by decide⟩

/-- HELD in a release and with a link down, RECOVERY-IDLE near B0, at certainty UNKNOWN, and with a link down. -/
theorem witness_ReleasesBegin_refused :
    let held := { inTrip .held .none with trip := { (inTrip .held .none).trip with resumeRelease := true } }
    let idle := inLine (.recovery false)
    let blind := { idle with rope := { parked.rope with certainty := .unknown } }
    let open_ := { boarding .open [] with trip := { parked.trip with line := .recovery false } }
    held.portFree .d ∧ held.trip.line = .held ∧ held.trip.resumeRelease = true ∧
      ({ inTrip .held .none with track := Track.reset } : State).resumeHolds = false ∧ (inTrip .held .none).trip.resumeRelease = false ∧
      idle.portFree .d ∧ idle.trip.line = .recovery false ∧ idle.rope.certainty ≠ .unknown ∧ idle.berthEntry .b0 = some berths.b0 ∧
      |(berths.b0.position : Int) - idle.pos .a| ≤ 150 ∧ ¬|(berths.b1.position : Int) - idle.pos .a| ≤ 150 ∧
      blind.rope.certainty = .unknown ∧ open_.moveHolds = false ∧ ∀ b : Berth, [4#8] ≠ [byteOf b.idx] := by
  refine ⟨rfl, rfl, rfl, by decide, rfl, rfl, rfl, by decide, rfl, by decide, by decide, rfl, by decide, fun b => ?_⟩
  cases b <;> decide

theorem witness_ReleasesBegin_blind : let s := { inLine (.recovery false) with rope := { parked.rope with certainty := .unknown } }
    s.rope.certainty = .unknown ∧ Berth.ofCode (3#8).toNat = some .b3 ∧ s.moveHolds = true := by
  exact ⟨rfl, rfl, by decide⟩

/-- `parked` in a release: HELD with a slot, or RECOVERY-MOVING before its motion, SB_REL energised, its report as given. -/
def releasing (l : LineState) (fb : Bool) : State :=
  let s := inTrip l .none
  { s with
    trip := { s.trip with
      slot := some ⟨1, .up, ⟨.b3, .b0⟩, 12000, .service⟩, resumeRelease := decide (l = .held), moveRelease := decide (l ≠ .held) }
    sup := { s.sup with sbRel := true, sbFb := fb } }

theorem witness_ReleasesBegin_motion : (releasing .held true).resumeHolds = true ∧ (releasing .held true).sup.sbFb = true ∧
    (releasing .held true).sup.drvEn = false ∧ (releasing .held true).trip.slot = some ⟨1, .up, ⟨.b3, .b0⟩, 12000, .service⟩ ∧
    (releasing .held false).sup.sbFb = false ∧ (releasing (.recovery true) true).moveHolds = true ∧
    (releasing (.recovery true) true).trip.stop = .none := by decide

theorem witness_ReleasesBegin_fails : let s := { releasing .held true with track := Track.reset }
    let t := { releasing (.recovery true) true with track := Track.reset }
    s.resumeHolds = false ∧ s.trip.resumeRelease = true ∧ t.moveHolds = false ∧ t.trip.moveRelease = true ∧ t.trip.record = some record := by decide

/-- A stop in hand with both lines down and the rope standing `off` mm below the targets B3 and B0. -/
def stopped (l : LineState) (k : StopKind) (off : Int) : State :=
  let s := inTrip l k
  { s with rope := { parked.rope with base := 2397000 - off, base2 := 2397000 - off, sRef := 2397000 - off } }

theorem witness_StopsComplete : (stopped (.running .stopping) .profile 30).trip.line.inMotion = true ∧
    (stopped (.running .stopping) .profile 30).trip.moveRelease = false ∧ (stopped (.running .stopping) .profile 30).sup.sbRel = false ∧
    (stopped (.running .stopping) .profile 30).trip.record = some record ∧ record.ending = none ∧ record.target.b = record.target.a.mirror ∧
    (stopped (.running .stopping) .profile 30).tables.berths = some berths ∧ (stopped (.running .stopping) .profile 30).tables.header = some header ∧
    (stopped (.running .stopping) .profile 30).rope.flag = true ∧ (stopped (.running .stopping) .profile 30).sup.drvEn = false ∧
    (stopped (.running .stopping) .profile 30).sup.sbFb = false := ⟨rfl, rfl, rfl, rfl, rfl, rfl, rfl, rfl, rfl, rfl, rfl⟩

/-- A hold at the targets berths, one away from them is held, a service stop of a move is not berthed. -/
theorem witness_StopsComplete_kinds : (stopped (.running .holding) .hold 30).alignedAt .a .b3 = true ∧
    (stopped (.running .holding) .hold 30).alignedAt .b .b0 = true ∧ (stopped (.running .holding) .hold 900).alignedAt .a .b3 = false ∧
    (stopped (.recovery true) .service 30).trip.stop = .service ∧ (stopped (.recovery true) .service 30).trip.line = .recovery true := by decide

/-- The clause for a report of SB that has not come. -/
theorem witness_StopsComplete_waits : let s := stopped (.running .holding) .hold 900
    let t := { s with sup := { s.sup with sbFb := true, drvEn := true } }
    t.sup.sbRel = false ∧ t.sup.sbFb = true ∧ t.sup.drvEn = true := ⟨rfl, rfl, rfl⟩

theorem witness_ProfileStepFormsTheSetpoint_step :
    let s := { inTrip (.running .cruise) .none with trip := { (inTrip (.running .cruise) .none).trip with stepping := true } }
    s.trip.stepping = true ∧ s.tables.header = some header := ⟨rfl, rfl⟩

theorem witness_ProfileStepFormsTheSetpoint_terms : let s := inTrip (.running .cruise) .none
    s.rope.certainty ≠ .unknown ∧ (s.profileDist).isSome = true ∧ s.trip.stop = .none ∧ (inTrip (.running .holding) .hold).trip.stop = .hold ∧
      (inTrip (.running .stopping) .profile).trip.stop = .profile := by decide

/-- A stop of kind PROFILE is due at the targets; a car 1501 mm past its target overruns; a service stop is taken. -/
theorem witness_ProfileStepFormsTheSetpoint_stop : let s := stopped (.running .creep) .none 0
    let t := { s with trip := { s.trip with stepping := true } }
    let past := stopped (.running .creep) .none (-1501)
    t.vSup = 0 ∧ t.profileDist = some 0 ∧ planned header 0 = 0 ∧ (profileStop t).trip.stop = .profile ∧
      past.overrun header = true ∧ past.trip.line.supervised = true ∧ past.sup.causes = [] ∧
      (stopped (.recovery true) .none 0).trip.line = .recovery true := by decide +kernel

/-- R74 and R86: at the targets a move with certainty just established starts its PROFILE stop at the next step, not before it. -/
theorem test_profile_stop_waits_for_distances : let s := stopped (.recovery true) .none 0
    let t := { s with trip := { s.trip with stepping := true, distances := false }, sup := { s.sup with sbRel := true, sbFb := true, drvEn := true } }
    (profileStop t).trip.stop = .none ∧
      (match exec .profileStep t with | .next u => (u.trip.stop, u.trip.distances) | _ => (.none, false)) = (.profile, true) := by
  decide +kernel

/-! ### Witnesses: the supervisor and the tests -/

/-- A trip on a blind line (E = v_cr = 500, S = 631, T = 762), both channels at the speed that one period gives. -/
def blindAt (period overS : Nat) : State :=
  let c : ChanState := { ChanState.reset with periods := [period] }
  { inTrip (.recovery true) .none with
    rope := { parked.rope with certainty := .unknown, flag := false, chans := ⟨c, c⟩ }
    sup := { parked.sup with overS := overS } }

theorem witness_SampleFormsTheEnvelope : (blindAt 8000 0).tables.header = some header ∧ (blindAt 8000 0).trip.line.supervised = true ∧
    State.reset.tables.header = none := ⟨rfl, rfl, rfl⟩

/-- E near the upper terminus, one metre below the last berth: v_cr, the target candidate within d_m. -/
theorem witness_SampleFormsTheEnvelope_terms : let s := stopped (.running .creep) .none 1000
    s.rope.certainty ≠ .unknown ∧ s.tables.sections = some sections ∧ s.profileDist = some 1000 ∧ s.formE header = 500 := by decide +kernel

theorem witness_SampleIntervenes_trip : (blindAt 5200 0).sup.causes = [] ∧ (blindAt 5200 0).trip.line.supervised = true ∧
    (blindAt 5200 0).formE header * 9 / 8 + 200 < (blindAt 5200 0).vSup := by decide

theorem witness_SampleIntervenes_absolute : let s := { blindAt 280 0 with trip := parked.trip }
    s.sup.causes = [] ∧ s.trip.line.supervised = false ∧ header.vLine * 115 / 100 < s.vSup := by decide

theorem witness_SampleIntervenes_service : let s := blindAt 6000 1
    s.sup.causes = [] ∧ s.trip.line.supervised = true ∧ ¬(s.formE header * 9 / 8 + 200 < s.vSup) ∧ ¬(header.vLine * 115 / 100 < s.vSup) ∧
      s.formE header * 17 / 16 + 100 < s.vSup ∧ 1 ≤ s.sup.overS ∧ s.trip.stop ≠ .service ∧ s.rope.disagree < 2 ∧ s.anyGrant = false ∧
      s.endOverrun header = false := by decide

/-- The first sample above S counts 1 and warns, one at or below S counts 0. -/
theorem witness_SampleIntervenes_counts : let s := blindAt 6000 0
    s.tables.header = some header ∧ s.trip.line.supervised = true ∧ s.formE header * 17 / 16 + 100 < s.vSup ∧ s.sup.overS = 0 ∧
      s.sup.warning = false ∧ (blindAt 8000 1).vSup ≤ (blindAt 8000 1).formE header * 17 / 16 + 100 := by decide

/-- A trip whose next sample meets all five causes. -/
def beset : State :=
  let c (n : Nat) : ChanState := { ChanState.reset with periods := [n] }
  let s := boarding .open []
  { s with
    trip := { s.trip with line := .running .cruise, record := some record }
    rope := { s.rope with flag := false, base := -2000, sRef := -1969, disagree := 2, chans := ⟨c 280, c 400⟩ } }

/-- All five causes met at one sample: four are listed and the fifth sets overflow. -/
theorem witness_SampleIntervenes_causes :
    beset.trip.line.supervised = true ∧ beset.sup.causes = [] ∧ beset.formE header * 9 / 8 + 200 < beset.vSup ∧
      header.vLine * 115 / 100 < beset.vSup ∧ 150 + beset.vSup / 16 < distance (beset.speed .ch1) (beset.speed .ch2) ∧
      2 ≤ beset.rope.disagree ∧ ((beset.doors.get .a).grants.get .right ≠ none) ∧ 30 < |beset.coord - beset.rope.sRef| ∧
      beset.rope.certainty ≠ .unknown ∧ beset.pos .a < -1000 ∧
      (match exec .supervisionSample beset with | .next t => (t.sup.causes.length, t.sup.overflow) | _ => (0, false)) = (4, true) := by
  decide +kernel

theorem witness_SampleIntervenes_blind : let s := { boarding .open [] with tables := Tables.reset, rope := { parked.rope with sRef := 31 } }
    s.tables.header = none ∧ s.sup.causes = [] ∧ (s.doors.get .a).grants.get .right ≠ none ∧ 30 < |s.coord - s.rope.sRef| := by decide

theorem witness_BrakeFeedbackIsWatched : parked.sup.ebFb = true ∧ parked.sup.sbFb ≠ true ∧ parked.sup.ebLimit = false ∧
    { parked with sup := { parked.sup with sbLimit := true } }.sup.sbLimit = true := by decide

theorem witness_TripCauseIsTaken_first : parked.sup.causes = [] ∧ parked.trip.line ≠ .tripped := by decide

theorem witness_TripCauseIsTaken_listed : let l : List CauseEntry := [⟨.rollaway, none⟩, ⟨.endOverrun, none⟩, ⟨.carOverspeed, none⟩, ⟨.brakeFeedback, none⟩]
    l ≠ [] ∧ (∀ e ∈ l, e.cause ≠ .wrongDirection) ∧ (∃ e ∈ l, e.cause = .endOverrun) ∧ 4 ≤ l.length ∧ (l.take 3).length < 4 := by decide

theorem witness_EmergencyStopIsTakenFromAnyPort : (inLine .tripped).portFree .d ∧ (inLine .tripped).portFree .ls ∧ (inLine .tripped).portFree .us :=
  ⟨rfl, rfl, rfl⟩

/-- `parked` as a tripped line with an origin. -/
def trippedFrom (o : TripOrigin) (flag : Bool) : State :=
  { inLine .tripped with
    trip := { parked.trip with line := .tripped, origin := o, parkedBerth := none }
    rope := { parked.rope with flag := flag }
    sup := { Sup.reset with causes := [⟨.rollaway, none⟩] } }

theorem witness_TripResetLeavesTripped : (trippedFrom .open true).portFree .d ∧ (trippedFrom .open true).trip.line = .tripped ∧
    (trippedFrom .open true).rope.flag = true ∧ (trippedFrom .open true).trip.origin ≠ .closed ∧ (trippedFrom .open true).rope.certainty = .known ∧
    (trippedFrom .open true).berthedPair = some .b0 ∧ (trippedFrom .closed true).trip.origin = .closed ∧ (trippedFrom .open false).rope.flag = false := by
  exact ⟨rfl, rfl, rfl, by decide, rfl, by decide, rfl, rfl⟩

theorem witness_TripResetLeavesTripped_astray : let s := { trippedFrom .open true with rope := { parked.rope with certainty := .uncertain } }
    s.trip.line = .tripped ∧ s.rope.flag = true ∧ s.trip.origin ≠ .closed ∧ s.rope.certainty ≠ .known := by decide

theorem witness_BrakeTestsBeginAndEnd_eb : parked.portFree .d ∧ parked.trip.line = .parked ∧ parked.brakeTestHolds = true := by
  exact ⟨rfl, rfl, by decide⟩

theorem witness_BrakeTestsBeginAndEnd_rail : let s := { parked with trip := { parked.trip with mode := .inspection } }
    s.portFree .d ∧ s.trip.line = .parked ∧ s.trip.mode = .inspection ∧ s.trip.parkedBerth ≠ some .b3 ∧ s.railTestHolds = true := by
  exact ⟨rfl, rfl, rfl, by decide, by decide⟩

theorem witness_BrakeTestsBeginAndEnd_refused :
    let s := { parked with trip := { parked.trip with mode := .inspection }, rope := { parked.rope with flag := false } }
    s.portFree .d ∧ s.trip.line = .parked ∧ s.brakeTestHolds = false ∧ s.trip.mode = .inspection ∧ [0#8, 0#8] ≠ [0#8] ∧ [0#8, 0#8] ≠ [1#8] ∧
      s.trip.parkedBerth = some .b0 ∧ s.trip.parkedBerth ≠ some .b3 ∧ s.railTestHolds = false := by
  exact ⟨rfl, rfl, by decide, rfl, by decide, by decide, rfl, by decide, by decide⟩

/-- A state in a stage of a test with every test limit running. -/
def testing (k : TestKind) (g : TestStage) : State :=
  { inLine (.testing k) with sched := { parked.sched with test := some (k, g), windowLimit := true, creepLimit := true, brakeLimit := true } }

/-- A test in a stage with SB_REL, its report and EB_FB as given. -/
def testWith (k : TestKind) (g : TestStage) (rel fb eb : Bool) : State :=
  let s := testing k g
  { s with sup := { s.sup with ebRel := false, ebFb := eb, sbRel := rel, sbFb := fb, railOrder := ⟨.test, .trip⟩ } }

theorem witness_BrakeTestsBeginAndEnd_stages : (testWith .eb .applying false false false).sup.ebFb = false ∧
    (testWith .eb .applying true true false).bothSecure = true ∧ (testWith .eb .applying true true false).sup.drvEn = false ∧
    { testWith .eb .applying true true false with track := Track.reset }.bothSecure = false ∧
    (testWith .railA .releasing true true true).bothSecure = true ∧ (testWith .railA .releasing true true true).trip.line = .testing .railA := by decide

theorem witness_BrakeTestsBeginAndEnd_endings : (testWith .eb .ending false false false).trip.parkedBerth = some .b0 ∧
    (testWith .eb .ending false true false).sup.sbFb = true ∧ (testWith .eb .ending false false false).sched.test = some (.eb, .ending) ∧
    (testWith .railA .ending false false true).rope.flag = true ∧ (testWith .railA .ending false false true).sup.railOrder.get .a = .test ∧
    (testWith .railB .ending false false true).sup.railOrder.get .b ≠ .test := by decide

theorem witness_TestsAreDecided : (testing .eb .window).sched.windowLimit = true ∧ (testing .eb .window).sched.test = some (.eb, .window) ∧
    (testing .railA .creep).sched.creepLimit = true ∧ (testing .railA .creep).sched.test = some (.railA, .creep) ∧
    (testing .railB .braking).sched.brakeLimit = true ∧ (testing .railB .braking).sched.test = some (.railB, .braking) ∧
    TestResult.fail ≠ .aborted ∧ parked.sched.windowLimit = false := by decide

theorem witness_TestsAreDecided_standstill : let s := testing .railA .braking
    let t := { s with rope := { s.rope with dwell := true, flag := false } }
    t.rope.dwell = true ∧ t.sched.test = some (.railA, .braking) := ⟨rfl, rfl⟩

theorem witness_ObligationMinuteCounts : (480 : Nat) ≤ 479 + 1 ∧ (478 : Nat) + 1 < 480 ∧ (2 : Int) < 3 ∧ min ((2 : Int) + 1) 3 = 3 := by decide

/-! ### Witnesses: the track line -/

/-- `parked` with its track line in a phase, for a turn. -/
def inPhase (ph : TrackPhase) (accept answer : Bool) (t : Option Turn) : State :=
  parked.setTrack { parked.track with phase := ph, acceptLimit := accept, answerLimit := answer, turn := t }

/-- `parked` with car A's link in another state. -/
def withLink (l : Link) (s : State) : State := s.setCar .a { s.track.cars.a with link := l }

theorem witness_TurnBeginsOnTheFreeLine :
    let s := parked.setTrack { parked.track with quiet := true, owed := some .b }
    let u := parked.setTrack { parked.track with quiet := true, owed := some .b, outOfTurn := [.a] }
    s.track.phase = .free ∧ s.track.quiet = true ∧ s.track.othersDrive = false ∧ s.track.outOfTurn = [] ∧ s.track.owed = some .b ∧
      u.track.outOfTurn = [.a] ∧ u.track.driven = false ∧ (inPhase .command false false none).track.driven = true := by decide

theorem witness_ExchangeAdvances :
    let poll := inPhase .select true false (some ⟨.a, .poll⟩)
    let identify := withLink .down (inPhase .select true false (some ⟨.a, .identify⟩))
    poll.track.phase = .select ∧ poll.track.acceptLimit = true ∧ poll.track.unheard = false ∧ poll.track.turn = some ⟨.a, .poll⟩ ∧
      identify.track.turn = some ⟨.a, .identify⟩ ∧ (identify.track.cars.get .a).link = .down ∧
      (inPhase .select true false (some ⟨.a, .identify⟩)).track.cars.a.link ≠ .down ∧ (inPhase .command false false none).track.phase = .command ∧
      (inPhase .select false false none).track.acceptLimit = false ∧ parked.track.phase = .free ∧ callOf ⟨0x61, true, true⟩ = none := by
  decide

/-- R136: an ACCEPT in a drive that began during the selection is not heard, though its end is taken first, and the ACCEPT limit runs on. -/
theorem test_early_drive_is_not_heard :
    (match runCommands [.trackDriveStart, .selectionSent, .trackDriveEnd, .acceptReceived ⟨0x61, true, true⟩]
        (inPhase .select false false (some ⟨.a, .poll⟩)) with
    | .next t => (t.track.phase, t.track.acceptLimit)
    | _ => (.free, false)) = (.select, true) := by decide +kernel

/-- R136: the car's next drive, begun after the part has released the line, is heard. -/
theorem test_later_drive_is_heard :
    (match runCommands [.trackDriveStart, .trackDriveEnd, .selectionSent, .trackDriveStart, .acceptReceived ⟨0x61, true, true⟩]
        (inPhase .select false false (some ⟨.a, .poll⟩)) with
    | .next t => (t.track.phase, t.track.acceptLimit)
    | _ => (.free, true)) = (.command, false) := by decide +kernel

theorem witness_MissedAnswerEndsTheTurn : (inPhase .status false true (some ⟨.a, .poll⟩)).track.turn = some ⟨.a, .poll⟩ ∧
    (inPhase .status false true (some ⟨.a, .poll⟩)).track.answerLimit = true ∧ (inPhase .select true false (some ⟨.a, .poll⟩)).track.acceptLimit = true ∧
    parked.track.unheard = false ∧ (0x62 : Byte) ≠ Car.a.acceptCode ∧ (0x62 : Byte) ≠ 0x71 ∧ (0x62 : Byte) ≠ 0x72 ∧
    parseStatus .a (List.replicate 17 0) = none ∧ parseAbility .a (List.replicate 15 0) = none ∧
    ({ parked.track with unheard := true, phase := .status } : Track).unheard = true := by
  exact ⟨rfl, rfl, rfl, rfl, by decide, by decide, by decide, by decide, by decide, rfl⟩

/-- A character of another parity than its own is damaged. -/
theorem witness_MissedAnswerEndsTheTurn_damaged :
    ∃ ch ∈ [(⟨0x61, false, true⟩ : LineChar)], ch.stop = false ∨ ((byteBits ch.data ++ [ch.parity]).filter id).length % 2 = 1 := by decide

theorem witness_StatusBlockIsTaken : let s := inPhase .status false true (some ⟨.a, .poll⟩)
    let k : StatusBlock := ⟨⟨.ofFn fun _ => .open, .ofFn fun _ => .locked⟩, 0, 255, true, true, false, false⟩
    s.track.answerLimit = true ∧ s.track.unheard = false ∧ s.track.turn = some ⟨.a, .poll⟩ ∧ s.sup.causes = [] ∧
      s.sideLocked .a k .left = false ∧ readStatus .a ((statusBytes .a k).map lineChar) = some k := by
  exact ⟨rfl, rfl, rfl, rfl, by decide +kernel, by decide +kernel⟩

theorem witness_StatusBlockJudgesDoorsAndAlarm : let s := inPhase .status false true (some ⟨.a, .poll⟩)
    let k : StatusBlock := ⟨⟨.ofFn fun _ => .open, .ofFn fun _ => .locked⟩, 0, 0, true, false, false, false⟩
    s.track.answerLimit = true ∧ s.track.unheard = false ∧ s.track.turn = some ⟨.a, .poll⟩ ∧ k.overspeed = false ∧ s.sup.drvEn = false ∧
      s.trip.moveRelease = false ∧ s.berthOf .a = some .b0 ∧ (s.track.cars.get .a).link = .complete ∧ (s.present .a .left).getLsbD 0 = true := by
  exact ⟨rfl, rfl, rfl, rfl, rfl, rfl, rfl, rfl, by decide⟩

/-- Deltas 3 and 1 against baselines, the deltas 65 of a first block, and a car at a berth and at none. -/
theorem witness_StatusBlockHandsOnCounts :
    let s := inPhase .status false true (some ⟨.a, .poll⟩)
    let t := s.setCar .a { s.track.cars.a with link := .confirm, baselines := some (255, 0) }
    s.track.turn = some ⟨.a, .poll⟩ ∧ s.trip.moveRelease = false ∧ (s.track.cars.get .a).baselines = none ∧ s.berthOf .a = some .b0 ∧
      (inTrip (.running .cruise) .none).berthOf .a = none ∧ (t.track.cars.get .a).baselines = some (255, 0) ∧
      (t.track.cars.get .a).link = .confirm ∧ ((2 : Byte).toNat + 256 - (255 : Byte).toNat) % 256 = 3 ∧
      64 < ((64 : Byte).toNat + 256 - (255 : Byte).toNat) % 256 := by decide

theorem witness_AbilityRecordIsCompared : let s := withLink .listen (inPhase .status false true (some ⟨.a, .identify⟩))
    s.track.answerLimit = true ∧ s.track.unheard = false ∧ s.track.turn = some ⟨.a, .identify⟩ ∧ (s.track.cars.get .a).link = .listen ∧ s.tables.valid = true ∧
      s.tables.expected .a = some (ability 257 3 12) ∧ parseAbility .a (abilityBytes .a (ability 257 3 12)) = some (ability 257 3 12) := by
  exact ⟨rfl, rfl, rfl, rfl, rfl, rfl, by decide +kernel⟩

theorem witness_CallsAndDrivesOfOthers : parked.track.phase = .free ∧ (parked.track.cars.get .a).window = false ∧
    (inPhase .jammed false false none).track.phase ≠ .free ∧ parked.track.othersDrive = false ∧ parked.track.driveLimit = false ∧
    (parked.setTrack { parked.track with driveLimit := true }).track.driveLimit = true ∧ parked.lossTrips = false ∧
    (inTrip (.running .holding) .hold).lossTrips = true := by decide

theorem witness_SilenceTakesTheLinkDown : (parked.track.cars.get .a).silence = true ∧ (parked.track.cars.get .a).link ≠ .mismatch ∧
    (parked.track.cars.get .a).link ≠ .down ∧ ((withLink .mismatch parked).track.cars.get .a).link = .mismatch ∧
    (State.reset.track.cars.get .b).silence = false := by decide

theorem witness_LinkLeavesDownByAcceptAlone : let s := withLink .down (inPhase .select true false (some ⟨.a, .identify⟩))
    (s.track.cars.get .a).link = .down ∧ s.track.phase = .select ∧ s.track.acceptLimit = true ∧ s.track.unheard = false ∧
      s.track.turn = some ⟨.a, .identify⟩ := by decide

/-! ### Witnesses: doors and boarding -/

theorem witness_DoorsAreReleasedAndClosed_release : parked.portFree .ls ∧ parked.trip.line = .parked ∧ Berth.b0.station = .ls ∧
    parked.carAt .b0 = some .a ∧ parked.berthEntry .b0 = some berths.b0 ∧ (parked.doors.get .a).alignment = .aligned ∧
    parked.alignedAt .a .b0 = true ∧ parked.rope.flag = true ∧ parked.sup.sbFb = false ∧ memberAt berths.b0.sides Side.right.bit = true ∧
    (parked.track.cars.get .a).link = .complete ∧ parked.grantSet .a berths.b0 .right ≠ 0 ∧ (parked.doors.get .a).grants.get .right = none := by
  exact ⟨rfl, rfl, rfl, rfl, rfl, rfl, by decide, rfl, rfl, by decide, rfl, by decide, rfl⟩

/-- `parked` with what each condition of R166 asks taken away in turn. -/
theorem witness_DoorsAreReleasedAndClosed_refused :
    let turned (r : Rope) : State := { parked with rope := r }
    let away := parked.setDoors .a { parked.doors.a with alignment := .misaligned }
    let moving := turned { parked.rope with flag := false }
    let released := { parked with sup := { parked.sup with sbFb := true } }
    let check := parked.setCar .a { parked.track.cars.a with link := .check }
    let bare := parked.setCar .a { parked.track.cars.a with ability := none }
    Port.ls ≠ .d ∧ parked.portFree .ls ∧ parked.trip.line = .parked ∧ Berth.b0.station = .ls ∧ Berth.b2.station ≠ .ls ∧
      StandsAt parked .a .b0 ∧ (∀ x, ¬StandsAt parked x .b1) ∧ parked.berthEntry .b0 = some berths.b0 ∧
      (away.doors.get .a).alignment ≠ .aligned ∧ moving.rope.flag = false ∧ released.sup.sbFb = true ∧
      berths.b0.sides.getLsbD Side.left.bit = false ∧ berths.b0.sides.getLsbD Side.right.bit = true ∧
      (check.track.cars.get .a).link ≠ .complete ∧ bare.grantSet .a berths.b0 .right = 0 ∧
      ((parked.doors.get .a).alignment = .aligned ∧ parked.rope.switches.get .b0 = true ∧ |parked.pos .a - berths.b0.position| ≤ 150) := by
  refine ⟨by decide, rfl, rfl, rfl, by decide, ⟨.b0, Or.inl ⟨Or.inl rfl, rfl⟩, rfl⟩, fun x h => ?_, rfl, by decide, rfl, rfl, by decide,
    by decide, by decide, by decide, rfl, rfl, by decide⟩
  obtain ⟨k, h | h, e⟩ := h
  · cases h.2; cases x <;> cases e
  · cases h.1

theorem witness_DoorsAreReleasedAndClosed_malformed :
    (∀ y z : Byte, [0#8, 4#8] = [y, z] → 3 < y.toNat ∨ z = 0 ∨ 3 < z.toNat) ∧ ∀ y z : Byte, [0#8, 3#8] = [y, z] → 3 < y.toNat ∨ z ≠ 1 ∧ z ≠ 2 := by
  refine ⟨fun y z e => ?_, fun y z e => ?_⟩ <;> cases e <;> decide

theorem witness_DoorsAreReleasedAndClosed_close : (boarding .open []).portFree .ls ∧ Berth.b0.station = .ls ∧ 1 ≤ (3#8).toNat ∧ (3#8).toNat ≤ 3 ∧
    ((boarding .open []).doors.get .a).grants.get .right = some ⟨.b0, 12, 1, .auto⟩ := ⟨rfl, rfl, by decide, by decide, rfl⟩

theorem witness_BoardingOpensAndCloses : (boarding .sealed []).portFree .ls ∧ Berth.b0.station = .ls ∧ (boarding .sealed []).trip.line = .parked ∧
    (boarding .sealed []).trip.mode ≠ .inspection ∧ (∀ k, ((boarding .sealed []).sched.obligations.get k).debt ≠ 3) ∧
    (boarding .sealed []).carAt .b0 = some .a ∧ ((boarding .sealed []).doors.get .a).grants.get .right ≠ none ∧
    ((boarding .sealed []).board.berths.get .b0).state = .sealed ∧
    ((boarding .closing [⟨0, 2, 9⟩]).board.berths.get .b0).state = .closing := by
  exact ⟨rfl, rfl, rfl, by decide, fun k => by cases k <;> decide, rfl, by decide, rfl, rfl⟩

theorem witness_BoardingOpensAndCloses_refused :
    let s := { parked with trip := { parked.trip with mode := .inspection } }
    let t := { parked with sched := { parked.sched with obligations := ⟨⟨0, 3, 480⟩, ⟨0, 0, 1440⟩, ⟨0, 0, 1440⟩⟩ } }
    Port.us ≠ .d ∧ parked.portFree .us ∧ Berth.b3.station = .us ∧ Berth.b0.station ≠ .us ∧ s.trip.line = .parked ∧ s.trip.mode = .inspection ∧
      t.trip.mode ≠ .inspection ∧ (t.sched.obligations.get .eb).debt = 3 ∧
      (∀ x, StandsAt parked x .b3 → ∀ d, (parked.doors.get x).grants.get d = none) ∧ ∀ y : Byte, [4#8] = [y] → 3 < y.toNat := by
  refine ⟨by decide, rfl, rfl, by decide, rfl, rfl, by decide, rfl, fun x _ d => by cases x <;> cases d <;> rfl, fun y e => ?_⟩
  cases e; decide

theorem witness_FirstMatchingRuleDecides : passesRules rules 0x45 .b0 6 = true ∧ passesRules rules 0x45 .b0 8 = false ∧
    passesRules rules 0xC0 .b3 1 = false := by decide

theorem witness_AdmissionIsWithinTheQuota : Port.ls ≠ .d ∧ (boarding .open []).portFree .ls ∧ ((boarding .open []).gate .ls 0).kind = 1 ∧
    Berth.ofCode ((boarding .open []).gate .ls 0).berth = some .b0 ∧ ((boarding .open []).board.berths.get .b0).state = .open ∧
    passesRules (boarding .open []).tables.rules 0x4F .b0 6 = true ∧ 6 ≤ (boarding .open []).quota .b0 ∧ ((boarding .open []).gate .ls 7).kind ≠ 1 := by
  exact ⟨by decide, rfl, rfl, rfl, rfl, by decide, by decide, by decide⟩

/-- A car with its count certain and uncertain, and a berth with no car. -/
theorem witness_AdmissionIsWithinTheQuota_quota :
    StandsAt parked .b .b3 ∧ (parked.board.cars.get .b).uncertain = false ∧ (State.reset.board.cars.get .a).uncertain = true ∧
      ∀ x, ¬StandsAt (inLine .closed) x .b3 := by
  refine ⟨⟨.b0, Or.inl ⟨Or.inl rfl, rfl⟩, rfl⟩, rfl, rfl, fun x h => ?_⟩
  obtain ⟨k, h | h, e⟩ := h
  · rcases h.1 with h | h <;> cases h
  · cases h.1

theorem witness_AdmissionIsWithinTheQuota_refused :
    let s := { boarding .open [⟨0, 2, 9⟩] with board := { (boarding .open [⟨0, 2, 9⟩]).board with cars := ⟨⟨119, false⟩, ⟨0, true⟩⟩ } }
    s.quota .b0 < 1 ∧ (s.board.berths.get .b0).state = .open ∧ (∃ r ∈ (s.board.berths.get .b0).pending, r.gate = 0) ∧
      ¬(∃ r ∈ (s.board.berths.get .b0).pending, r.gate = 1) := by decide

theorem witness_PassagesAreCounted : (boarding .closing [⟨0, 2, 9⟩]).holder 0 = some .b0 ∧ (boarding .closing [⟨0, 2, 9⟩]).holder 1 = none ∧
    ((boarding .closing []).gate .ls 2).kind = 2 ∧ Berth.ofCode ((boarding .closing []).gate .ls 2).berth = some .b0 ∧
    ((boarding .closing [⟨0, 2, 9⟩]).board.berths.get .b0).pending ≠ [] := by decide

theorem witness_StationIsCleared : (boarding .sealed []).portFree .ls ∧ Berth.b0.station = .ls ∧ ((boarding .sealed []).board.berths.get .b0).state ≠ .open ∧
    ((boarding .armed []).board.berths.get .b0).state = .armed ∧ (boarding .sealed []).carAt .b0 = some .a ∧
    ((boarding .sealed []).doors.get .a).anyGrant = true ∧ (parked.doors.get .a).anyGrant = false ∧ (inLine .closed).carAt .b0 = none ∧
    Berth.b1.station = .ls := by
  exact ⟨rfl, rfl, by decide, rfl, rfl, rfl, rfl, rfl, rfl⟩

/-! ### Witnesses: the rope and the laws -/

theorem witness_ArithmeticIsExact : (2 : Nat) ^ 80 - 1 < 2 ^ 80 ∧ isqrt (2 ^ 80 - 1) = 2 ^ 40 - 1 ∧ roundHalfAway (-5) 2 = -3 := by decide

theorem witness_CountStepMovesTheCount : let c : ChanState := { ChanState.reset with last := some ⟨5, .up⟩, restart := false, periods := [1, 2, 3, 4] }
    c.last = some ⟨5, .up⟩ ∧ c.restart = false ∧ ChanState.reset.last = none ∧ Chan.ch2 ≠ .ch1 := by decide

/-- Near `parked` with watches and a grant whose limits the next step oversteps or keeps. -/
theorem witness_CountStepIsWatched : parked.sup.causes = [] ∧ parked.trip.line ≠ .tripped ∧
    { parked.sup with rollaway := some 3060 }.rollaway = some 3060 ∧ { parked.sup with dirWatch := some ⟨.up, 3101⟩ }.dirWatch = some ⟨.up, 3101⟩ ∧
    (boarding .open []).anyGrant = true ∧ (testing .eb .window).trip.line = .testing .eb ∧
    (testing .eb .window).sched.test = some (.eb, .window) ∧ parked.sched.test = none ∧
    (testing .railA .creep).trip.line = .testing .railA ∧ (testing .railA .creep).sched.test = some (.railA, .creep) ∧
    (testing .railB .braking).sched.test = some (.railB, .braking) := by decide

/-- A step at the boundary of the emergency brake test that takes no cause: the test fails beyond 20 mm. -/
theorem witness_CountStepIsWatched_test :
    let s := { testing .eb .window with sched := { (testing .eb .window).sched with anchor := 3020 } }
    (match exec (.countStep .ch1 .a 0) s with | .next t => (t.sup.causes, decide (20 < (t.coord - s.sched.anchor).natAbs)) | _ => ([], true)) =
      ([], false) := by decide +kernel

theorem witness_HistoryIsEmptiedAndRopeStands : (State.reset.rope.chans.get .ch1).gap = true ∧ State.reset.rope.dwell = true ∧
    parked.rope.dwell = false ∧ (blindAt 6000 0).vSup ≠ 0 ∧ (blindAt 6000 0).rope.flag = false := by decide

/-- The rope moving up with car A at a coordinate near B1's lower edge. -/
def nearB1 (s : Int) : State := { inTrip (.running .creep) .none with rope := { parked.rope with flag := false, base := s, base2 := s } }

theorem witness_MarkerEdgeCorrectsThePosition : (nearB1 1099300).level (.switch .b1) = false ∧ (nearB1 1099300).rope.certainty ≠ .unknown ∧
    (nearB1 1099300).rope.flag = false ∧ (nearB1 1099300).tables.valid = true ∧ (nearB1 1099300).edgeError (.switch .b1) .a = some (-300) ∧
    (nearB1 1099301).edgeError (.switch .b1) .a = some (-301) ∧ (nearB1 1099300).edgeError (.switch .b1) .b = none ∧
    (nearB1 1500000).edgeError (.switch .b1) .a = none := by decide

theorem witness_MarkerEdgeCorrectsThePosition_clamped :
    let s := { nearB1 1099300 with rope := { (nearB1 1099300).rope with offs := ⟨-1800, 0⟩, base := 1101100 } }
    s.edgeError (.switch .b1) .a = some (-300) ∧ s.rope.offs.get .a + -300 < -2000 := by decide

theorem witness_MarkerEdgeCorrectsThePosition_established :
    let s := { inTrip (.recovery true) .none with rope := { parked.rope with certainty := .unknown, switches := ⟨false, false, false, false⟩ } }
    s.establishing (.switch .b3) = some (.a, .b3) ∧ s.establishing (.switch .b1) = none ∧ s.tables.header = some header ∧
      s.berthEntry .b3 = some berths.b3 := by decide

theorem witness_ResetsLeaveTheirValues : (trippedFrom .open false).trip.line = .tripped ∧ (inTrip .dispatch .none).trip.line = .dispatch ∧
    (testing .eb .window).trip.line.isTest = true ∧ (inTrip (.running .accel) .none).trip.line.inMotion = true := ⟨rfl, rfl, rfl, rfl⟩

/-- The laws' first state and its step. -/
theorem witness_Laws_step : SlotLaw State.reset ∧ step State.reset = .next (idle State.reset) := by
  refine ⟨?_, rfl⟩
  simp [SlotLaw, State.reset, Trip.reset]

theorem witness_StepKeepsTheDriveLaw : CauseLaw State.reset ∧ DriveLaw State.reset := by
  refine ⟨?_, ?_⟩
  · simp [CauseLaw, State.reset, Trip.reset, Sup.reset]
  · simp [DriveLaw, State.reset, Trip.reset, Sup.reset]

theorem witness_StepKeepsTheGrantLaw : GrantLaw State.reset ∧ GrantLaw (boarding .open []) := by
  refine ⟨?_, ?_⟩ <;> unfold GrantLaw <;> decide

theorem witness_StepKeepsThePendingLaw : PendingLaw (boarding .closing [⟨0, 2, 9⟩]) := by
  refine ⟨?_, by decide⟩
  intro b _; cases b <;> unfold BerthLaw <;> decide

theorem witness_StepKeepsTheTargetAndTestLaws : TargetLaw (stopped .held .none 0) ∧ TargetLaw (testing .railA .creep) ∧ TestLaw (testing .railA .creep) ∧ TestLaw State.reset := by
  refine ⟨⟨?_, ?_, ?_⟩, ⟨?_, ?_, ?_⟩, ?_, ?_⟩
  · intro r h; cases h; rfl
  · intro r h; cases h
  · intro h; cases h
  · intro r h; cases h
  · intro r h; cases h
  · intro _; rfl
  · intro k; cases k <;> simp [testing, inLine]
  · intro k; simp [State.reset, Trip.reset, Sched.reset]

end Sys2Proof.Tests
end

section
/-! PROOFS. EMERGENCY STOP (R108), from what a free port does with the frame of any request its port may send (R208 to R211). -/

namespace Sys2Proof.Machine

/-! ### A request's frame at a free port -/

theorem requestOf_code (r : Request) : requestOf r.code = some r := by
  cases r <;> rfl

/-- Every request's code lies below 0x80, so that its answer's kind is the code plus 0x80 (R205). -/
theorem answerKind_code (r : Request) : answerKind r.code = r.code + 0x80 := by
  cases r <;> rfl

/-- A frame at a port with an empty executing slot is executed at once (R208). -/
theorem deliver_portFree {p : Port} {s : State} (hfree : s.portFree p) (kind : Byte) (body : List Byte) :
    deliver p kind body s = execute p ⟨kind, body⟩ s := by
  unfold State.portFree at hfree
  simp only [deliver, hfree]

/-- The executing port answers with what its owner left and replied (R211). -/
theorem execute_request {p : Port} {r : Request} {body : List Byte} {s t : State} {c : Result} {d : ReplyData}
    (htake : takeRequest p r.code body s = (t, ⟨c, d⟩)) :
    execute p ⟨r.code, body⟩ s = t.answering p r body c d := by
  simp only [execute, htake, answerKind_code, State.answering]

/-- A request that its owner refuses leaves what the owner left, with no step due (R209). -/
theorem takeRequest_refused {p : Port} {r : Request} {body : List Byte} {s t : State} {c : Result} {d : ReplyData}
    (hperm : r.permitted p = true) (hserve : r.serve p body s = (t, ⟨c, d⟩)) (hc : c.refuses = true) :
    takeRequest p r.code body s = (t, ⟨c, d⟩) := by
  simp [takeRequest, requestOf_code, hperm, hserve, hc]

/-- A request taken, whose effect may be waited for, is followed by the steps it makes due (R209). -/
theorem takeRequest_taken {p : Port} {r : Request} {body : List Byte} {s t : State} {c : Result} {d : ReplyData}
    (hperm : r.permitted p = true) (hinert : r.inert = false) (hserve : r.serve p body s = (t, ⟨c, d⟩))
    (hc : c.refuses = false) :
    takeRequest p r.code body s = (settle s t, ⟨c, d⟩) := by
  simp [takeRequest, requestOf_code, hperm, hinert, hserve, hc]

/-! ### EMERGENCY STOP (R108) -/

theorem exec_emergencyStop {p : Port} {s : State} (hfree : s.portFree p) (body : List Byte) :
    exec (.emergencyStop p body) s = .next (execute p ⟨Request.emergencyStop.code, body⟩ s) :=
  congrArg Host.Outcome.next (deliver_portFree hfree Request.emergencyStop.code body)

theorem emergencyStop_serve_nil (p : Port) (s : State) :
    Request.emergencyStop.serve p [] s = (takeCause .emergencyRequest (some p) s, ⟨.done, .none⟩) := by
  simp [Request.serve, reqEmergencyStop, done]

theorem emergencyStop_serve_cons (p : Port) (x : Byte) (l : List Byte) (s : State) :
    Request.emergencyStop.serve p (x :: l) s = (s, ⟨.badArgument, .none⟩) := by
  simp [Request.serve, reqEmergencyStop, refuse]

/-- Settles O27: every port may send EMERGENCY STOP, and its owner asks for no line state. -/
theorem emergencyStopIsTakenFromAnyPort : Obligations.EmergencyStopIsTakenFromAnyPort := by
  intro p s hfree
  refine ⟨?taken, fun x l => ?refused⟩
  case taken =>
    rw [exec_emergencyStop hfree, execute_request (takeRequest_taken rfl rfl (emergencyStop_serve_nil p s) rfl)]
  case refused =>
    rw [exec_emergencyStop hfree, execute_request (takeRequest_refused rfl (emergencyStop_serve_cons p x l s) rfl)]

end Sys2Proof.Machine
end

section
/-! PROOFS. Admission rules (R188): what it is for a rule to match (R8), and which rule of a list decides. -/

namespace Sys2Proof.Machine

/-- The model compares under a mask, R8 bit by bit: the masked difference is 0 exactly when the ignore set holds every bit that differs. -/
theorem masked_difference_eq_zero_iff (code value ignore : Byte) :
    (code ^^^ value) &&& ~~~ignore = 0 ↔
      ∀ i < 8, ignore.getLsbD i = false → code.getLsbD i = value.getLsbD i := by
  have bit (i : Nat) (hi : i < 8) : ((code ^^^ value) &&& ~~~ignore).getLsbD i = false ↔
      (ignore.getLsbD i = false → code.getLsbD i = value.getLsbD i) := by
    rw [BitVec.getLsbD_and, BitVec.getLsbD_xor, BitVec.getLsbD_not]
    cases ignore.getLsbD i <;> simp [-BitVec.getLsbD_eq_getElem, hi]
  constructor
  · intro h i hi
    exact (bit i hi).mp (by simp [h])
  · intro h
    refine BitVec.eq_of_getLsbD_eq fun i hi => ?_
    rw [(bit i hi).mpr (h i hi), BitVec.ofNat_eq_ofNat, BitVec.getLsbD_zero]

theorem RuleEntry.matchesAt_iff (r : RuleEntry) (code : Byte) (b : Berth) :
    r.matchesAt code b = true ↔ r.berths.getLsbD b.idx = true ∧
      ∀ i < 8, r.ignore.getLsbD i = false → code.getLsbD i = r.classValue.getLsbD i := by
  rw [RuleEntry.matchesAt, Bool.and_eq_true, beq_iff_eq, masked_difference_eq_zero_iff, memberAt]

/-- The rule found in a list decides alone, and a list with none found fails the admission (R188). -/
theorem passesRules_iff_find? (l : List RuleEntry) (code : Byte) (b : Berth) (group : Nat) :
    passesRules l code b group = true ↔
      ∃ r, l.find? (fun q => q.matchesAt code b) = some r ∧ r.action = 1 ∧ group ≤ r.limit := by
  unfold passesRules
  cases l.find? (fun q => q.matchesAt code b) <;> simp

/-- Settles O44: the rule that a search finds is the one with no matching rule before it. -/
theorem firstMatchingRuleDecides : Obligations.FirstMatchingRuleDecides := by
  intro l code b group matching
  have matches_iff (r : RuleEntry) : r.matchesAt code b = true ↔ matching r := r.matchesAt_iff code b
  have found_iff (r : RuleEntry) : l.find? (fun q => q.matchesAt code b) = some r ↔
      matching r ∧ ∃ before after, l = before ++ r :: after ∧ ∀ q ∈ before, ¬matching q := by
    simp only [List.find?_eq_some_iff_append, Bool.not_eq_true', ← Bool.not_eq_true, matches_iff]
  rw [passesRules_iff_find?]
  constructor
  · rintro ⟨r, hfound, hadmits, hholds⟩
    obtain ⟨hmatches, before, after, hsplit, hnone⟩ := (found_iff r).mp hfound
    exact ⟨before, r, after, hsplit, hnone, hmatches, hadmits, hholds⟩
  · rintro ⟨before, r, after, hsplit, hnone, hmatches, hadmits, hholds⟩
    exact ⟨r, (found_iff r).mpr ⟨hmatches, before, after, hsplit, hnone⟩, hadmits, hholds⟩

end Sys2Proof.Machine
end

section
/-! PROOFS. Notices (R214, R215): a request that makes no step due at a free port (R209), NOTICE CLEAR and NOTICE ENABLE, and the attention line. -/

namespace Sys2Proof.Machine

/-! ### Requests that make no step due -/

/-- A request's command is the arrival of its frame at its port (R208). -/
theorem exec_command (r : Request) (p : Port) (body : List Byte) (s : State) :
    exec (r.command p body) s = .next (deliver p r.code body s) := by
  cases r <;> rfl

/-- An inert request, taken or refused, leaves what its owner left, with no step due (R209). -/
theorem takeRequest_inert {p : Port} {r : Request} {body : List Byte} {s t : State} {c : Result} {d : ReplyData}
    (hperm : r.permitted p = true) (hinert : r.inert = true) (hserve : r.serve p body s = (t, ⟨c, d⟩)) :
    takeRequest p r.code body s = (t, ⟨c, d⟩) := by
  simp [takeRequest, requestOf_code, hperm, hinert, hserve]

/-- At a free port an inert request does what its owner does, and its answer begins. -/
theorem exec_inert {p : Port} {r : Request} {body : List Byte} {s t : State} {c : Result} {d : ReplyData}
    (hfree : s.portFree p) (hperm : r.permitted p = true) (hinert : r.inert = true)
    (hserve : r.serve p body s = (t, ⟨c, d⟩)) :
    exec (r.command p body) s = .next (t.answering p r body c d) := by
  rw [exec_command, deliver_portFree hfree, execute_request (takeRequest_inert hperm hinert hserve)]

/-! ### Notice sets (R212) -/

theorem noticeSetOf_of_lt (x y : Byte) {z : Byte} (hz : z.toNat < 16) :
    noticeSetOf x y z = some (BitVec.ofNat 20 (x.toNat + 256 * y.toNat + 65536 * z.toNat)) := by
  have hsum : z.toNat * 65536 + y.toNat * 256 + x.toNat = x.toNat + 256 * y.toNat + 65536 * z.toNat := by omega
  rw [noticeSetOf, if_pos hz, hsum]

theorem noticeSetOf_of_le (x y : Byte) {z : Byte} (hz : 16 ≤ z.toNat) : noticeSetOf x y z = none :=
  if_neg (Nat.not_lt.mpr hz)

/-- Every bit of a notice set stands for a notice. -/
theorem Notice.exists_code_eq {i : Nat} (hi : i < 20) : ∃ n : Notice, n.code = i := by
  interval_cases i
  exacts [⟨.lineState, rfl⟩, ⟨.berthed, rfl⟩, ⟨.envelopeWarning, rfl⟩, ⟨.testDone, rfl⟩, ⟨.obligationDue, rfl⟩,
    ⟨.latePassage, rfl⟩, ⟨.quotaFull, rfl⟩, ⟨.linkErrors, rfl⟩, ⟨.weatherStale, rfl⟩, ⟨.serviceStop, rfl⟩,
    ⟨.trip, rfl⟩, ⟨.dispatchTimeout, rfl⟩, ⟨.testFailed, rfl⟩, ⟨.restricted, rfl⟩, ⟨.carLink, rfl⟩, ⟨.position, rfl⟩,
    ⟨.passengerAlarm, rfl⟩, ⟨.doorUnauthorised, rfl⟩, ⟨.countUncertain, rfl⟩, ⟨.reset, rfl⟩]

/-- A notice set that is not empty names a notice. -/
theorem NoticeSet.ne_zero_iff (v : NoticeSet) : v ≠ 0 ↔ ∃ n : Notice, v.getLsbD n.code = true := by
  constructor
  · contrapose!
    intro hnone
    refine BitVec.eq_of_getLsbD_eq fun i hi => ?_
    obtain ⟨n, rfl⟩ := Notice.exists_code_eq hi
    simpa using hnone n
  · rintro ⟨n, hn⟩ rfl
    simp at hn

/-- Class normal holds the codes 0 to 8 (R212). -/
theorem normalNotices_getLsbD_code (n : Notice) : normalNotices.getLsbD n.code = decide (n.code ≤ 8) := by
  cases n <;> rfl

/-- Class abnormal holds every other code (R212). -/
theorem abnormalNotices_getLsbD_code (n : Notice) : abnormalNotices.getLsbD n.code = !decide (n.code ≤ 8) := by
  cases n <;> rfl

/-! ### NOTICE CLEAR (R214) -/

theorem reqNoticeClear_taken (p : Port) (x y : Byte) {z : Byte} (s : State) {n : NoticeSet} (hset : noticeSetOf x y z = some n) :
    reqNoticeClear p [x, y, z] s = (s.setPort p { s.links.get p with flags := (s.links.get p).flags &&& ~~~n },
      ⟨.done, .notices ((s.links.get p).flags &&& ~~~n)⟩) := by
  simp only [reqNoticeClear, hset, answerWith]

theorem reqNoticeClear_noSet (p : Port) (x y : Byte) {z : Byte} (s : State) (hset : noticeSetOf x y z = none) :
    reqNoticeClear p [x, y, z] s = (s, ⟨.badArgument, .none⟩) := by
  simp only [reqNoticeClear, hset, refuse]

theorem reqNoticeClear_length (p : Port) {body : List Byte} (s : State) (hlen : body.length ≠ 3) :
    reqNoticeClear p body s = (s, ⟨.badArgument, .none⟩) := by
  unfold reqNoticeClear
  split
  · exact absurd rfl hlen
  · rfl

/-- Settles O7: the owner's three forms, none of which makes a step due. -/
theorem noticesAreCleared : Obligations.NoticesAreCleared := by
  intro p s hfree
  refine ⟨fun x y z => ⟨fun hz => ?taken, fun hz => ?unknown⟩, fun body hlen => ?length⟩
  case taken => exact exec_inert (r := .noticeClear) hfree rfl rfl (reqNoticeClear_taken p x y s (noticeSetOf_of_lt x y hz))
  case unknown => exact exec_inert (r := .noticeClear) hfree rfl rfl (reqNoticeClear_noSet p x y s (noticeSetOf_of_le x y hz))
  case length => exact exec_inert (r := .noticeClear) hfree rfl rfl (reqNoticeClear_length p s hlen)

/-! ### NOTICE ENABLE and the attention line (R215) -/

theorem reqNoticeEnable_taken (p : Port) (x y : Byte) {z w : Byte} (s : State) {n : NoticeSet}
    (hset : noticeSetOf x y z = some n) (hw : w.toNat ≤ 3) :
    reqNoticeEnable p [x, y, z, w] s =
      (s.setPort p { s.links.get p with enables := n, normal := w.getLsbD 0, abnormal := w.getLsbD 1 },
        ⟨.done, .enables n (w.getLsbD 0) (w.getLsbD 1)⟩) := by
  simp only [reqNoticeEnable, hset, if_neg (Nat.not_lt.mpr hw), answerWith]

theorem reqNoticeEnable_badByte (p : Port) (x y : Byte) {z w : Byte} (s : State)
    (hbad : noticeSetOf x y z = none ∨ 3 < w.toNat) :
    reqNoticeEnable p [x, y, z, w] s = (s, ⟨.badArgument, .none⟩) := by
  cases hset : noticeSetOf x y z with
  | none => simp only [reqNoticeEnable, hset, refuse]
  | some n =>
    have hw : 3 < w.toNat := hbad.resolve_left (by simp [hset])
    simp only [reqNoticeEnable, hset, if_pos hw, refuse]

theorem reqNoticeEnable_length (p : Port) {body : List Byte} (s : State) (hlen : body.length ≠ 4) :
    reqNoticeEnable p body s = (s, ⟨.badArgument, .none⟩) := by
  unfold reqNoticeEnable
  split
  · exact absurd rfl hlen
  · rfl

/-- A class of notices asks for attention while one of its notices is both flagged and enabled. -/
theorem classPending_iff (q : PortState) (m : NoticeSet) :
    ((q.flags &&& q.enables &&& m) != 0) = true ↔
      ∃ n : Notice, q.flags.getLsbD n.code = true ∧ q.enables.getLsbD n.code = true ∧ m.getLsbD n.code = true := by
  simp only [bne_iff_ne, NoticeSet.ne_zero_iff, BitVec.getLsbD_and, Bool.and_eq_true, and_assoc]

/-- Each notice belongs to one class, whose summary lets it through. -/
theorem PortState.attention_iff (q : PortState) : q.attention = true ↔
    ∃ n : Notice, q.flags.getLsbD n.code = true ∧ q.enables.getLsbD n.code = true ∧
      (if n.code ≤ 8 then q.normal else q.abnormal) = true := by
  rw [PortState.attention, Bool.or_eq_true, Bool.and_eq_true, Bool.and_eq_true, classPending_iff, classPending_iff]
  constructor
  · rintro (⟨hsum, n, hflag, henable, hclass⟩ | ⟨hsum, n, hflag, henable, hclass⟩)
    · rw [normalNotices_getLsbD_code, decide_eq_true_eq] at hclass
      exact ⟨n, hflag, henable, by rwa [if_pos hclass]⟩
    · rw [abnormalNotices_getLsbD_code, Bool.not_eq_true', decide_eq_false_iff_not] at hclass
      exact ⟨n, hflag, henable, by rwa [if_neg hclass]⟩
  · rintro ⟨n, hflag, henable, hsum⟩
    split_ifs at hsum with hclass
    · exact .inl ⟨hsum, n, hflag, henable, by simp [-BitVec.getLsbD_eq_getElem, normalNotices_getLsbD_code, hclass]⟩
    · exact .inr ⟨hsum, n, hflag, henable, by simp [-BitVec.getLsbD_eq_getElem, abnormalNotices_getLsbD_code, hclass]⟩

/-- Settles O8: the owner's three forms, none of which makes a step due, and the attention line class by class. -/
theorem enablesFormTheAttentionLine : Obligations.EnablesFormTheAttentionLine := by
  refine ⟨fun p s hfree => ⟨fun x y z w => ⟨fun hz hw => ?taken, fun hbad => ?refused⟩, fun body hlen => ?length⟩,
    PortState.attention_iff⟩
  case taken =>
    exact exec_inert (r := .noticeEnable) hfree rfl rfl (reqNoticeEnable_taken p x y s (noticeSetOf_of_lt x y hz) hw)
  case refused =>
    exact exec_inert (r := .noticeEnable) hfree rfl rfl (reqNoticeEnable_badByte p x y s (hbad.imp_left (noticeSetOf_of_le x y)))
  case length => exact exec_inert (r := .noticeEnable) hfree rfl rfl (reqNoticeEnable_length p s hlen)

end Sys2Proof.Machine
end

section
/-! PROOFS. What keeps the seven laws. -/

namespace Sys2Proof.Machine

/-! ### Keeping the laws -/

/-- From `s` to `t` every law but that of DRV_EN is kept, and the time and the queue stand. -/
structure Kept (s t : State) : Prop where
  time : t.now = s.now ∧ t.pending = s.pending
  cause : CauseLaw s → CauseLaw t
  slot : SlotLaw s → SlotLaw t
  grant : GrantLaw s → GrantLaw t
  pending : PendingLaw s → PendingLaw t
  target : TargetLaw s → TargetLaw t
  test : TestLaw s → TestLaw t

/-- From `s` to `t` every law is kept, that of DRV_EN where the cause law holds with it. -/
structure Lawful (s t : State) : Prop extends Kept s t where
  drive : CauseLaw s → DriveLaw s → DriveLaw t

theorem Kept.refl (s : State) : Kept s s := ⟨⟨rfl, rfl⟩, id, id, id, id, id, id⟩

theorem Kept.trans {s t u : State} (h : Kept s t) (k : Kept t u) : Kept s u :=
  ⟨⟨k.time.1.trans h.time.1, k.time.2.trans h.time.2⟩, k.cause ∘ h.cause, k.slot ∘ h.slot,
    k.grant ∘ h.grant, k.pending ∘ h.pending, k.target ∘ h.target, k.test ∘ h.test⟩

theorem Lawful.refl (s : State) : Lawful s s := ⟨.refl s, fun _ => id⟩

theorem Lawful.trans {s t u : State} (h : Lawful s t) (k : Lawful t u) : Lawful s u :=
  ⟨h.toKept.trans k.toKept, fun hc hd => k.drive (h.cause hc) (h.drive hc hd)⟩

/-- A change within one line state (or from one RUNNING phase to another) that raises no output line against a law: the outputs and
the held setpoint rise only outside TRIPPED, DRV_EN never, grants and links are only lost, a test in hand only moves on in its stages, and leaves
its window with DRV_EN down. -/
structure Mild (s t : State) : Prop where
  time : t.now = s.now ∧ t.pending = s.pending
  causes : t.sup.causes = s.sup.causes
  outputs : s.trip.line = .tripped → (t.sup.ebRel = true → s.sup.ebRel = true) ∧ (t.sup.sbRel = true → s.sup.sbRel = true)
  held : s.trip.line = .tripped → t.trip.held = s.trip.held ∨ t.trip.held = 0 ∨ s.trip.stepping = true
  drive : t.sup.drvEn = true → s.sup.drvEn = true
  stepping : t.trip.stepping = true → s.trip.stepping = true ∧ (s.sup.drvEn = true → t.sup.drvEn = true)
  line : t.trip.line = s.trip.line ∨ ∃ p q, s.trip.line = .running p ∧ t.trip.line = .running q
  slot : t.trip.slot = s.trip.slot
  record : (t.trip.record.map fun r => r.target) = s.trip.record.map fun r => r.target
  move : t.trip.moveRelease = true → s.trip.moveRelease = true
  grant : GrantLaw s → GrantLaw t
  grants : t.anyGrant = true → s.anyGrant = true
  pending : PendingLaw s → PendingLaw t
  cars : ∀ x, t.sup.drvEn = true → s.stale x = false → t.stale x = false ∧ (s.allLocked x = true → t.allLocked x = true)
  targets : t.sched.targets = s.sched.targets
  test : t.sched.test = s.sched.test ∨
    ∃ k g g', s.sched.test = some (k, g) ∧ t.sched.test = some (k, g') ∧ (t.sup.drvEn = false ∨ (k, g) ≠ (.eb, .window))

theorem Mild.line_iff {s t : State} (h : Mild s t) (l : LineState) (hl : ∀ p, l ≠ .running p) : t.trip.line = l ↔ s.trip.line = l := by
  obtain e | ⟨p, q, e, e'⟩ := h.line
  · rw [e]
  · simp [e, e', (hl _).symm]

theorem Mild.cause {s t : State} (h : Mild s t) (hs : CauseLaw s) : CauseLaw t := by
  obtain ⟨hlist, hdown, hstep, hlen, hnodup⟩ := hs
  have hline := h.line_iff .tripped (by simp)
  refine ⟨?_, fun ht => ?_, fun hd => ?_, ?_, ?_⟩
  · rw [h.causes, hlist, hline]
  · have hs := hline.mp ht
    obtain ⟨he, hb, hdrv, hheld⟩ := hdown hs
    obtain ⟨heb, hsb⟩ := h.outputs hs
    refine ⟨by simpa [he] using heb, by simpa [hb] using hsb, by simpa [hdrv] using h.drive, ?_⟩
    have := h.held hs
    rw [hheld, hstep hdrv] at this
    simpa using this
  · by_contra hne
    obtain ⟨hs, hdrv⟩ := h.stepping (by simpa using hne)
    cases hsd : s.sup.drvEn with
    | true => simp [hdrv hsd] at hd
    | false => simp [hstep hsd] at hs
  · rwa [h.causes]
  · rwa [h.causes]

theorem Mild.drives {s t : State} (h : Mild s t) (hs : DriveLaw s) : DriveLaw t := by
  obtain ⟨hdrive, hmove, hwindow⟩ := hs
  refine ⟨fun ht => ?_, fun ht => ?_, fun ht hw => ?_⟩
  · obtain ⟨hline, ha, hb, la, lb, hg⟩ := hdrive (h.drive ht)
    refine ⟨?_, (h.cars .a ht ha).1, (h.cars .b ht hb).1, (h.cars .a ht ha).2 la, (h.cars .b ht hb).2 lb, ?_⟩
    · obtain e | ⟨p, q, e, e'⟩ := h.line
      · rwa [e]
      · simp [e', LineState.inMotion]
    · simpa [hg] using h.grants
  · obtain ⟨hline, hdrv⟩ := hmove (h.move ht)
    exact ⟨(h.line_iff _ (by simp)).mpr hline, by simpa [hdrv] using h.drive⟩
  · have hs := (h.line_iff _ (by simp)).mp ht
    cases hd : t.sup.drvEn with
    | false => rfl
    | true =>
      have hw' : s.sched.test ≠ some (.eb, .window) := by
        obtain e | ⟨k, g, g', e, e', hk⟩ := h.test
        · rwa [← e]
        · simpa [e, hd] using hk
      simpa [hd] using (h.drive hd).symm.trans (hwindow hs hw')

theorem Mild.targeted {s t : State} (h : Mild s t) (hs : TargetLaw s) : TargetLaw t := by
  obtain ⟨hrec, hslot, hrail⟩ := hs
  refine ⟨fun r hr => ?_, by simpa [h.slot] using hslot, fun ht => ?_⟩
  · have hr' := h.record
    rw [hr, Option.map_some, eq_comm, Option.map_eq_some_iff] at hr'
    obtain ⟨r', hs, e⟩ := hr'
    exact e ▸ hrec r' hs
  · rw [h.targets]
    apply hrail
    obtain e | ⟨p, q, e, e'⟩ := h.line
    · rwa [← e]
    · simp [e', LineState.isRail] at ht

theorem Mild.tested {s t : State} (h : Mild s t) (hs : TestLaw s) : TestLaw t := by
  intro k
  rw [h.line_iff _ (by simp), hs k]
  obtain e | ⟨j, g, g', e, e', -⟩ := h.test
  · rw [e]
  · simp [e, e']

theorem Mild.lawful {s t : State} (h : Mild s t) : Lawful s t where
  time := h.time
  cause := h.cause
  slot hs := by unfold SlotLaw; rw [h.slot, h.line_iff _ (by simp)]; exact hs
  grant := h.grant
  pending := h.pending
  drive _ := h.drives
  target := h.targeted
  test := h.tested

theorem Mild.kept {s t : State} (h : Mild s t) : Kept s t := h.lawful.toKept

/-! ### Laws of states that agree -/

theorem State.stale_congr {s t : State} {x : Car} (h : (t.track.cars.get x).link = (s.track.cars.get x).link) : t.stale x = s.stale x := by
  simp [State.stale, h]

theorem State.allLocked_congr {s t : State} {x : Car} (ha : (t.track.cars.get x).ability = (s.track.cars.get x).ability)
    (hd : (t.doors.get x).leaves = (s.doors.get x).leaves) : t.allLocked x = s.allLocked x := by
  simp [State.allLocked, State.present, ha, hd]

theorem State.anyGrant_congr {s t : State} (h : ∀ x, (t.doors.get x).grants = (s.doors.get x).grants) : t.anyGrant = s.anyGrant := by
  have ha := h .a
  have hb := h .b
  simp only [PerCar.get] at ha hb
  simp [State.anyGrant, CarDoors.anyGrant, ha, hb]

theorem State.coord_congr {s t : State} (ht : t.tables.header = s.tables.header) (hr : t.rope.base = s.rope.base)
    (hc : t.rope.chans.ch1.count = s.rope.chans.ch1.count) : t.coord = s.coord := by
  simp [State.coord, ht, hr, hc]

/-- The law of grants depends on how far the rope has moved, the flag, the grants and whether the line is PARKED. -/
theorem GrantLaw.of_fewer {s t : State} (hcoord : t.coord = s.coord) (href : t.rope.sRef = s.rope.sRef) (hflag : t.rope.flag = s.rope.flag)
    (hgrants : t.anyGrant = true → s.anyGrant = true) (hline : s.trip.line = .parked → t.trip.line = .parked) (hs : GrantLaw s) : GrantLaw t := by
  obtain ⟨hnear, hgrant⟩ := hs
  refine ⟨by rwa [hcoord, href, hflag], fun ht => ?_⟩
  rw [hflag]
  exact (hgrant (hgrants ht)).imp_left hline

theorem PendingLaw.of_board {s t : State} (h : t.board.berths = s.board.berths) (hs : PendingLaw s) : PendingLaw t := by
  unfold PendingLaw Board.pendingGates at *
  rwa [h]

/-- The blocks that a change leaves, with what it does to the trip controller, the supervisor and the test in hand. -/
theorem Mild.of_blocks {s t : State} (time : t.now = s.now ∧ t.pending = s.pending) (tables : t.tables = s.tables) (rope : t.rope = s.rope)
    (doors : t.doors = s.doors) (board : t.board = s.board)
    (cars : t.track.cars = s.track.cars)
    (causes : t.sup.causes = s.sup.causes)
    (outputs : s.trip.line = .tripped → (t.sup.ebRel = true → s.sup.ebRel = true) ∧ (t.sup.sbRel = true → s.sup.sbRel = true))
    (held : s.trip.line = .tripped → t.trip.held = s.trip.held ∨ t.trip.held = 0 ∨ s.trip.stepping = true)
    (drive : t.sup.drvEn = true → s.sup.drvEn = true)
    (stepping : t.trip.stepping = true → s.trip.stepping = true ∧ (s.sup.drvEn = true → t.sup.drvEn = true))
    (line : t.trip.line = s.trip.line ∨ ∃ p q, s.trip.line = .running p ∧ t.trip.line = .running q)
    (slot : t.trip.slot = s.trip.slot)
    (record : (t.trip.record.map fun r => r.target) = (s.trip.record.map fun r => r.target))
    (move : t.trip.moveRelease = true → s.trip.moveRelease = true)
    (targets : t.sched.targets = s.sched.targets)
    (test : t.sched.test = s.sched.test ∨
      ∃ k g g', s.sched.test = some (k, g) ∧ t.sched.test = some (k, g') ∧ (t.sup.drvEn = false ∨ (k, g) ≠ (.eb, .window))) :
    Mild s t where
  time := time
  causes := causes
  outputs := outputs
  held := held
  drive := drive
  stepping := stepping
  line := line
  slot := slot
  record := record
  move := move
  grant := by
    refine GrantLaw.of_fewer (State.coord_congr (by rw [tables]) (by rw [rope]) (by rw [rope])) (by rw [rope]) (by rw [rope])
      (by rw [State.anyGrant_congr (s := s) (by simp [doors])]; exact id) fun hp => ?_
    obtain e | ⟨p, q, e, e'⟩ := line
    · rwa [e]
    · simp [e] at hp
  grants := by rw [State.anyGrant_congr (s := s) (by simp [doors])]; exact id
  pending := PendingLaw.of_board (by rw [board])
  cars x _ hs := by
    rw [State.stale_congr (s := s) (t := t) (by rw [cars]), State.allLocked_congr (s := s) (t := t) (by rw [cars]) (by rw [doors])]
    exact ⟨hs, id⟩
  targets := targets
  test := test

/-! ### Mild operations -/

/-- A change of the trip controller's own figures. -/
theorem withTrip_mild (v : Trip) (s : State)
    (h : (s.trip.line = .tripped → v.held = s.trip.held ∨ v.held = 0 ∨ s.trip.stepping = true) ∧
      (v.stepping = true → s.trip.stepping = true) ∧ v.line = s.trip.line ∧ v.slot = s.trip.slot ∧
      ((v.record.map fun r => r.target) = s.trip.record.map fun r => r.target) ∧
      (v.moveRelease = true → s.trip.moveRelease = true)) : Mild s { s with trip := v } := by
  obtain ⟨held, stepping, line, slot, record, move⟩ := h
  exact Mild.of_blocks (t := { s with trip := v }) ⟨rfl, rfl⟩ rfl rfl rfl rfl rfl rfl (fun _ => ⟨id, id⟩) held id (fun h => ⟨stepping h, id⟩)
    (.inl line) slot record move rfl (.inl rfl)

/-- A change of the supervisor's own figures. -/
theorem withSup_mild (v : Sup) (s : State)
    (h : v.causes = s.sup.causes ∧ v.ebRel = s.sup.ebRel ∧ v.sbRel = s.sup.sbRel ∧ v.drvEn = s.sup.drvEn) : Mild s { s with sup := v } := by
  obtain ⟨causes, eb, sb, drv⟩ := h
  apply Mild.of_blocks <;> simp [causes, eb, sb, drv]

/-- A change of the scheduler's own figures. -/
theorem withSched_mild (v : Sched) (s : State) (h : v.test = s.sched.test ∧ v.targets = s.sched.targets) :
    Mild s { s with sched := v } := by
  obtain ⟨test, targets⟩ := h
  apply Mild.of_blocks (t := { s with sched := v }) (targets := targets) (test := .inl test) <;> simp

theorem setPort_mild (p : Port) (q : PortState) (s : State) : Mild s (s.setPort p q) := by
  apply Mild.of_blocks <;> simp

theorem raiseOn_mild (n : Notice) (p : Port) (s : State) : Mild s (raiseOn n p s) := by
  apply Mild.of_blocks <;> simp

theorem raiseAll_mild (n : Notice) (s : State) : Mild s (raiseAll n s) := by
  apply Mild.of_blocks <;> simp

theorem linkError_mild (p : Port) (e : LinkError) (s : State) : Mild s (linkError p e s) := by
  apply Mild.of_blocks <;> simp

theorem setTrack_mild (v : Track) (s : State) (h : v.cars = s.track.cars) : Mild s (s.setTrack v) := by
  apply Mild.of_blocks (s := s) (t := s.setTrack v) (cars := h) <;> simp
theorem emitFrame_mild (s : State) : Mild s (emitFrame s) := by
  apply Mild.of_blocks <;> simp

theorem forceZero_mild (s : State) : Mild s (forceZero s) := by
  apply Mild.of_blocks <;> simp

theorem clearStop_mild (s : State) : Mild s (clearStop s) := by
  apply Mild.of_blocks (s := s) (t := clearStop s) (board := rfl) (doors := rfl) <;> simp

theorem setEb_off_mild (s : State) : Mild s (setEb false s) := by
  apply Mild.of_blocks <;> simp

theorem setEb_on_mild (s : State) (h : s.trip.line ≠ .tripped) : Mild s (setEb true s) := by
  apply Mild.of_blocks (s := s) (t := setEb true s) (outputs := fun e => absurd e h) <;> simp

theorem setSb_off_mild (s : State) : Mild s (setSb false s) := by
  apply Mild.of_blocks <;> simp

theorem setSb_on_mild (s : State) (h : s.trip.line ≠ .tripped) : Mild s (setSb true s) := by
  apply Mild.of_blocks (s := s) (t := setSb true s) (outputs := fun e => absurd e h) <;> simp

theorem armRollaway_mild (s : State) : Mild s (armRollaway s) := by
  apply Mild.of_blocks <;> simp


/-- DRV_EN de-energised stops the profile step (R67). -/
theorem setDrv_off_trip_eq (s : State) :
    (setDrv false s).trip = { s.trip with stepping := s.trip.stepping && !s.sup.drvEn } := by
  rw [setDrv_off_trip]
  cases s.sup.drvEn <;> simp

theorem setDrv_off_mild (s : State) : Mild s (setDrv false s) := by
  apply Mild.of_blocks <;> simp +contextual [setDrv_off_trip_eq, -setDrv_off_trip]

theorem endRecord_mild (e : Ending) (s : State) : Mild s (endRecord e s) := by
  apply Mild.of_blocks <;> simp
  cases s.trip.record <;> simp
  split <;> rfl

theorem setPhase_mild (ph : Phase) (s : State) : Mild s (setPhase ph s) := by
  unfold setPhase
  split
  · rename_i p h
    apply Mild.of_blocks (s := s) (t := { s with trip := { s.trip with line := .running ph } }) (line := .inr ⟨p, ph, h, rfl⟩) <;> simp
  · apply Mild.of_blocks <;> simp

theorem writeTest_mild (k : TestKind) (r : TestResult) (n : Nat) (s : State) : Mild s (writeTest k r n s) := by
  apply Mild.of_blocks (s := s) (t := writeTest k r n s) (targets := rfl) (test := .inl rfl) <;> simp

theorem stopTestLimits_mild (s : State) : Mild s (stopTestLimits s) := by
  apply Mild.of_blocks (s := s) (t := stopTestLimits s) (targets := rfl) (test := .inl rfl) <;> simp

end Sys2Proof.Machine
end

section
/-! PROOFS. The laws under the operations of doors, berths and tests. -/

namespace Sys2Proof.Machine

/-! ### Berths -/

theorem mem_berthList (b : Berth) : b ∈ berthList := by cases b <;> decide

/-- Each berth on its own keeps its law and gains no record. -/
theorem PendingLaw.of_berths {s t : State}
    (h : ∀ b, (BerthLaw (s.board.berths.get b) → BerthLaw (t.board.berths.get b)) ∧
      (t.board.berths.get b).pending.Sublist (s.board.berths.get b).pending) (hs : PendingLaw s) : PendingLaw t := by
  obtain ⟨hberth, hgates⟩ := hs
  refine ⟨fun b hb => (h b).1 (hberth b hb), hgates.sublist ?_⟩
  have h0 := (h .b0).2
  have h1 := (h .b1).2
  have h2 := (h .b2).2
  have h3 := (h .b3).2
  exact ((((h0.append h1).append h2).append h3).map _)

theorem BerthLaw.moveOut {v : BerthBoard} (h : BerthLaw v) : BerthLaw v.moveOut := by
  obtain ⟨st, pen, al, l, q, la, e⟩ := v
  unfold BerthLaw at *
  cases st <;> simp_all [BerthBoard.moveOut]

theorem BerthLaw.depart {v : BerthBoard} (h : BerthLaw v) : BerthLaw v.depart := by
  obtain ⟨st, pen, al, l, q, la, e⟩ := v
  unfold BerthLaw at *
  cases st <;> simp_all [BerthBoard.depart]

theorem depart_pending (v : BerthBoard) : v.depart.pending = v.pending := by
  unfold BerthBoard.depart; split <;> rfl

/-- A change of the doors, the car links or the berths alone. -/
theorem Mild.of_same {s t : State} (pending : PendingLaw s → PendingLaw t) (grants : t.anyGrant = true → s.anyGrant = true)
    (cars : ∀ x, t.sup.drvEn = true → s.stale x = false → t.stale x = false ∧ (s.allLocked x = true → t.allLocked x = true))
    (same : t.tables = s.tables ∧ t.rope = s.rope ∧ t.trip = s.trip ∧ t.sup = s.sup ∧ t.sched = s.sched ∧ t.now = s.now ∧
      t.pending = s.pending) : Mild s t := by
  obtain ⟨tables, rope, trip, sup, sched, time⟩ := same
  exact {
    time := time
    causes := by rw [sup]
    outputs _ := by rw [sup]; exact ⟨id, id⟩
    held _ := .inl (by rw [trip])
    drive := by rw [sup]; exact id
    stepping := by rw [trip, sup]; exact fun h => ⟨h, id⟩
    line := .inl (by rw [trip])
    slot := by rw [trip]
    record := by rw [trip]
    move := by rw [trip]; exact id
    grant := .of_fewer (State.coord_congr (by rw [tables]) (by rw [rope]) (by rw [rope])) (by rw [rope]) (by rw [rope]) grants
      (by rw [trip]; exact id)
    grants := grants
    pending := pending
    cars := cars
    targets := by rw [sched]
    test := .inl (by rw [sched]) }

/-- An operation on one berth that keeps its law and gains no record. -/
theorem setBoard_mild (b : Berth) (v : BerthBoard) (s : State) (hlaw : BerthLaw (s.board.berths.get b) → BerthLaw v)
    (hpending : v.pending.Sublist (s.board.berths.get b).pending) : Mild s (s.setBoard b v) := by
  refine .of_same (PendingLaw.of_berths fun k => ?_) id (fun _ _ h => ⟨h, id⟩) ⟨rfl, rfl, rfl, rfl, rfl, rfl, rfl⟩
  by_cases hk : k = b
  · subst hk; simpa using ⟨hlaw, hpending⟩
  · simp [PerBerth.get_set_ne _ _ _ _ hk]

/-- An operation on every berth that keeps its law and its records. -/
theorem mapBoard_mild (f : BerthBoard → BerthBoard) (s : State) (hlaw : ∀ v, BerthLaw v → BerthLaw (f v))
    (hpending : ∀ v, (f v).pending = v.pending) : Mild s { s with board := { s.board with berths := s.board.berths.map f } } :=
  .of_same (PendingLaw.of_berths fun k => by simpa [hpending] using hlaw _) id (fun _ _ h => ⟨h, id⟩) ⟨rfl, rfl, rfl, rfl, rfl, rfl, rfl⟩

theorem moveBerth_mild (b : Berth) (s : State) : Mild s (moveBerth b s) :=
  setBoard_mild b _ s .moveOut (by rw [(moveOut_keeps _).2.2.1])

theorem moveAllBerths_mild (s : State) : Mild s (moveAllBerths s) :=
  mapBoard_mild _ s (fun _ => .moveOut) fun v => (moveOut_keeps v).2.2.1

theorem setCarBoard_mild (x : Car) (v : CarBoard) (s : State) : Mild s (s.setCarBoard x v) :=
  .of_same (.of_board rfl) id (fun _ _ h => ⟨h, id⟩) ⟨rfl, rfl, rfl, rfl, rfl, rfl, rfl⟩

/-! ### Doors -/

/-- One car's doors replaced, their leaf records kept and no grant made. -/
theorem setDoors_mild (x : Car) (v : CarDoors) (s : State) (hleaves : v.leaves = (s.doors.get x).leaves)
    (hgrants : ∀ d, v.grants.get d = (s.doors.get x).grants.get d ∨ v.grants.get d = none) : Mild s (s.setDoors x v) := by
  refine .of_same (.of_board rfl) ?_ (fun y _ h => ⟨h, fun hl => ?_⟩) ⟨rfl, rfl, rfl, rfl, rfl, rfl, rfl⟩
  · contrapose!
    simp only [ne_eq, Bool.not_eq_true, State.anyGrant_eq_false]
    intro h y d
    by_cases hy : y = x
    · subst hy
      simp only [State.setDoors_doors, PerCar.get_set_same]
      rcases hgrants d with e | e
      · rw [e, h]
      · exact e
    · rw [State.setDoors_doors, PerCar.get_set_ne _ _ _ _ hy, h]
  · have hsame : ((s.setDoors x v).doors.get y).leaves = (s.doors.get y).leaves := by
      by_cases hy : y = x
      · subst hy; simpa using hleaves
      · simp [PerCar.get_set_ne _ _ _ _ hy]
    rwa [State.allLocked_congr (s := s) (t := s.setDoors x v) rfl hsame]

theorem dropGrant_mild (x : Car) (d : Side) (s : State) : Mild s (s.setDoors x ((s.doors.get x).dropGrant d)) := by
  refine setDoors_mild x _ s (dropGrant_keeps _ _).1 fun e => ?_
  by_cases he : e = d
  · subst he; exact .inr (dropGrant_none _ _)
  · exact .inl (dropGrant_other _ _ _ he).1

theorem withdraw_lawful (x : Car) (d : Side) (s : State) : Lawful s (withdraw x d s) := by
  unfold withdraw
  split
  · dsimp only
    split
    · exact (dropGrant_mild x d s).lawful
    · exact (dropGrant_mild x d s).lawful.trans (moveBerth_mild _ _).lawful
  · exact .refl s

theorem withdrawCar_lawful (x : Car) (s : State) : Lawful s (withdrawCar x s) :=
  (withdraw_lawful x .left s).trans (withdraw_lawful x .right _)

theorem withdrawAll_lawful (s : State) : Lawful s (withdrawAll s) := (withdrawCar_lawful .a s).trans (withdrawCar_lawful .b _)

theorem closeCar_mild (x : Car) (s : State) : Mild s (closeCar x s) := setDoors_mild x _ s rfl fun _ => .inl rfl

theorem closeAll_lawful (s : State) : Lawful s (closeAll s) := (closeCar_mild .a s).lawful.trans (closeCar_mild .b _).lawful

theorem setAlignments_lawful (u v : Alignment) (s : State) : Lawful s (setAlignments u v s) :=
  (setDoors_mild .a { s.doors.a with alignment := u } s rfl fun _ => .inl rfl).lawful.trans
    (setDoors_mild .b { s.doors.b with alignment := v } (s.setDoors .a _) rfl fun _ => .inl rfl).lawful

/-- A grant is made only in PARKED with the standstill flag set (R165). -/
theorem makeGrant_lawful (x : Car) (d : Side) (g : Grant) (s : State) (hline : s.trip.line = .parked) (hflag : s.rope.flag = true) :
    Lawful s (makeGrant x d g s) where
  time := ⟨rfl, rfl⟩
  cause := id
  slot := id
  grant h := ⟨h.1, fun _ => ⟨hline, hflag⟩⟩
  pending := id
  target := id
  test := id
  drive _ h := by
    obtain ⟨hdrive, hmove, hwindow⟩ := h
    refine ⟨fun hd => ?_, hmove, hwindow⟩
    have := (hdrive hd).1
    simp [hline, LineState.inMotion, LineState.isTest] at this

theorem releaseFault_flag {s : State} {x : Car} {b : Berth} {e : BerthEntry} {d : Side} (h : s.releaseFault x b e d = none) :
    s.rope.flag = true := by
  unfold State.releaseFault at h
  split_ifs at h with _ hf
  simpa using hf

theorem autoReleaseSide_lawful (x : Car) (b : Berth) (d : Side) (s : State) (hline : s.trip.line = .parked) :
    Lawful s (autoReleaseSide x b d s) := by
  unfold autoReleaseSide
  split
  · split
    · rename_i h
      simp only [Bool.and_eq_true, Option.isNone_iff_eq_none] at h
      exact makeGrant_lawful x d _ s hline (releaseFault_flag h.2)
    · exact .refl s
  · exact .refl s

theorem autoRelease_lawful (b : Berth) (s : State) (hline : s.trip.line = .parked) : Lawful s (autoRelease b s) :=
  (((autoReleaseSide_lawful .a b .left s hline).trans (autoReleaseSide_lawful .a b .right _ (by simpa))).trans
    (autoReleaseSide_lawful .b _ .left _ (by simpa))).trans (autoReleaseSide_lawful .b _ .right _ (by simpa))

/-! ### Tests -/

/-- A test in hand moves on to another stage, its window being left with DRV_EN down (R126). -/
theorem setStage_mild (k : TestKind) (g g' : TestStage) (s : State) (htest : s.sched.test = some (k, g))
    (hdrv : s.sup.drvEn = false ∨ (k, g) ≠ (.eb, .window)) : Mild s (setStage k g' s) :=
by
  apply Mild.of_blocks (s := s) (t := setStage k g' s) (targets := rfl) (test := .inr ⟨k, g, g', htest, rfl, hdrv⟩) <;> simp

theorem restrict_lawful (s : State) : Lawful s (restrict s) := (raiseAll_mild _ s).lawful.trans (moveAllBerths_mild _).lawful

/-- A further operation taken on a condition. -/
theorem Lawful.thenIf {s t u : State} {c : Prop} [Decidable c] (h : Lawful s t) (hu : c → Lawful t u) : Lawful s (if c then u else t) := by
  split
  · exact h.trans (hu ‹_›)
  · exact h

/-- Everything a decision does before its stage is set (R121). -/
theorem decideTest_eq (k : TestKind) (r : TestResult) (n : Nat) (s : State) : ∃ t, Lawful s t ∧ decideTest k r n s = setStage k .ending t ∧
    t.sched.test = s.sched.test ∧ t.sup = s.sup ∧ t.trip = s.trip := by
  refine ⟨_, ?_, rfl, ?_, ?_, ?_⟩
  · refine .trans (.thenIf (.thenIf ?_ fun _ => (raiseAll_mild .testFailed _).lawful) fun _ => restrict_lawful _) (stopTestLimits_mild _).lawful
    refine .trans (.trans (Mild.lawful ?_) (writeTest_mild k r n _).lawful) (raiseAll_mild .testDone _).lawful
    apply Mild.of_blocks <;> simp
  · unfold stopTestLimits; dsimp only; split <;> split <;> simp [writeTest]
  · split <;> split <;> simp
  · split <;> split <;> simp

/-- A decision outside the window of an emergency brake test, or with DRV_EN down. -/
theorem decideTest_lawful (k : TestKind) (g : TestStage) (r : TestResult) (n : Nat) (s : State) (htest : s.sched.test = some (k, g))
    (hdrv : s.sup.drvEn = false ∨ (k, g) ≠ (.eb, .window)) : Lawful s (decideTest k r n s) := by
  obtain ⟨t, ht, e, htt, hts, -⟩ := decideTest_eq k r n s
  rw [e]
  exact ht.trans (setStage_mild k g .ending t (by rw [htt, htest]) (by rwa [hts])).lawful

theorem abortToEnding_lawful (k : TestKind) (g : TestStage) (s : State) (htest : s.sched.test = some (k, g))
    (hdrv : s.sup.drvEn = false ∨ (k, g) ≠ (.eb, .window)) : Lawful s (abortToEnding k s) := by
  unfold abortToEnding
  refine .trans (.trans (.trans (writeTest_mild _ _ _ _).lawful (raiseAll_mild _ _).lawful) (stopTestLimits_mild _).lawful)
    (setStage_mild k g _ _ ?_ ?_).lawful
  · simpa [stopTestLimits, writeTest] using htest
  · simpa using hdrv

theorem setStage_kept (k : TestKind) (g g' : TestStage) (s : State) (htest : s.sched.test = some (k, g)) : Kept s (setStage k g' s) where
  time := ⟨rfl, rfl⟩
  cause := id
  slot := id
  grant := id
  pending := id
  target := id
  test h j := (h j).trans (by simp [setStage, htest])

theorem DriveLaw.of_down {s : State} (hdrv : s.sup.drvEn = false) (hmove : s.trip.moveRelease = true → s.trip.line = .recovery true) :
    DriveLaw s :=
  ⟨by simp [hdrv], fun h => ⟨hmove h, hdrv⟩, fun _ _ => hdrv⟩

/-- The decision of a test whose lines drop with it (R125). -/
theorem decideTest_drop_lawful {k : TestKind} {g : TestStage} {r : TestResult} {n : Nat} {s u : State} (htest : s.sched.test = some (k, g))
    (hu : Lawful (decideTest k r n s) u) (hdrv : u.sup.drvEn = false) (hline : u.trip.line = s.trip.line)
    (hmove : u.trip.moveRelease = s.trip.moveRelease) : Lawful s u := by
  obtain ⟨t, ht, e, htt, -⟩ := decideTest_eq k r n s
  rw [e] at hu
  refine ⟨(ht.toKept.trans (setStage_kept k g _ t (by rw [htt, htest]))).trans hu.toKept, fun _ hd => .of_down hdrv fun hm => ?_⟩
  rw [hline]
  exact (hd.2.1 (by rwa [← hmove])).1

/-! ### Trip causes -/

@[simp] theorem setDrv_off_fields (s : State) :
    (setDrv false s).trip.line = s.trip.line ∧ (setDrv false s).trip.record = s.trip.record ∧
    (setDrv false s).trip.stepping = (s.trip.stepping && !s.sup.drvEn) := by
  simp [setDrv_off_trip_eq, -setDrv_off_trip]

theorem endTestAtTrip_test (s : State) : (endTestAtTrip s).sched.test = none ∧ (endTestAtTrip s).sched.targets = s.sched.targets := by
  unfold endTestAtTrip
  split
  · dsimp only
    split <;> simp [stopTestLimits, writeTest]
  · simp_all

/-- What the line record holds after a trip (R89, R109). -/
theorem tripLine_trip (e : CauseEntry) (s : State) :
    (tripLine e s).trip.line = .tripped ∧ (tripLine e s).trip.held = 0 ∧ (tripLine e s).trip.slot = none ∧
    (tripLine e s).trip.moveRelease = false ∧ (tripLine e s).trip.stepping = (s.trip.stepping && !s.sup.drvEn) ∧
    ((tripLine e s).trip.record.map fun r => r.target) = s.trip.record.map fun r => r.target := by
  refine ⟨?_, ?_, ?_, ?_, ?_, ?_⟩ <;> simp [tripLine, tripController, setDrv_off_trip_eq, -setDrv_off_trip]
  cases s.trip.record <;> simp
  split <;> rfl

theorem tripLine_sched (e : CauseEntry) (s : State) :
    (tripLine e s).sched.test = none ∧ (tripLine e s).sched.targets = s.sched.targets := by
  simp [tripLine, endTestAtTrip_test]

theorem tripLine_board (e : CauseEntry) (s : State) :
    (tripLine e s).board = { s.board with berths := s.board.berths.map BerthBoard.moveOut } := by
  simp [tripLine, LineState.departs]

/-- The list after a cause (R110). -/
theorem listCause_causes (e : CauseEntry) (s : State) :
    (listCause e s).sup.causes = s.sup.causes ∨
      (listCause e s).sup.causes = s.sup.causes ++ [e] ∧ s.sup.causes.length < 4 ∧ ∀ f ∈ s.sup.causes, f.cause ≠ e.cause := by
  unfold listCause
  split
  · exact .inl rfl
  · rename_i hnew
    split
    · refine .inr ⟨by simp, ‹_›, by simpa using hnew⟩
    · split <;> simp

/-- A cause listed in TRIPPED changes the list and the overflow flag alone (R110). -/
theorem listCause_outputs (e : CauseEntry) (s : State) :
    (listCause e s).sup.ebRel = s.sup.ebRel ∧ (listCause e s).sup.sbRel = s.sup.sbRel ∧ (listCause e s).sup.drvEn = s.sup.drvEn := by
  unfold listCause
  split
  · simp
  · split
    · simp
    · split <;> simp

end Sys2Proof.Machine
end

section
/-! PROOFS. The laws under a trip cause and a service stop. -/

namespace Sys2Proof.Machine

/-! ### Taking a trip cause (R109 to R111) -/

theorem orderTrip_mild (s : State) : Mild s (orderTrip s) :=
by
  apply Mild.of_blocks (s := s) (t := orderTrip s) (causes := rfl) (outputs := fun _ => ⟨id, id⟩) (drive := id)
    (stepping := fun h => ⟨h, id⟩) (test := .inl rfl) <;> simp

/-- With no grant active the law of grants speaks of the rope alone. -/
theorem GrantLaw.of_none {s t : State} (hcoord : t.coord = s.coord) (href : t.rope.sRef = s.rope.sRef) (hflag : t.rope.flag = s.rope.flag)
    (hnone : t.anyGrant = false) (hs : GrantLaw s) : GrantLaw t :=
  ⟨by rw [hcoord, href, hflag]; exact hs.1, by simp [hnone]⟩

theorem PendingLaw.map_moveOut {s t : State} (h : t.board.berths = s.board.berths.map BerthBoard.moveOut) (hs : PendingLaw s) : PendingLaw t :=
  .of_berths (fun b => by
    rw [h, PerBerth.get_map]
    exact ⟨.moveOut, by rw [(moveOut_keeps _).2.2.1]⟩) hs

/-- The trip itself, but for the grants that are withdrawn after it. -/
theorem tripLine_kept (e : CauseEntry) (s : State) :
    (CauseLaw s → CauseLaw (tripLine e s)) ∧ (SlotLaw s → SlotLaw (tripLine e s)) ∧ (PendingLaw s → PendingLaw (tripLine e s)) ∧
    (TargetLaw s → TargetLaw (tripLine e s)) ∧ (TestLaw s → TestLaw (tripLine e s)) := by
  obtain ⟨hline, hheld, hslot, -, hstep, hrec⟩ := tripLine_trip e s
  obtain ⟨-, heb, hsb, hdrv, -⟩ := tripLine_sup e s
  obtain ⟨htest, -⟩ := tripLine_sched e s
  refine ⟨fun h => ?_, fun _ => ?_, ?_, fun h => ?_, fun _ k => ?_⟩
  · obtain ⟨-, -, hsd, -⟩ := h
    refine ⟨by simp [hline], fun _ => ⟨heb, hsb, hdrv, hheld⟩, fun _ => ?_, by simp, by simp⟩
    rw [hstep]
    cases hd : s.sup.drvEn with
    | true => simp
    | false => simp [hsd hd]
  · simp [SlotLaw, hline, hslot]
  · exact .map_moveOut (by rw [tripLine_board])
  · obtain ⟨hr, -⟩ := h
    refine ⟨fun r hr' => ?_, by simp [hslot], by simp [hline, LineState.isRail]⟩
    rw [hr', Option.map_some, eq_comm, Option.map_eq_some_iff] at hrec
    obtain ⟨r', hs, e⟩ := hrec
    exact e ▸ hr r' hs
  · simp [hline, htest]

/-- A further cause in TRIPPED. -/
theorem listCause_causeLaw (e : CauseEntry) (s : State) (hne : s.sup.causes ≠ []) (h : CauseLaw s) : CauseLaw (listCause e s) := by
  obtain ⟨hlist, hdown, hstep, hlen, hnodup⟩ := h
  obtain ⟨heb, hsb, hdrv⟩ := listCause_outputs e s
  have hcauses : (listCause e s).sup.causes ≠ [] ∧ (listCause e s).sup.causes.length ≤ 4 ∧
      ((listCause e s).sup.causes.map fun f => f.cause).Nodup := by
    rcases listCause_causes e s with h | ⟨h, hl, hnew⟩
    · rw [h]; exact ⟨hne, hlen, hnodup⟩
    · rw [h]
      refine ⟨by simp, by simp; omega, ?_⟩
      rw [List.map_append, List.nodup_append]
      refine ⟨hnodup, by simp, fun c hc c' hc' => ?_⟩
      obtain ⟨f, hf, rfl⟩ := List.mem_map.mp hc
      simp only [List.map_cons, List.map_nil, List.mem_singleton] at hc'
      exact hc' ▸ hnew f hf
  refine ⟨?_, ?_, ?_, hcauses.2⟩
  · simpa [hcauses.1, hne] using hlist
  · simpa [heb, hsb, hdrv] using hdown
  · simpa [hdrv] using hstep

theorem listCause_kept (e : CauseEntry) (s : State) (hne : s.sup.causes ≠ []) : Kept s (listCause e s) where
  time := by simp
  cause := listCause_causeLaw e s hne
  slot h := by simpa [SlotLaw] using h
  grant := .of_fewer (State.coord_congr (by simp) (by simp) (by simp)) (by simp) (by simp)
    (by rw [State.anyGrant_congr (s := s) (by simp)]; exact id) (by simp)
  pending := .of_board (by simp)
  target h := by simpa [TargetLaw] using h
  test h := by simpa [TestLaw] using h

/-- A cause's rail brake orders (R111). -/
def causeOrders (c : Cause) (s : State) : State := if c.setsOrders then orderTrip s else s

/-- The trip, or the listing of a further cause, before the grants are withdrawn. -/
def causeListed (e : CauseEntry) (s : State) : State := if s.sup.causes.isEmpty then tripLine e s else listCause e s

theorem takeCause_eq (c : Cause) (p : Option Port) (s : State) :
    takeCause c p s = closeAll (withdrawAll (causeListed ⟨c, p⟩ (causeOrders c s))) := rfl

theorem causeOrders_mild (c : Cause) (s : State) : Mild s (causeOrders c s) := by
  unfold causeOrders
  split
  · exact orderTrip_mild s
  · apply Mild.of_blocks <;> simp

@[simp] theorem causeOrders_frame (c : Cause) (s : State) :
    (causeOrders c s).tables = s.tables ∧ (causeOrders c s).rope = s.rope ∧ (causeOrders c s).trip = s.trip ∧
    (causeOrders c s).sched = s.sched ∧ (causeOrders c s).doors = s.doors ∧ (causeOrders c s).board = s.board ∧
    (causeOrders c s).links = s.links ∧ (causeOrders c s).track = s.track ∧
    (causeOrders c s).sup.causes = s.sup.causes ∧ (causeOrders c s).sup.drvEn = s.sup.drvEn := by
  unfold causeOrders orderTrip
  split <;> simp

theorem takeCause_anyGrant (c : Cause) (p : Option Port) (s : State) : (takeCause c p s).anyGrant = false := by
  simp [takeCause_eq]

theorem causeListed_closed_kept (e : CauseEntry) (s : State) : Kept s (closeAll (withdrawAll (causeListed e s))) := by
  have hclose := (withdrawAll_lawful (causeListed e s)).toKept.trans (closeAll_lawful _).toKept
  unfold causeListed at *
  split at hclose
  · obtain ⟨hc, hs, hp, htg, hts⟩ := tripLine_kept e s
    rw [if_pos ‹_›]
    exact ⟨by simp, hclose.cause ∘ hc, hclose.slot ∘ hs, .of_none (State.coord_congr (by simp) (by simp) (by simp)) (by simp) (by simp) (by simp),
      hclose.pending ∘ hp, hclose.target ∘ htg, hclose.test ∘ hts⟩
  · rename_i hlisted
    rw [if_neg hlisted]
    exact (listCause_kept e s (by simpa using hlisted)).trans hclose

theorem takeCause_kept (c : Cause) (p : Option Port) (s : State) : Kept s (takeCause c p s) :=
  (causeOrders_mild c s).kept.trans (causeListed_closed_kept _ _)

/-- After a trip cause DRV_EN is down and no release is in hand but that of a move (R109). -/
theorem takeCause_down (c : Cause) (p : Option Port) (s : State) (hs : CauseLaw s) : (takeCause c p s).sup.drvEn = false ∧
    ((takeCause c p s).trip.moveRelease = true → s.trip.moveRelease = true ∧ (takeCause c p s).trip.line = s.trip.line) := by
  have hsup : (takeCause c p s).sup = (causeListed ⟨c, p⟩ (causeOrders c s)).sup := by simp [takeCause_eq]
  have htrip : (takeCause c p s).trip = (causeListed ⟨c, p⟩ (causeOrders c s)).trip := by simp [takeCause_eq]
  rw [hsup, htrip]
  unfold causeListed
  split <;> rename_i hempty
  · obtain ⟨-, -, -, hm, -⟩ := tripLine_trip ⟨c, p⟩ (causeOrders c s)
    simp [hm]
  · have hdrv := (hs.2.1 (hs.1.mp (by simpa using hempty))).2.2.1
    simp [(listCause_outputs _ _).2.2, hdrv]

theorem takeCause_drive (c : Cause) (p : Option Port) (s : State) (hs : CauseLaw s)
    (hmove : s.trip.moveRelease = true → s.trip.line = .recovery true) : DriveLaw (takeCause c p s) := by
  obtain ⟨hdrv, hm⟩ := takeCause_down c p s hs
  refine .of_down hdrv fun h => ?_
  obtain ⟨h1, h2⟩ := hm h
  rw [h2, hmove h1]

theorem takeCause_lawful (c : Cause) (p : Option Port) (s : State) : Lawful s (takeCause c p s) :=
  ⟨takeCause_kept c p s, fun hc hd => takeCause_drive c p s hc fun h => (hd.2.1 h).1⟩

theorem causeIf_lawful (b : Bool) (c : Cause) (s : State) : Lawful s (causeIf b c s) := by
  unfold causeIf
  split
  · exact takeCause_lawful c none s
  · exact .refl s

/-! ### Service stops (R100) -/

/-- What a service stop does before an undecided rail test is aborted: the lines down, its record and notice, the stop in hand. -/
def serviceStopped (c : ServiceCause) (s : State) : State :=
  let s1 := forceZero (setDrv false (setSb false s))
  let s2 := { s1 with sup := { s1.sup with lastService := some c, serviceCount := satAdd 255 s1.sup.serviceCount 1 } }
  let s3 := setPhase .holding (raiseAll .serviceStop s2)
  { s3 with trip := { s3.trip with stop := .service, holdCause := some .service, moveRelease := false } }

theorem serviceStop_eq (c : ServiceCause) (s : State) : serviceStop c s =
    if s.trip.line.supervised && s.trip.stop != .service && s.sup.causes.isEmpty then
      match (serviceStopped c s).trip.line, (serviceStopped c s).sched.test with
      | .testing _, some (k, g) => if g = .ending then serviceStopped c s else abortToEnding k (serviceStopped c s)
      | _, _ => serviceStopped c s
    else s := rfl

theorem serviceStopped_lawful (c : ServiceCause) (s : State) : Lawful s (serviceStopped c s) := by
  have hdown := ((setSb_off_mild s).lawful.trans (setDrv_off_mild _).lawful).trans (forceZero_mild _).lawful
  exact .trans (.trans (.trans (hdown.trans (withSup_mild _ _ (by simp)).lawful) (raiseAll_mild .serviceStop _).lawful)
    (setPhase_mild .holding _).lawful) (withTrip_mild _ _ (by simp)).lawful

theorem serviceStopped_drvEn (c : ServiceCause) (s : State) : (serviceStopped c s).sup.drvEn = false := by simp [serviceStopped]

theorem serviceStop_lawful (c : ServiceCause) (s : State) : Lawful s (serviceStop c s) := by
  rw [serviceStop_eq]
  split
  · split
    · rename_i k g hline htest
      split
      · exact serviceStopped_lawful c s
      · exact (serviceStopped_lawful c s).trans (abortToEnding_lawful k g _ htest (.inl (serviceStopped_drvEn c s)))
    · exact serviceStopped_lawful c s
  · exact .refl s

end Sys2Proof.Machine
end

section
/-! PROOFS. The laws under a car link's change and every change of line state. -/

namespace Sys2Proof.Machine

/-! ### Car links (R143) -/

theorem setCar_mild (x : Car) (v : CarLink) (s : State)
    (hlink : s.sup.drvEn = true → (s.track.cars.get x).link.usable = true → v.link.usable = true ∧ v.ability = (s.track.cars.get x).ability) :
    Mild s (s.setCar x v) := by
  refine .of_same (t := s.setCar x v) (.of_board rfl) id (fun y hd hy => ?_) ⟨rfl, rfl, rfl, rfl, rfl, rfl, rfl⟩
  by_cases hyx : y = x
  · subst hyx
    obtain ⟨hu, ha⟩ := hlink hd (by simpa [State.stale] using hy)
    refine ⟨by simpa [State.stale] using hu, fun hl => ?_⟩
    rwa [State.allLocked_congr (s := s) (t := s.setCar y v) (by simpa using ha) rfl]
  · refine ⟨?_, fun hl => ?_⟩
    · rwa [State.stale_congr (s := s) (t := s.setCar x v) (by simp [PerCar.get_set_ne _ _ _ _ hyx])]
    · rwa [State.allLocked_congr (s := s) (t := s.setCar x v) (by simp [PerCar.get_set_ne _ _ _ _ hyx]) rfl]

/-- A link's record changed but for its state and its ability. -/
theorem setCar_same_mild (x : Car) (v : CarLink) (s : State) (h : v.link = (s.track.cars.get x).link ∧ v.ability = (s.track.cars.get x).ability) :
    Mild s (s.setCar x v) :=
  setCar_mild x v s fun _ hu => ⟨by rwa [h.1], h.2⟩

/-- With the cause law and no release of a move outside a move, a trip cause leaves the drive law, whatever the links and leaves. -/
theorem takeCause_repairs (c : Cause) (p : Option Port) (s u : State) (hk : Kept s u) (htrip : u.trip = s.trip) :
    Lawful s (takeCause c p u) :=
  ⟨hk.trans (takeCause_kept c p u), fun hc hd => takeCause_drive c p u (hk.cause hc) (by rw [htrip]; exact fun h => (hd.2.1 h).1)⟩

/-- A link's record in another state, its silence limit stopped in DOWN (R149). -/
def CarLink.moved (c : CarLink) (l : Link) : CarLink := { c with link := l, silence := if l = .down then false else c.silence }

/-- A link's change before a loss is judged: its notice, and the grants of a car that has become stale withdrawn (R143, R169). -/
def linkMoved (x : Car) (l : Link) (s : State) : State :=
  let s1 := raiseAll .carLink (s.setCar x ((s.track.cars.get x).moved l))
  if (s.track.cars.get x).link.usable && !l.usable then withdrawCar x s1 else s1

theorem setLink_eq (x : Car) (l : Link) (s : State) : setLink x l s =
    if (s.track.cars.get x).link = l then s
    else if l = .down && (linkMoved x l s).lossTrips then takeCause .carLinkLost none (linkMoved x l s) else linkMoved x l s := rfl

theorem setLink_same (x : Car) (l : Link) (s : State) (h : (s.track.cars.get x).link = l) : setLink x l s = s := by
  rw [setLink_eq, if_pos h]

/-- A link's change to a state other than DOWN loses no car. -/
theorem setLink_ne_down (x : Car) (l : Link) (s : State) (h : (s.track.cars.get x).link ≠ l) (hl : l ≠ .down) :
    setLink x l s = linkMoved x l s := by
  simp [setLink_eq, h, hl]

@[simp] theorem linkMoved_frame (x : Car) (l : Link) (s : State) :
    (linkMoved x l s).tables = s.tables ∧ (linkMoved x l s).rope = s.rope ∧ (linkMoved x l s).trip = s.trip ∧
    (linkMoved x l s).sup = s.sup ∧ (linkMoved x l s).sched = s.sched ∧ (linkMoved x l s).now = s.now ∧
    (linkMoved x l s).pending = s.pending ∧
    (linkMoved x l s).track = { s.track with cars := s.track.cars.set x ((s.track.cars.get x).moved l) } := by
  unfold linkMoved
  dsimp only
  split <;> simp

theorem linkMoved_kept (x : Car) (l : Link) (s : State) : Kept s (linkMoved x l s) := by
  have hset : Kept s (s.setCar x ((s.track.cars.get x).moved l)) := ⟨⟨rfl, rfl⟩, id, id, .of_fewer rfl rfl rfl id id, id, id, id⟩
  have hraise := hset.trans (raiseAll_mild .carLink _).kept
  unfold linkMoved
  dsimp only
  split
  · exact hraise.trans (withdrawCar_lawful _ _).toKept
  · exact hraise

theorem linkMoved_lawful (x : Car) (l : Link) (s : State)
    (hl : s.sup.drvEn = true → (s.track.cars.get x).link.usable = true → l.usable = true) : Lawful s (linkMoved x l s) := by
  have hraise := (setCar_mild x ((s.track.cars.get x).moved l) s fun hd hu => ⟨hl hd hu, rfl⟩).lawful.trans (raiseAll_mild .carLink _).lawful
  unfold linkMoved
  dsimp only
  split
  · exact hraise.trans (withdrawCar_lawful _ _)
  · exact hraise

/-- A link's change that leaves it usable, or takes it DOWN, or finds it unusable or DRV_EN down (R143, R106). -/
theorem setLink_lawful (x : Car) (l : Link) (s : State)
    (hl : s.sup.drvEn = true → (s.track.cars.get x).link.usable = true → l.usable = true ∨ l = .down) : Lawful s (setLink x l s) := by
  rw [setLink_eq]
  split
  · exact .refl s
  · split <;> rename_i hloss
    · exact takeCause_repairs _ _ s _ (linkMoved_kept x l s) (by simp)
    · refine linkMoved_lawful x l s fun hd hu => (hl hd hu).resolve_right fun e => hloss ?_
      simp [e, State.lossTrips, hd]

/-! ### Changes of line state -/

theorem not_grant_of_line {s : State} (h : GrantLaw s) (hl : s.trip.line ≠ .parked) : s.anyGrant = false := by
  by_contra hg
  exact hl (h.2 (by simpa using hg)).1

theorem enterLine_anyGrant (l : LineState) (s : State) : (enterLine l s).anyGrant = s.anyGrant := by
  refine State.anyGrant_congr fun x => ?_
  rw [enterLine_doors]
  split <;> cases x <;> rfl

theorem enterLine_pending (l : LineState) (s : State) (h : PendingLaw s) : PendingLaw (enterLine l s) := by
  refine PendingLaw.of_berths (fun b => ?_) h
  rw [enterLine_board]
  split
  · simpa [depart_pending] using BerthLaw.depart
  · exact ⟨id, .refl _⟩

theorem enterLine_cause (l : LineState) (s : State) (hs : s.trip.line ≠ .tripped) (hl : l ≠ .tripped) (h : CauseLaw s) :
    CauseLaw (enterLine l s) := by
  obtain ⟨hlist, -, hstep⟩ := h
  refine ⟨?_, fun e => absurd (by simpa using e) hl, by simpa using hstep⟩
  simpa [hl, hs] using hlist

/-- An entry from a line state other than TRIPPED and HELD to another such state, outside the tests. -/
theorem enterLine_kept (l : LineState) (s : State) (hs : s.trip.line ≠ .tripped ∧ s.trip.line ≠ .held ∧ s.trip.line.isTest = false)
    (hl : l ≠ .tripped ∧ l ≠ .held ∧ l.isTest = false) (hg : s.trip.line = .parked → s.anyGrant = false) : Kept s (enterLine l s) where
  time := by simp
  cause := enterLine_cause l s hs.1 hl.1
  slot h := by simpa [SlotLaw, hl.2.1, hs.2.1] using h
  grant h := by
    refine .of_none (State.coord_congr (by simp) (by simp) (by simp)) (by simp) (by simp) ?_ h
    rw [enterLine_anyGrant]
    by_cases hp : s.trip.line = .parked
    · exact hg hp
    · exact not_grant_of_line h hp
  pending := enterLine_pending l s
  target h := by
    refine ⟨by simpa using h.1, by simpa using h.2.1, fun hr => ?_⟩
    have : l.isRail = true := by simpa using hr
    cases l <;> simp_all [LineState.isRail, LineState.isTest]
  test h k := by
    have h1 : l ≠ .testing k := fun e => by simp [e, LineState.isTest] at hl
    have h2 : s.trip.line ≠ .testing k := fun e => by simp [e, LineState.isTest] at hs
    simpa [h1, h2] using h k

theorem withTrip_kept (v : Trip) (s : State)
    (h : (s.trip.line = .tripped → v.held = s.trip.held ∨ v.held = 0 ∨ s.trip.stepping = true) ∧
      (v.stepping = true → s.trip.stepping = true) ∧ v.line = s.trip.line ∧ v.slot = s.trip.slot ∧
      ((v.record.map fun r => r.target) = s.trip.record.map fun r => r.target) ∧
      (v.moveRelease = true → s.trip.moveRelease = true)) : Kept s { s with trip := v } := (withTrip_mild v s h).kept

theorem enterParked_kept (b : Berth) (s : State) (hs : s.trip.line ≠ .tripped ∧ s.trip.line ≠ .held ∧ s.trip.line.isTest = false)
    (hg : s.trip.line = .parked → s.anyGrant = false) : Kept s (enterParked b s) :=
  (enterLine_kept .parked s hs ⟨nofun, nofun, rfl⟩ hg).trans (withTrip_kept _ _ (by simp))

/-- A line state in which a trip or a move ends: no test, HELD or TRIPPED, and no grant. -/
theorem LineState.inMotion_ne {l : LineState} (h : l.inMotion = true) : l ≠ .tripped ∧ l ≠ .held ∧ l.isTest = false ∧ l ≠ .parked := by
  cases l <;> simp_all [LineState.inMotion, LineState.isTest]

theorem judgeAt_lawful (a b : Berth) (s : State) : Lawful s (judgeAt a b s) := setAlignments_lawful _ _ s

theorem berth_kept (s : State) (hs : s.trip.line.inMotion = true) : Kept s (berth s) := by
  unfold berth
  split
  · rename_i r hr
    obtain ⟨h1, h2, h3, h4⟩ := LineState.inMotion_ne hs
    refine .trans (.trans (.trans (.trans (.trans (clearStop_mild s).kept (judgeAt_lawful _ _ _).toKept) (endRecord_mild _ _).kept)
      (enterParked_kept r.target.a _ ?_ ?_)) (raiseAll_mild _ _).kept) (autoRelease_lawful _ _ ?_).toKept
    · simpa using ⟨h1, h2, h3⟩
    · simpa using fun e => absurd e h4
    · simp
  · exact .refl s

theorem learnCar_mild (t : PerBerth BerthEntry) (c : Course) (x : Car) (s : State) : Mild s (learnCar t c x s) := by
  unfold learnCar
  exact withTrip_mild _ _ (by simp)

theorem learnStops_lawful (s : State) : Lawful s (learnStops s) := by
  unfold learnStops
  split
  · exact (learnCar_mild _ _ .a s).lawful.trans (learnCar_mild _ _ .b _).lawful
  · exact .refl s

@[simp] theorem learnStops_line (s : State) : (learnStops s).trip.line = s.trip.line := by
  unfold learnStops learnCar; split <;> rfl

/-- A change of the measured figures that moves neither the rope nor s_ref nor the standstill flag. -/
theorem withRope_mild (v : Rope) (s : State)
    (h : v.base = s.rope.base ∧ v.chans.ch1.count = s.rope.chans.ch1.count ∧ v.sRef = s.rope.sRef ∧ v.flag = s.rope.flag) : Mild s { s with rope := v } where
  time := ⟨rfl, rfl⟩
  causes := rfl
  outputs _ := ⟨id, id⟩
  held _ := .inl rfl
  drive := id
  stepping h := ⟨h, id⟩
  line := .inl rfl
  slot := rfl
  record := rfl
  move := id
  grant := .of_fewer (State.coord_congr rfl h.1 h.2.1) h.2.2.1 h.2.2.2 id id
  grants := id
  pending := id
  cars _ _ h := ⟨h, id⟩
  targets := rfl
  test := .inl rfl

theorem setCertainty_lawful (c : Certainty) (s : State) : Lawful s (setCertainty c s) := by
  have hset : Lawful s { s with rope := { s.rope with certainty := c } } := (withRope_mild _ s (by simp)).lawful
  unfold setCertainty
  dsimp only
  split
  · exact hset.trans (raiseAll_mild _ _).lawful
  · exact hset.trans (raiseAll_mild _ _).lawful
  · exact hset.trans (raiseAll_mild _ _).lawful
  · exact hset

theorem lowerCertainty_lawful (s : State) : Lawful s (lowerCertainty s) := by
  unfold lowerCertainty
  split
  · exact setCertainty_lawful _ s
  · exact .refl s

/-! ### The end of a trip or move (R75, R80, R82, R88) -/

/-- What the end of a move does before it is judged (R88): the brake applied, the offsets learned or certainty lowered. -/
def moveEnding (k : StopKind) (s : State) : State :=
  let s0 := setSb false s
  let s1 := { s0 with trip := { s0.trip with moveRelease := false } }
  match k with
  | .profile => learnStops s1
  | .service => lowerCertainty s1
  | _ => s1

theorem endMove_eq (k : StopKind) (s : State) : endMove k s =
    match s.trip.record with
    | some r =>
      if k != .service && (moveEnding k s).rope.certainty == .known && (moveEnding k s).targetsAligned then berth (moveEnding k s)
      else enterLine (.recovery false) (endRecord .idle (judgeAt r.target.a r.target.b (clearStop (moveEnding k s))))
    | none => s := by
  unfold endMove
  cases s.trip.record <;> cases k <;> rfl

theorem moveEnding_lawful (k : StopKind) (s : State) : Lawful s (moveEnding k s) := by
  have hsb : Lawful s { setSb false s with trip := { (setSb false s).trip with moveRelease := false } } :=
    (setSb_off_mild s).lawful.trans (withTrip_mild _ _ (by simp)).lawful
  unfold moveEnding
  dsimp only
  split
  · exact hsb.trans (learnStops_lawful _)
  · exact hsb.trans (lowerCertainty_lawful _)
  · exact hsb

@[simp] theorem moveEnding_frame (k : StopKind) (s : State) :
    (moveEnding k s).trip.line = s.trip.line ∧ (moveEnding k s).sup.drvEn = s.sup.drvEn ∧
    (moveEnding k s).trip.moveRelease = false := by
  unfold moveEnding learnStops learnCar
  dsimp only
  split
  · split <;> simp
  · simp
  · simp

theorem endMove_kept (k : StopKind) (s : State) (hs : s.trip.line.inMotion = true) : Kept s (endMove k s) := by
  rw [endMove_eq]
  split
  · rename_i r hr
    have hline : (moveEnding k s).trip.line = s.trip.line := (moveEnding_frame k s).1
    obtain ⟨h1, h2, h3, h4⟩ := LineState.inMotion_ne hs
    refine (moveEnding_lawful k s).toKept.trans ?_
    split
    · exact berth_kept _ (by rwa [hline])
    · refine .trans (.trans (.trans (clearStop_mild _).kept (judgeAt_lawful _ _ _).toKept) (endRecord_mild _ _).kept)
        (enterLine_kept _ _ ?_ ⟨nofun, nofun, rfl⟩ ?_)
      · simpa [hline] using ⟨h1, h2, h3⟩
      · simpa [hline] using fun e => absurd e h4
  · exact .refl s

theorem berth_moveRelease (s : State) : (berth s).trip.moveRelease = s.trip.moveRelease := by
  unfold berth
  split <;> simp

theorem endMove_drive (k : StopKind) (s : State) (hdrv : s.sup.drvEn = false) (hs : DriveLaw s) : DriveLaw (endMove k s) := by
  rw [endMove_eq]
  split
  · split
    · exact .of_down (by simp [hdrv]) (by simp [berth_moveRelease])
    · exact .of_down (by simp [hdrv]) (by simp)
  · exact hs

/-- A move ends with DRV_EN down: its stop is complete, or it is still in its release (R88). -/
theorem endMove_lawful (k : StopKind) (s : State) (hs : s.trip.line.inMotion = true)
    (hdrv : s.sup.drvEn = false ∨ s.trip.moveRelease = true) : Lawful s (endMove k s) :=
  ⟨endMove_kept k s hs, fun _ h => endMove_drive k s (hdrv.elim id fun hm => (h.2.1 hm).2) h⟩

theorem drives_not_moving {s : State} (h : DriveLaw s) (hl : s.trip.line ≠ .recovery true) : s.trip.moveRelease = false := by
  by_contra hm
  exact hl (h.2.1 (by simpa using hm)).1

/-- The berthing of a trip. -/
theorem berth_lawful (s : State) (p : Phase) (hs : s.trip.line = .running p) (hdrv : s.sup.drvEn = false) : Lawful s (berth s) :=
  ⟨berth_kept s (by simp [hs, LineState.inMotion]), fun _ h =>
    .of_down (by simp [hdrv]) (by simp [berth_moveRelease, drives_not_moving h (by simp [hs])])⟩

/-- An entry to HELD fills the slot with the mirror pair of the record (R82). -/
theorem enterHeld_lawful (s : State) (p : Phase) (hs : s.trip.line = .running p) (hdrv : s.sup.drvEn = false) : Lawful s (enterHeld s) := by
  unfold enterHeld
  split
  · rename_i r hr
    dsimp only
    exact
      { time := by simp
        cause := fun h => enterLine_cause .held _ (by simp [hs]) nofun (by simpa [CauseLaw, hs] using h)
        slot := fun _ => by simp [SlotLaw]
        grant := fun h => by
          refine .of_none (State.coord_congr (by simp) (by simp) (by simp)) (by simp) (by simp) ?_ h
          rw [enterLine_anyGrant]
          exact not_grant_of_line h (by simp [hs])
        pending := fun h => enterLine_pending _ _ h
        target := fun h => by
          refine ⟨by simpa using h.1, fun v hv => ?_, by simp [LineState.isRail]⟩
          simp only [enterLine_trip, Option.some.injEq] at hv
          subst hv
          exact h.1 r hr
        test := fun h k => by simpa [hs] using h k
        drive := fun _ h => .of_down (by simp [hdrv]) (by simp [drives_not_moving h (by simp [hs])]) }
  · exact .refl s

theorem completeStop_lawful (s : State) (hdrv : s.sup.drvEn = false) : Lawful s (completeStop s) := by
  unfold completeStop
  split
  · rename_i p hline hstop
    exact (learnStops_lawful s).trans (berth_lawful _ p (by simpa using hline) (by simpa))
  · rename_i p hline hstop
    split
    · exact (learnStops_lawful s).trans (berth_lawful _ p (by simpa using hline) (by simpa))
    · exact enterHeld_lawful s p hline hdrv
  · rename_i p hline hstop
    exact enterHeld_lawful s p hline hdrv
  · rename_i hline
    exact endMove_lawful _ s (by simp [hline, LineState.inMotion]) (.inl hdrv)
  · exact .refl s

theorem holdTrip_lawful (c : HoldCause) (s : State) : Lawful s (holdTrip c s) :=
  (setPhase_mild .holding s).lawful.trans (withTrip_mild _ _ (by simp)).lawful

theorem holdMove_lawful (c : HoldCause) (s : State) (hs : s.trip.line = .recovery true) : Lawful s (holdMove c s) := by
  unfold holdMove
  dsimp only
  split <;> rename_i hm
  · exact (withTrip_mild _ s (by simp)).lawful.trans (endMove_lawful .hold _ (by simp [hs, LineState.inMotion]) (.inr hm))
  · exact (withTrip_mild _ s (by simp)).lawful

/-! ### Releases (R64, R83, R85) -/

/-- DRV_EN energised where it was down starts the profile step in motion and in a rail test (R67). -/
theorem setDrv_on_trip (s : State) : (setDrv true s).trip =
    if !s.sup.drvEn && s.trip.line.supervised then { s.trip with stepping := true, distances := false, held := 0, forming := 0 } else s.trip := by
  unfold setDrv
  cases s.sup.drvEn <;> cases h : s.trip.line.supervised <;> simp [h]

theorem setDrv_on_keeps (s : State) : (setDrv true s).trip.line = s.trip.line ∧ (setDrv true s).trip.slot = s.trip.slot ∧
    (setDrv true s).trip.record = s.trip.record ∧ (setDrv true s).trip.moveRelease = s.trip.moveRelease := by
  rw [setDrv_on_trip]
  split <;> simp

/-- DRV_EN is energised with both cars SECURE, in motion once a move's release is over, or in a test (R64, R124, R128). -/
theorem setDrv_on_lawful (s : State) (hline : s.trip.line.inMotion = true ∨ s.trip.line.isTest = true) (hsecure : s.bothSecure = true)
    (hmove : s.trip.line = .recovery true → s.trip.moveRelease = false)
    (hwindow : s.trip.line = .testing .eb → s.sched.test = some (.eb, .window)) : Lawful s (setDrv true s) := by
  have hne : s.trip.line ≠ .tripped := by
    rintro e
    simp [e, LineState.inMotion, LineState.isTest] at hline
  obtain ⟨hl, hslot, hrec, hmv⟩ := setDrv_on_keeps s
  have hgrant : (setDrv true s).anyGrant = s.anyGrant := State.anyGrant_congr (by simp)
  exact
    { time := by simp
      cause := fun h => by
        obtain ⟨hlist, -, -, hlen⟩ := h
        exact ⟨by simpa [hl] using hlist, fun e => absurd (by rwa [← hl]) hne, by simp, by simpa using hlen⟩
      slot := fun h => by simpa [SlotLaw, hl, hslot] using h
      grant := .of_fewer (State.coord_congr (by simp) (by simp) (by simp)) (by simp) (by simp) (by rw [hgrant]; exact id) (by rw [hl]; exact id)
      pending := .of_board (by simp)
      target := fun h => by simpa [TargetLaw, hl, hslot, hrec] using h
      test := fun h k => by simpa [hl] using h k
      drive := fun _ h => by
        simp only [State.bothSecure, State.secure, Bool.and_eq_true, Bool.not_eq_true'] at hsecure
        obtain ⟨⟨⟨⟨ha, -⟩, la⟩, ga⟩, ⟨⟨hb, -⟩, lb⟩, gb⟩ := hsecure
        refine ⟨fun _ => ⟨by rwa [hl], ?_⟩, ?_, ?_⟩
        · have hstale (x : Car) : (setDrv true s).stale x = s.stale x := State.stale_congr (by simp)
          have hlocked (x : Car) : (setDrv true s).allLocked x = s.allLocked x := State.allLocked_congr (by simp) (by simp)
          rw [hgrant, hstale, hstale, hlocked, hlocked]
          exact ⟨ha, hb, la, lb, by simpa [State.anyGrant, PerCar.get] using ⟨ga, gb⟩⟩
        · rw [hmv, hl]
          intro hm
          have := (h.2.1 hm).1
          simp [hmove this] at hm
        · rw [hl]
          intro e hw
          simp [hwindow e] at hw }

end Sys2Proof.Machine
end

section
/-! PROOFS. The laws under the sequences: the starts and ends of trips, moves and tests, and every step due after an event. -/

namespace Sys2Proof.Machine

/-! ### Doors secure under a change elsewhere -/

theorem State.secure_congr {s t : State} {x : Car} (hlink : (t.track.cars.get x) = (s.track.cars.get x))
    (hleaves : (t.doors.get x).leaves = (s.doors.get x).leaves) (hgrants : (t.doors.get x).grants = (s.doors.get x).grants) :
    t.secure x = s.secure x := by
  simp [State.secure, State.stale, State.allLocked, State.present, CarDoors.anyGrant, hlink, hleaves, hgrants]

theorem State.bothSecure_congr {s t : State} (hlink : t.track.cars = s.track.cars)
    (hleaves : ∀ x, (t.doors.get x).leaves = (s.doors.get x).leaves) (hgrants : ∀ x, (t.doors.get x).grants = (s.doors.get x).grants) :
    t.bothSecure = s.bothSecure := by
  simp only [State.bothSecure]
  rw [State.secure_congr (s := s) (by rw [hlink]) (hleaves .a) (hgrants .a),
    State.secure_congr (s := s) (by rw [hlink]) (hleaves .b) (hgrants .b)]

theorem enterLine_grants (l : LineState) (s : State) (x : Car) : ((enterLine l s).doors.get x).grants = (s.doors.get x).grants := by
  rw [enterLine_doors]
  split <;> cases x <;> rfl

theorem enterLine_leaves (l : LineState) (s : State) (x : Car) : ((enterLine l s).doors.get x).leaves = (s.doors.get x).leaves := by
  rw [enterLine_doors]
  split <;> cases x <;> rfl

theorem enterLine_bothSecure (l : LineState) (s : State) : (enterLine l s).bothSecure = s.bothSecure :=
  State.bothSecure_congr (by simp) (enterLine_leaves l s) (enterLine_grants l s)

/-! ### Starts -/

/-- Outside motion and the tests DRV_EN is down and no move is released. -/
theorem drives_off {s : State} (h : DriveLaw s) (hm : s.trip.line.inMotion = false) (ht : s.trip.line.isTest = false) :
    s.sup.drvEn = false ∧ s.trip.moveRelease = false := by
  refine ⟨?_, drives_not_moving h fun e => by simp [e, LineState.inMotion] at hm⟩
  by_contra hd
  have := (h.1 (by simpa using hd)).1
  simp [hm, ht] at this

/-- An entry as in `enterLine_kept` from a line state in which DRV_EN is down. -/
theorem enterLine_lawful (l : LineState) (s : State) (hs : s.trip.line ≠ .tripped ∧ s.trip.line ≠ .held ∧ s.trip.line.isTest = false)
    (hl : l ≠ .tripped ∧ l ≠ .held ∧ l.isTest = false) (hg : s.trip.line = .parked → s.anyGrant = false)
    (hm : s.trip.line.inMotion = false) : Lawful s (enterLine l s) := by
  refine ⟨enterLine_kept l s hs hl hg, fun _ h => ?_⟩
  obtain ⟨hd, hr⟩ := drives_off h hm hs.2.2
  exact .of_down (by simpa using hd) (by simp [hr])

theorem State.departureHolds_secure {s : State} (h : s.departureHolds = true) : s.bothSecure = true := by
  simp only [State.departureHolds, Bool.and_eq_true] at h
  tauto

theorem State.resumeHolds_secure {s : State} (h : s.resumeHolds = true) : s.bothSecure = true := by
  simp only [State.resumeHolds, Bool.and_eq_true] at h
  tauto

theorem State.moveHolds_secure {s : State} (h : s.moveHolds = true) : s.bothSecure = true := by
  simp only [State.moveHolds, Bool.and_eq_true] at h
  tauto

theorem startTrip_lawful (s : State) (hline : s.trip.line = .dispatch) (h : s.departureHolds = true) : Lawful s (startTrip s) := by
  unfold startTrip
  refine .trans (.trans (.trans (enterLine_lawful (.running .accel) s ?_ ?_ ?_ ?_) (withTrip_mild _ _ (by simp)).lawful) (clearStop_mild _).lawful)
    (setDrv_on_lawful _ ?_ ?_ ?_ ?_)
  · simp [hline, LineState.isTest]
  · simp [LineState.isTest]
  · simp [hline]
  · simp [hline, LineState.inMotion]
  · simp [LineState.inMotion]
  · exact (enterLine_bothSecure _ s).trans (State.departureHolds_secure h)
  · simp
  · simp

/-- A held trip put back in motion, before DRV_EN is energised: the slot's targets go on in the record (R83). -/
def trippedOn (h : HoldSlot) (s : State) : State :=
  let s1 := enterLine (.running .accel) s
  clearStop { s1 with trip := { s1.trip with
    slot := none, resumeRelease := false, held := 0, forming := 0
    record := s1.trip.record.map fun r => { r with dir := h.dir, target := h.target, speed := h.runCap } } }

theorem trippedOn_lawful (h : HoldSlot) (s : State) (hline : s.trip.line = .held) (hslot : s.trip.slot = some h) :
    Lawful s (trippedOn h s) := by
  unfold trippedOn
  refine .trans (t := { enterLine (.running .accel) s with trip := _ }) ?_ (clearStop_mild _).lawful
  exact
    { time := by simp
      cause := fun hc => by simpa [CauseLaw] using enterLine_cause (.running .accel) s (by simp [hline]) nofun hc
      slot := fun _ => by simp [SlotLaw]
      grant := fun hg => by
        refine .of_none (State.coord_congr (by simp) (by simp) (by simp)) (by simp) (by simp) ?_ hg
        exact (enterLine_anyGrant _ s).trans (not_grant_of_line hg (by simp [hline]))
      pending := enterLine_pending _ s
      target := fun ht => by
        refine ⟨fun r hr => ?_, by simp, by simp [LineState.isRail]⟩
        simp only [enterLine_trip, Option.map_eq_some_iff] at hr
        obtain ⟨q, -, rfl⟩ := hr
        exact ht.2.1 h hslot
      test := fun ht k => by simpa [hline] using ht k
      drive := fun _ hd => by
        obtain ⟨h1, h2⟩ := drives_off hd (by simp [hline, LineState.inMotion]) (by simp [hline, LineState.isTest])
        exact .of_down (by simpa using h1) (by simp [h2]) }

theorem restartTrip_lawful (s : State) (hline : s.trip.line = .held) (h : s.resumeHolds = true) : Lawful s (restartTrip s) := by
  unfold restartTrip
  split
  · rename_i v hv
    refine (trippedOn_lawful v s hline hv).trans (setDrv_on_lawful _ ?_ ?_ ?_ ?_)
    · simp [trippedOn, LineState.inMotion]
    · exact (enterLine_bothSecure _ s).trans (State.resumeHolds_secure h)
    · simp [trippedOn]
    · simp [trippedOn]
  · exact .refl s

theorem startMove_lawful (s : State) (hline : s.trip.line = .recovery true) (h : s.moveHolds = true) : Lawful s (startMove s) := by
  unfold startMove
  refine .trans (.trans (withTrip_mild _ s (by simp)).lawful (clearStop_mild _).lawful) (setDrv_on_lawful _ ?_ (State.moveHolds_secure h) ?_ ?_)
  · simp [hline, LineState.inMotion]
  · simp
  · simp [hline]

/-! ### Tests (R124, R126, R128, R131) -/

/-- The window of an emergency brake test opens with DRV_EN energised at once (R124). -/
theorem ebReleased_lawful (s : State) (hline : s.trip.line = .testing .eb) (htest : s.sched.test = some (.eb, .applying)) :
    Lawful s (ebReleased s) := by
  unfold ebReleased
  split <;> rename_i hsecure
  · dsimp only
    refine .trans ?_ (withSched_mild _ _ (by simp)).lawful
    have hcomm : setStage .eb .window (setDrv true s) = setDrv true (setStage .eb .window s) := by
      have hsup : LineState.supervised (.testing .eb) = false := rfl
      unfold setStage setDrv
      cases s.sup.drvEn <;> simp [hline, hsup]
    rw [hcomm]
    refine (setStage_mild .eb .applying .window s htest (.inr (by simp))).lawful.trans (setDrv_on_lawful _ ?_ hsecure ?_ ?_)
    · simp [hline, LineState.isTest]
    · simp [hline]
    · simp [setStage]
  · exact (setSb_off_mild s).lawful.trans (abortToEnding_lawful .eb .applying _ (by simpa) (.inr (by simp)))

theorem railReleased_lawful (k : TestKind) (s : State) (hline : s.trip.line = .testing k) (hk : k ≠ .eb)
    (htest : s.sched.test = some (k, .releasing)) : Lawful s (railReleased k s) := by
  unfold railReleased
  split <;> rename_i hsecure
  · dsimp only
    refine .trans (.trans (setStage_mild k .releasing .creep s htest (.inr (by simp))).lawful (setDrv_on_lawful _ ?_ hsecure ?_ ?_))
      (withSched_mild _ _ (by simp)).lawful
    · simp [hline, LineState.isTest]
    · simp [hline]
    · exact fun e => absurd (by simpa [hline] using e) hk
  · exact (setSb_off_mild s).lawful.trans (abortToEnding_lawful k .releasing _ (by simpa) (.inr (by simp)))

/-- An entry from a test to a line state outside the tests, with no test in hand after it (R126, R131). -/
theorem leaveTest_lawful (l : LineState) (s : State) (hs : s.trip.line.isTest = true) (hl : l ≠ .tripped ∧ l ≠ .held ∧ l.isTest = false)
    (hdrv : DriveLaw s → s.sup.drvEn = false) : Lawful s { enterLine l s with sched := { (enterLine l s).sched with test := none } } := by
  have hne : s.trip.line ≠ .tripped ∧ s.trip.line ≠ .held ∧ s.trip.line ≠ .parked ∧ s.trip.line ≠ .recovery true := by
    cases h : s.trip.line <;> simp_all [LineState.isTest]
  obtain ⟨ht, hh, hp, hr⟩ := hne
  exact
    { time := by simp
      cause := fun h => by simpa [CauseLaw] using enterLine_cause l s ht hl.1 h
      slot := fun h => by simpa [SlotLaw, hl.2.1, hh] using h
      grant := fun h => by
        refine .of_none (State.coord_congr (by simp) (by simp) (by simp)) (by simp) (by simp) ?_ h
        exact (enterLine_anyGrant l s).trans (not_grant_of_line h hp)
      pending := enterLine_pending l s
      target := fun h => by
        refine ⟨by simpa using h.1, by simpa using h.2.1, fun hr => ?_⟩
        have : l.isRail = true := by simpa using hr
        cases l <;> simp_all [LineState.isRail, LineState.isTest]
      test := fun _ k => by
        have : l ≠ .testing k := fun e => by simp [e, LineState.isTest] at hl
        simp [this]
      drive := fun _ h => .of_down (by simpa using hdrv h) (by simp [drives_not_moving h hr]) }

theorem endEbTest_lawful (s : State) (hline : s.trip.line = .testing .eb) (htest : s.sched.test = some (.eb, .ending)) :
    Lawful s (endEbTest s) := by
  unfold endEbTest
  split
  · rename_i b hb
    refine .trans (.trans ((setEb_on_mild s (by simp [hline])).lawful.trans (judgeAt_lawful b b.mirror _)) ?_) (armRollaway_mild _).lawful
    refine .trans (leaveTest_lawful .parked _ ?_ ⟨nofun, nofun, rfl⟩ fun h => ?_) (withTrip_mild _ _ (by simp)).lawful
    · simp [hline, LineState.isTest]
    · exact h.2.2 (by simpa using hline) (by simp [htest])
  · exact .refl s

theorem endRailTest_lawful (k : TestKind) (s : State) (hline : s.trip.line.isTest = true) (hdrv : s.sup.drvEn = false) :
    Lawful s (endRailTest k s) := by
  have hleave (u : State) (hl : u.trip = s.trip) (hd : u.sup.drvEn = s.sup.drvEn) :
      Lawful u { enterLine (.recovery false) (clearStop u) with sched := { (enterLine (.recovery false) (clearStop u)).sched with test := none } } :=
    (clearStop_mild u).lawful.trans
      (leaveTest_lawful _ _ (by simpa [hl] using hline) ⟨nofun, nofun, rfl⟩ fun _ => by simpa [hd] using hdrv)
  unfold endRailTest
  dsimp only
  split
  · exact (withSup_mild _ s (by simp)).lawful.trans (hleave _ rfl rfl)
  · exact hleave s rfl rfl

/-! ### The steps due after an event -/

theorem settleInterlock_lawful (v : Bool) (s : State) : Lawful s (settleInterlock v s) := by
  unfold settleInterlock
  split <;> rename_i hline
  · split
    · split
      · exact (withTrip_mild _ s (by simp)).lawful.trans (setSb_on_mild _ (by simp [hline])).lawful
      · exact .refl s
    · split
      · exact .refl s
      · exact (withTrip_mild _ s (by simp)).lawful.trans (setSb_off_mild _).lawful
    · exact .refl s
  · split
    · exact (withTrip_mild _ s (by simp)).lawful.trans (setSb_off_mild _).lawful
    · exact .refl s
  · split <;> rename_i hr
    · exact endMove_lawful .none s (by simp [hline, LineState.inMotion]) (.inr (by simp_all))
    · exact .refl s
  · exact .refl s

theorem settleHold_lawful (s : State) : Lawful s (settleHold s) := by
  unfold settleHold
  split
  · exact (setSb_off_mild s).lawful
  · exact .refl s

theorem settleEbApplied_lawful (s : State) : Lawful s (settleEbApplied s) := by
  unfold settleEbApplied
  split
  · rename_i hline _
    split
    · exact (setSb_on_mild s (by simp [hline])).lawful
    · exact .refl s
  · exact .refl s

theorem settleReleased_lawful (s : State) : Lawful s (settleReleased s) := by
  unfold settleReleased
  split
  · split <;> rename_i hline
    · split <;> rename_i h
      · exact startTrip_lawful s hline (by simp_all)
      · exact .refl s
    · split <;> rename_i h
      · exact restartTrip_lawful s hline (by simp_all)
      · exact .refl s
    · split <;> rename_i h
      · exact startMove_lawful s hline (by simp_all)
      · exact .refl s
    · split <;> rename_i h
      · exact ebReleased_lawful s hline h
      · exact .refl s
    · rename_i k hk
      split <;> rename_i h
      · exact railReleased_lawful k s hline hk h
      · exact .refl s
    · exact .refl s
  · exact .refl s

theorem settleApplied_lawful (s : State) : Lawful s (settleApplied s) := by
  unfold settleApplied
  split
  · exact (setDrv_off_mild s).lawful
  · exact .refl s

theorem settleComplete_lawful (s : State) : Lawful s (settleComplete s) := by
  unfold settleComplete
  split
  · exact completeStop_lawful s (by simp_all)
  · exact .refl s

theorem settleTest_lawful (s : State) : Lawful s (settleTest s) := by
  unfold settleTest
  split
  · rename_i hline htest
    split
    · exact endEbTest_lawful s hline htest
    · exact .refl s
  · rename_i k _ hline _ _
    split
    · exact endRailTest_lawful k s (by simp_all [LineState.isTest]) (by simp_all)
    · exact .refl s
  · exact .refl s

/-- The steps due after an event keep the laws. -/
theorem settleWith_lawful (v : Bool) (s : State) : Lawful s (settleWith v s) :=
  (settleInterlock_lawful v s).trans <| (settleHold_lawful _).trans <| (settleEbApplied_lawful _).trans <|
    (settleReleased_lawful _).trans <| (settleApplied_lawful _).trans <| (settleComplete_lawful _).trans (settleTest_lawful _)

/-- An event that keeps the laws keeps them with the steps that it makes due. -/
theorem Lawful.settled {s t : State} (h : Lawful s t) (b : State) : Lawful s (settle b t) := h.trans (settleWith_lawful _ t)

theorem profileStop_lawful (s : State) : Lawful s (profileStop s) := by
  unfold profileStop
  split
  · split
    · split
      · exact (setSb_off_mild s).lawful.trans (withTrip_mild _ _ (by simp)).lawful
      · exact .refl s
    · exact .refl s
  · exact .refl s

theorem profileStopAfter_lawful (n : Nat) (s : State) : Lawful s (profileStopAfter n s) := by
  unfold profileStopAfter
  split
  · exact .refl s
  · exact profileStop_lawful s

end Sys2Proof.Machine
end

section
/-! PROOFS. The laws under the events of the rope, the marker inputs and the supervisor. -/

namespace Sys2Proof.Machine

/-! ### Count steps (R19, R29) -/

/-- A limit that runs for a command that is a change and the steps it makes due. -/
theorem dwellAfter_lawful (n : Nat) (s : State) : Lawful s (dwellAfter n s) := by
  unfold dwellAfter
  split
  · split
    · exact .refl s
    · exact (withRope_mild _ s (by simp)).lawful
  · split
    · exact (withRope_mild _ s (by simp)).lawful
    · exact .refl s

theorem setChan_lawful (ch : Chan) (c : ChanState) (s : State) (h : c.count = (s.rope.chans.get ch).count) : Lawful s (s.setChan ch c) :=
  (withRope_mild _ s (by cases ch <;> simp_all [PerChan.set, PerChan.get])).lawful

@[simp] theorem dwellAfter_rope (n : Nat) (s : State) :
    (dwellAfter n s).rope.chans = s.rope.chans ∧ (dwellAfter n s).rope.base = s.rope.base ∧ (dwellAfter n s).rope.flag = s.rope.flag ∧
    (dwellAfter n s).rope.sRef = s.rope.sRef := by
  unfold dwellAfter
  split
  · split <;> simp
  · split <;> simp

/-- What a count step leaves but the measured figures and the time. -/
@[simp] theorem measureStep_frame (ch : Chan) (l : PhaseLine) (n : Nat) (s : State) :
    (measureStep ch l n s).tables = s.tables ∧ (measureStep ch l n s).trip = s.trip ∧ (measureStep ch l n s).sup = s.sup ∧
    (measureStep ch l n s).sched = s.sched ∧ (measureStep ch l n s).track = s.track ∧ (measureStep ch l n s).doors = s.doors ∧
    (measureStep ch l n s).board = s.board ∧ (measureStep ch l n s).links = s.links ∧ (measureStep ch l n s).pending = s.pending ∧
    (measureStep ch l n s).rope.flag = s.rope.flag ∧ (measureStep ch l n s).rope.sRef = s.rope.sRef := by
  unfold measureStep
  dsimp only
  split <;> simp [State.setChan]

theorem measureStep_ch2_coord (l : PhaseLine) (n : Nat) (s : State) : (measureStep .ch2 l n s).coord = s.coord := by
  apply State.coord_congr
  · simp
  · simp [measureStep, State.setChan]
  · simp [measureStep, State.setChan, PerChan.set]

/-- After a change of the rope and the time alone, an operation that restores the law of the grants. -/
theorem keeps_of_rope {s t u : State} (time : t.now = s.now ∧ t.pending = s.pending) (trip : t.trip = s.trip)
    (sup : t.sup = s.sup) (sched : t.sched = s.sched) (track : t.track = s.track)
    (doors : t.doors = s.doors) (board : t.board = s.board) (h : Lawful t u) (grant : GrantLaw s → GrantLaw u) : Lawful s u where
  time := ⟨h.time.1.trans time.1, h.time.2.trans time.2⟩
  cause := h.cause ∘ by simp [CauseLaw, trip, sup]
  slot := h.slot ∘ by simp [SlotLaw, trip]
  grant := grant
  pending := h.pending ∘ .of_board (by rw [board])
  target := h.target ∘ by simp [TargetLaw, trip, sched]
  test := h.test ∘ by simp [TestLaw, trip, sched]
  drive hc hd := by
    have hs (x : Car) : t.stale x = s.stale x := State.stale_congr (by rw [track])
    have hl (x : Car) : t.allLocked x = s.allLocked x := State.allLocked_congr (by rw [track]) (by rw [doors])
    have hg : t.anyGrant = s.anyGrant := State.anyGrant_congr fun x => by rw [doors]
    exact h.drive (by simpa [CauseLaw, trip, sup] using hc) (by simpa [DriveLaw, trip, sup, sched, hs, hl, hg] using hd)

@[simp] theorem measureStep_now (ch : Chan) (l : PhaseLine) (n : Nat) (s : State) : (measureStep ch l n s).now = n := by
  cases ch <;> simp [measureStep]

/-- A step of channel 1 leaves the flag set only within 5 mm of s_ref, and otherwise no grant (R29, R169). -/
theorem clearFlag_measureStep_lawful (l : PhaseLine) (n : Nat) (s : State) :
    Lawful { s with now := n } (clearFlag (measureStep .ch1 l n s)) := by
  unfold clearFlag
  split <;> rename_i h
  · refine keeps_of_rope (t := { measureStep .ch1 l n s with rope := _ }) ?_ ?_ ?_ ?_ ?_ ?_ ?_ (withdrawAll_lawful _) fun _ => ?_
    iterate 7 exact (by simp)
    exact ⟨by simp, by simp⟩
  · refine keeps_of_rope (t := measureStep .ch1 l n s) (by simp) (by simp) (by simp) (by simp) (by simp) (by simp) (by simp) (.refl _) fun hg => ⟨?_, ?_⟩
    · intro hf
      simpa [show s.rope.flag = true by simpa using hf] using h
    · rw [State.anyGrant_congr (s := { s with now := n }) (by simp)]
      simpa using hg.2

theorem measureStep_ch2_lawful (l : PhaseLine) (n : Nat) (s : State) : Lawful { s with now := n } (measureStep .ch2 l n s) :=
  keeps_of_rope (by simp) (by simp) (by simp) (by simp) (by simp) (by simp) (by simp) (.refl _)
    (.of_fewer (measureStep_ch2_coord l n s) (by simp) (by simp) (by rw [State.anyGrant_congr (s := { s with now := n }) (by simp)]; exact id) (by simp))

/-! ### Judgements at a count step (R102 to R104, R125, R129, R130) -/

theorem watchRollaway_lawful (s : State) : Lawful s (watchRollaway s) := by
  unfold watchRollaway
  split
  · exact causeIf_lawful _ _ s
  · exact .refl s

theorem watchDirection_lawful (s : State) : Lawful s (watchDirection s) := by
  unfold watchDirection
  split
  · split
    · exact (withSup_mild _ s (by simp)).lawful
    · exact causeIf_lawful _ _ s
  · exact .refl s

theorem noteMovement_lawful (n : Nat) (s : State) : Lawful s (noteMovement n s) := (withSched_mild _ s (by simp)).lawful

@[simp] theorem noteMovement_test (n : Nat) (s : State) : (noteMovement n s).sched.test = s.sched.test := rfl

theorem judgeEbStep_lawful (g : TestStage) (s : State) (h : s.sched.test = some (.eb, g)) : Lawful s (judgeEbStep s) := by
  unfold judgeEbStep
  dsimp only
  split
  · exact (noteMovement_lawful _ s).trans
      (decideTest_drop_lawful (by simpa) ((setSb_off_mild _).lawful.trans (setDrv_off_mild _).lawful) (by simp)
        (by simp [setDrv_off_trip_eq, -setDrv_off_trip]) (by simp [setDrv_off_trip_eq, -setDrv_off_trip]))
  · exact noteMovement_lawful _ s

theorem makeRailOrder_lawful (k : TestKind) (g : TestStage) (s : State) (h : s.sched.test = some (k, g)) : Lawful s (makeRailOrder k s) := by
  unfold makeRailOrder
  dsimp only
  refine .trans (.trans (.trans (.trans (withSup_mild _ s (by simp)).lawful (setDrv_off_mild _).lawful) (forceZero_mild _).lawful)
    (setStage_mild k g .braking _ ?_ ?_).lawful) (withSched_mild _ _ (by simp)).lawful
  · simpa
  · simp

theorem judgeBrakingStep_lawful (k : TestKind) (s : State) (h : s.sched.test = some (k, .braking)) : Lawful s (judgeBrakingStep k s) := by
  unfold judgeBrakingStep
  dsimp only
  split
  · exact (noteMovement_lawful _ s).trans ((decideTest_lawful k .braking _ _ _ (by simpa) (.inr (by simp))).trans (setSb_off_mild _).lawful)
  · exact noteMovement_lawful _ s

theorem judgeTestStep_lawful (s : State) : Lawful s (judgeTestStep s) := by
  unfold judgeTestStep
  split <;> rename_i h
  · exact judgeEbStep_lawful _ s h
  · exact judgeEbStep_lawful _ s h
  · split
    · exact makeRailOrder_lawful _ _ s h
    · exact .refl s
  · exact judgeBrakingStep_lawful _ s h
  · exact .refl s

theorem watchDoorZone_lawful (v : Bool) (s : State) : Lawful s (watchDoorZone v s) := causeIf_lawful _ _ s

theorem judgeStep1_lawful (v : Bool) (s : State) : Lawful s (judgeStep1 v s) :=
  (watchRollaway_lawful s).trans <| (watchDirection_lawful _).trans <| (watchDoorZone_lawful _ _).trans (judgeTestStep_lawful _)

/-! ### The standstill limits and the marker edges -/

theorem clearMarkedOrders_lawful (s : State) : Lawful s (clearMarkedOrders s) := (withSup_mild _ s (by simp)).lawful

theorem judgeStandstill_lawful (s : State) : Lawful s (judgeStandstill s) := by
  unfold judgeStandstill
  split
  · exact (decideTest_lawful _ .braking _ _ _ ‹_› (.inr (by simp))).trans (setSb_off_mild _).lawful
  · exact .refl s

/-- The flag set with s_ref at s (R28). -/
theorem standstill_lawful (s : State) : Lawful s { s with rope := { s.rope with dwell := false, flag := true, sRef := s.coord } } :=
  keeps_of_rope (t := { s with rope := { s.rope with dwell := false, flag := true, sRef := s.coord } }) ⟨rfl, rfl⟩ rfl rfl rfl rfl rfl rfl (.refl _) fun h =>
    ⟨fun _ => by simp [State.coord, distance], fun hg => ⟨(h.2 hg).1, rfl⟩⟩

theorem setLevel_lawful (m : MarkerInput) (v : Bool) (s : State) : Lawful s (setLevel m v s) := by
  cases m <;> exact (withRope_mild _ s (by simp)).lawful

/-- Establishment moves the rope and s_ref together (R35). -/
theorem establish_lawful (x : Car) (p : Int) (h : Header) (s : State) (hh : s.tables.header = some h) : Lawful s (establish x p h s) := by
  unfold establish
  dsimp only
  refine .trans (.trans ?_ (setCertainty_lawful _ _)) (causeIf_lawful _ _ _)
  generalize (match x with | .a => p | .b => (h.lineLen : Int) - p) - s.coord = k
  refine .trans (keeps_of_rope (t := { s with rope := { s.rope with
    base := s.rope.base + k, base2 := s.rope.base2 + k, sRef := s.rope.sRef + k, offs := ⟨0, 0⟩ } })
    ⟨rfl, rfl⟩ rfl rfl rfl rfl rfl rfl (.refl _) fun hg => ⟨fun hf => ?_, hg.2⟩) (withSup_mild _ _ (by simp)).lawful
  have := hg.1 hf
  simp only [State.coord, coordOf, hh, distance] at this ⊢
  omega

theorem correct_lawful (x : Car) (e : Int) (s : State) : Lawful s (correct x e s) := by
  unfold correct
  dsimp only
  split
  · exact (setCertainty_lawful _ s).trans (raiseAll_mild _ _).lawful
  · split
    · exact (withRope_mild _ s (by simp)).lawful.trans (setCertainty_lawful _ _)
    · split
      · exact (withRope_mild _ s (by simp)).lawful.trans (setCertainty_lawful _ _)
      · exact (withRope_mild _ s (by simp)).lawful

theorem attributeEdge_lawful (m : MarkerInput) (s : State) : Lawful s (attributeEdge m s) := by
  unfold attributeEdge
  split
  · exact correct_lawful _ _ s
  · exact correct_lawful _ _ s
  · exact (withRope_mild _ s (by simp)).lawful

theorem activeEdge_lawful (m : MarkerInput) (s : State) : Lawful s (activeEdge m s) := by
  unfold activeEdge
  split
  · split
    · split
      · exact establish_lawful _ _ _ s ‹_›
      · exact .refl s
    · exact .refl s
  · split
    · exact .refl s
    · exact attributeEdge_lawful m s

/-! ### The supervisor's sample (R94 to R105) -/

theorem judgeEnvelope_lawful (e : Nat) (s : State) : Lawful s (judgeEnvelope e s) := by
  unfold judgeEnvelope
  dsimp only
  split
  · exact (raiseAll_mild _ s).lawful.trans (withSup_mild _ _ (by simp)).lawful
  · exact (withSup_mild _ s (by simp)).lawful

theorem idleEnvelope_lawful (s : State) : Lawful s (idleEnvelope s) := (withSup_mild _ s (by simp)).lawful
theorem rampCaps_lawful (h : Header) (s : State) : Lawful s (rampCaps h s) := (withSup_mild _ s (by simp)).lawful
theorem judgeSpeeds_lawful (s : State) : Lawful s (judgeSpeeds s) := (withRope_mild _ s (by simp)).lawful

theorem sampleWith_lawful (h : Header) (s : State) : Lawful s (sampleWith h s) := by
  unfold sampleWith
  dsimp only
  refine .thenIf (.trans (.trans (.trans (.trans (.trans (.trans (.trans (rampCaps_lawful h s) ?_) (judgeSpeeds_lawful _)) (causeIf_lawful _ _ _))
    (causeIf_lawful _ _ _)) (causeIf_lawful _ _ _)) (watchDoorZone_lawful _ _)) (causeIf_lawful _ _ _)) fun _ => serviceStop_lawful _ _
  split
  · exact judgeEnvelope_lawful _ _
  · exact idleEnvelope_lawful _

theorem sampleBlind_lawful (s : State) : Lawful s (sampleBlind s) :=
  (idleEnvelope_lawful s).trans <| (judgeSpeeds_lawful _).trans (watchDoorZone_lawful _ _)

/-! ### The profile step (R67) -/

/-- A profile step that runs sends its forming setpoint; in TRIPPED none runs. -/
theorem profileStepWith_lawful (h : Header) (s : State) (hs : s.trip.stepping = true) : Lawful s (profileStepWith h s) := by
  have hform (u : State) : Lawful u (formStep h u) := by
    unfold formStep
    dsimp only
    split
    · exact (setPhase_mild _ u).lawful.trans (withTrip_mild _ _ (by simp)).lawful
    · exact (withTrip_mild _ u (by simp)).lawful
  unfold profileStepWith
  dsimp only
  exact .thenIf (.trans (.trans (withTrip_mild _ s (by simp [hs])).lawful (emitFrame_mild _).lawful) (hform _)) fun _ => serviceStop_lawful _ _

end Sys2Proof.Machine
end

section
/-! PROOFS. The laws under the track line's events. -/

namespace Sys2Proof.Machine

/-! ### Turns, calls and drives (R134 to R142) -/

theorem unquiet_lawful (s : State) : Lawful s (unquiet s) := (setTrack_mild _ s (by simp)).lawful
theorem endTurn_lawful (s : State) : Lawful s (endTurn s) := (setTrack_mild _ s (by simp)).lawful

theorem tryTurn_lawful (s : State) : Lawful s (tryTurn s) := by
  unfold tryTurn
  split
  · split
    · exact (setTrack_mild _ s (by simp)).lawful
    · exact .refl s
  · exact .refl s

theorem countMissed_same (c : CarLink) : c.countMissed.link = c.link ∧ c.countMissed.ability = c.ability := by
  unfold CarLink.countMissed
  split <;> exact ⟨rfl, rfl⟩

theorem missAnswer_lawful (s : State) : Lawful s (missAnswer s) := by
  unfold missAnswer
  split
  · exact .refl s
  · rename_i t ht
    dsimp only
    refine .thenIf (.trans ?_ (endTurn_lawful _)) fun _ => setLink_lawful _ _ _ fun _ _ => .inl rfl
    split
    · exact .refl s
    · exact (setCar_same_mild _ _ s (countMissed_same _)).lawful

theorem missEvent_lawful (s : State) : Lawful s (missEvent s) := ((missAnswer_lawful s).trans (tryTurn_lawful _)).settled s

theorem takeCall_lawful (x : Car) (s : State) : Lawful s (takeCall x s) := by
  unfold takeCall
  dsimp only
  split
  · exact (setCar_same_mild _ _ s (by simp)).lawful
  · exact (setCar_same_mild _ _ s (by simp)).lawful.trans (setTrack_mild _ _ (by simp)).lawful

theorem strayDrive_lawful (s : State) : Lawful s (strayDrive s) := by
  rw [strayDrive_eq]
  split
  · exact ((unquiet_lawful s).trans (takeCall_lawful .a _)).trans (takeCall_lawful .b _)
  · exact unquiet_lawful s

theorem takeAccept_lawful (t : Turn) (s : State) : Lawful s (takeAccept t s) := by
  unfold takeAccept
  split
  · exact (setTrack_mild _ s (by simp)).lawful
  · dsimp only
    split <;> rename_i hl
    · exact ((setTrack_mild _ s (by simp)).lawful.trans (setCar_same_mild _ _ _ (by simp)).lawful).trans
        (setLink_lawful _ _ _ fun _ h => by
          have : (s.track.cars.get t.car).link = .down := hl
          simp [Link.usable, this] at h)
    · exact (setTrack_mild _ s (by simp)).lawful

theorem oneCharacter_lawful (c : LineChar) (s : State) : Lawful s (oneCharacter c s) := by
  unfold oneCharacter
  split
  · split
    · exact (unquiet_lawful s).trans (takeCall_lawful _ _)
    · exact strayDrive_lawful s
  · split
    · exact (takeAccept_lawful _ s).settled s
    · split
      · exact unquiet_lawful s
      · exact (unquiet_lawful s).trans (missEvent_lawful _)
  · exact unquiet_lawful s

theorem jam_lawful (s : State) : Lawful s (jam s) := by
  unfold jam
  exact .trans (.trans ((endTurn_lawful s).trans (setTrack_mild _ _ (by simp)).lawful) (causeIf_lawful _ _ _)) (withdrawAll_lawful _)

theorem loseCar_lawful (x : Car) (s : State) : Lawful s (loseCar x s) := by
  have hstop := (setCar_same_mild x { s.track.cars.get x with silence := false } s (by simp)).lawful
  unfold loseCar
  dsimp only
  split
  · exact hstop
  · exact hstop.trans (setLink_lawful _ _ _ fun _ _ => .inr rfl)

/-! ### Ability records (R145, R146) -/

/-- The leaf records of a car whose records are stale or with DRV_EN down. -/
theorem setDoors_leaves_mild (x : Car) (v : CarDoors) (s : State) (hgrants : v.grants = (s.doors.get x).grants)
    (hstale : s.sup.drvEn = true → s.stale x = true) : Mild s (s.setDoors x v) := by
  refine .of_same (t := s.setDoors x v) (.of_board rfl) ?_ (fun y hd hy => ⟨hy, fun hl => ?_⟩) ⟨rfl, rfl, rfl, rfl, rfl, rfl, rfl⟩
  · rw [State.anyGrant_congr (s := s) fun y => ?_]
    · exact id
    · by_cases h : y = x
      · subst h; simpa using hgrants
      · simp [PerCar.get_set_ne _ _ _ _ h]
  · have hyx : y ≠ x := fun e => by simp [e, hstale hd] at hy
    rwa [State.allLocked_congr (s := s) (t := s.setDoors x v) rfl (by simp [PerCar.get_set_ne _ _ _ _ hyx])]

theorem layoutLeaves_mild (x : Car) (r : Ability) (s : State) (h : s.sup.drvEn = true → s.stale x = true) : Mild s (layoutLeaves x r s) :=
  setDoors_leaves_mild x _ s rfl h

theorem compareAbility_lawful (x : Car) (s : State) : Lawful s (compareAbility x s) := by
  unfold compareAbility
  split <;> rename_i h
  · have hun : (s.track.cars.get x).link.usable ≠ true := by simp [h.1, Link.usable]
    split
    · split
      · have hconfirm : setLink x .confirm s = linkMoved x .confirm s := setLink_ne_down x _ s (by simp [h.1]) nofun
        dsimp only
        rw [hconfirm]
        refine .trans (.trans (linkMoved_lawful x .confirm s fun _ hu => absurd hu hun) (setCar_mild x _ _ fun _ hu => ?_).lawful)
          (layoutLeaves_mild x _ _ fun _ => ?_).lawful
        · simp [CarLink.moved, Link.usable] at hu
        · simp [State.stale, CarLink.moved, Link.usable]
      · exact setLink_lawful _ _ _ fun _ hu => absurd hu hun
    · exact .refl s
  · exact .refl s

theorem takeAbility_lawful (x : Car) (r : Ability) (s : State) : Lawful s (takeAbility x r s) := by
  unfold takeAbility
  dsimp only
  refine .thenIf (setCar_same_mild x _ s (by simp)).lawful fun hl => ?_
  exact (setLink_lawful _ _ _ fun _ hu => by simp [hl, Link.usable] at hu).trans (compareAbility_lawful x _)

/-! ### Status blocks (R147, R154) -/

theorem applyBlock_lawful (x : Car) (k : StatusBlock) (s : State) : Lawful s (applyBlock x k s) := by
  unfold applyBlock
  dsimp only
  split <;> rename_i hl
  · split
    · exact setLink_lawful _ _ _ fun _ _ => .inl rfl
    · split
      · exact (setCar_same_mild x _ s (by simp)).lawful
      · exact (setCar_same_mild x _ s (by simp)).lawful.trans (setLink_lawful _ _ _ fun _ hu => by simp [hl, Link.usable] at hu)
  · exact setLink_lawful _ _ _ fun _ _ => .inl rfl
  · exact .refl s

/-- The close orders and marks of a car, and the boarding of the berth where it stands. -/
theorem judgeCloseOrders_mild (x : Car) (k : StatusBlock) (s : State) : Mild s (judgeCloseOrders x k s) := by
  unfold judgeCloseOrders
  split
  · apply Mild.of_blocks <;> simp
  · exact setDoors_mild x _ s rfl fun _ => .inl rfl

theorem raiseOnBoth_lawful (n : Notice) (p : Port) (s : State) : Lawful s (raiseOnBoth n p s) := by
  unfold raiseOnBoth
  split
  · exact (raiseOn_mild _ _ s).lawful
  · exact (raiseOn_mild _ _ s).lawful.trans (raiseOn_mild _ _ _).lawful

theorem raiseUnauthorised_lawful (b : Option Berth) (s : State) : Lawful s (raiseUnauthorised b s) := by
  unfold raiseUnauthorised
  split
  · exact raiseOnBoth_lawful _ _ s
  · exact (raiseAll_mild _ s).lawful

theorem judgeUnauthorised_lawful (x : Car) (k : StatusBlock) (s : State) : Lawful s (judgeUnauthorised x k s) := by
  unfold judgeUnauthorised
  split
  · exact .refl s
  · have hmarks (v : PerSide Byte) := (setDoors_mild x { s.doors.get x with marks := v } s rfl fun _ => .inl rfl).lawful
    dsimp only
    split
    · exact hmarks _
    · split
      · exact ((hmarks _).trans (raiseUnauthorised_lawful _ _)).trans (moveBerth_mild _ _).lawful
      · exact (hmarks _).trans (raiseUnauthorised_lawful _ _)

theorem markUncertain_lawful (x : Car) (s : State) : Lawful s (markUncertain x s) := by
  unfold markUncertain
  dsimp only
  split
  · exact .refl s
  · exact (setCarBoard_mild _ _ s).lawful.trans (raiseAll_mild _ _).lawful

/-- A berth's counts changed, its state and its list kept. -/
theorem setBoard_counts_lawful (b : Berth) (v : BerthBoard) (s : State) (h : v.state = (s.board.berths.get b).state ∧ v.pending = (s.board.berths.get b).pending) :
    Lawful s (s.setBoard b v) :=
  (setBoard_mild b v s (by unfold BerthLaw; rw [h.1, h.2]; exact id) (by rw [h.2])).lawful

theorem boarded_lawful (x : Car) (n : Nat) (s : State) : Lawful s (boarded x n s) := by
  unfold boarded boardAtBerth
  dsimp only
  refine .trans ?_ (setCarBoard_mild _ _ _).lawful
  split
  · split
    · exact (setBoard_counts_lawful _ _ s (by simp)).trans (raiseAll_mild _ _).lawful
    · exact setBoard_counts_lawful _ _ s (by simp)
  · exact .refl s

theorem alighted_lawful (x : Car) (n : Nat) (s : State) : Lawful s (alighted x n s) := by
  unfold alighted
  dsimp only
  split
  · exact (setCarBoard_mild _ _ s).lawful.trans (setBoard_counts_lawful _ _ _ (by simp))
  · exact (setCarBoard_mild _ _ s).lawful

theorem handCounts_lawful (x : Car) (first : Bool) (d : Option (Nat × Nat)) (s : State) : Lawful s (handCounts x first d s) := by
  unfold handCounts
  split
  · exact .refl s
  · split
    · exact markUncertain_lawful x s
    · exact (boarded_lawful x _ s).trans (alighted_lawful x _ _)

theorem handOnCounts_lawful (x : Car) (first : Bool) (k : StatusBlock) (s : State) : Lawful s (handOnCounts x first k s) := by
  unfold handOnCounts
  dsimp only
  split
  · exact (setCar_same_mild x _ s (by simp)).lawful.trans (handCounts_lawful x first _ _)
  · exact .refl s

theorem takeAlarm_lawful (s : State) : Lawful s (takeAlarm s) := by
  have hraise := (raiseAll_mild .passengerAlarm s).lawful
  unfold takeAlarm
  dsimp only
  split <;> rename_i hline
  · exact hraise
  · exact hraise.trans (holdTrip_lawful _ _)
  · split
    · exact hraise
    · exact hraise
    · exact hraise.trans (holdMove_lawful _ _ hline)
  · exact hraise

end Sys2Proof.Machine
end

section
/-! PROOFS. The laws under a status block. -/

namespace Sys2Proof.Machine

/-! ### Leaves written from a block (R107, R161) -/

/-- Every present leaf of a side is LOCKED in a block (R107). -/
theorem State.sideLocked_iff (s : State) (x : Car) (k : StatusBlock) (d : Side) : s.sideLocked x k d = true ↔
    ∀ r, (s.track.cars.get x).ability = some r → ∀ j < 6, (r.leaves d).getLsbD j = true →
      (k.leaves.get d).toList.getD j .absent = .locked := by
  unfold State.sideLocked State.present
  cases (s.track.cars.get x).ability with
  | none => simp [allPresent_iff _ _ _ LeafState.absent]
  | some r => simp [allPresent_iff _ _ _ LeafState.absent]

/-- The record written for a present leaf is that of its reported state (R161). -/
theorem writeSide_getD (set : Byte) (old : Six LeafRecord) (l : Six LeafState) (j : Nat) (hj : j < 6) :
    (writeSide set old l).toList.getD j .absent =
      if set.getLsbD j then (l.toList.getD j .absent).record else old.toList.getD j .absent := by
  match j, hj with
  | 0, _ => rfl
  | 1, _ => rfl
  | 2, _ => rfl
  | 3, _ => rfl
  | 4, _ => rfl
  | 5, _ => rfl

@[simp] theorem writeLeaves_frame (x : Car) (k : StatusBlock) (s : State) :
    (writeLeaves x k s).tables = s.tables ∧ (writeLeaves x k s).rope = s.rope ∧ (writeLeaves x k s).trip = s.trip ∧
    (writeLeaves x k s).sup = s.sup ∧ (writeLeaves x k s).sched = s.sched ∧ (writeLeaves x k s).track = s.track ∧
    (writeLeaves x k s).board = s.board ∧ (writeLeaves x k s).links = s.links ∧ (writeLeaves x k s).now = s.now ∧
    (writeLeaves x k s).pending = s.pending := by
  simp [writeLeaves]

theorem writeLeaves_grants (x : Car) (k : StatusBlock) (s : State) (y : Car) :
    ((writeLeaves x k s).doors.get y).grants = (s.doors.get y).grants := by
  unfold writeLeaves
  by_cases h : y = x
  · subst h; simp
  · simp [PerCar.get_set_ne _ _ _ _ h]

theorem writeLeaves_kept (x : Car) (k : StatusBlock) (s : State) : Kept s (writeLeaves x k s) where
  time := by simp
  cause := by simp [CauseLaw]
  slot := by simp [SlotLaw]
  grant := .of_fewer (State.coord_congr (by simp) (by simp) (by simp)) (by simp) (by simp)
    (by rw [State.anyGrant_congr (s := s) (writeLeaves_grants x k s)]; exact id) (by simp)
  pending := .of_board (by simp)
  target := by simp [TargetLaw]
  test := by simp [TestLaw]

/-- A block that reports every present leaf LOCKED leaves every record of a present leaf LOCKED. -/
theorem writeLeaves_allLocked (x : Car) (k : StatusBlock) (s : State) (hl : s.sideLocked x k .left = true)
    (hr : s.sideLocked x k .right = true) : (writeLeaves x k s).allLocked x = true := by
  rw [State.allLocked_iff]
  intro d r ha j hj hset
  simp only [writeLeaves_frame] at ha
  have hd : s.sideLocked x k d = true := by cases d <;> assumption
  have hlocked := (s.sideLocked_iff x k d).mp hd r ha j hj hset
  have hpresent : s.present x d = r.leaves d := by simp [State.present, ha]
  cases d <;> simp only [writeLeaves, State.setDoors_doors, PerCar.get_set_same, PerSide.get] <;>
    rw [writeSide_getD _ _ _ _ hj, hpresent, if_pos hset] <;> exact congrArg LeafState.record hlocked

theorem writeLeaves_lawful (x : Car) (k : StatusBlock) (s : State)
    (h : s.sup.drvEn = true → s.sideLocked x k .left = true ∧ s.sideLocked x k .right = true) : Lawful s (writeLeaves x k s) := by
  refine Mild.lawful (.of_same (t := writeLeaves x k s) (.of_board (by simp)) ?_ (fun y hd hy => ⟨hy, fun hl => ?_⟩) (by simp))
  · rw [State.anyGrant_congr (s := s) (writeLeaves_grants x k s)]; exact id
  · by_cases hyx : y = x
    · subst hyx
      obtain ⟨h1, h2⟩ := h (by simpa using hd)
      exact writeLeaves_allLocked y k s h1 h2
    · rwa [State.allLocked_congr (s := s) (t := writeLeaves x k s) (by simp) (by simp [writeLeaves, PerCar.get_set_ne _ _ _ _ hyx])]

/-- The door controller's judgements of a block after the records are written. -/
theorem doorJudged_lawful (x : Car) (k : StatusBlock) (s : State) : Lawful s (judgeUnauthorised x k (judgeCloseOrders x k s)) :=
  (judgeCloseOrders_mild x k s).lawful.trans (judgeUnauthorised_lawful x k _)

theorem judgeCloseOrders_frame (x : Car) (k : StatusBlock) (s : State) :
    (judgeCloseOrders x k s).trip = s.trip ∧ (judgeCloseOrders x k s).sup = s.sup ∧ (judgeCloseOrders x k s).track = s.track := by
  unfold judgeCloseOrders
  split <;> simp

theorem raiseUnauthorised_frame (b : Option Berth) (s : State) :
    (raiseUnauthorised b s).trip = s.trip ∧ (raiseUnauthorised b s).sup = s.sup ∧ (raiseUnauthorised b s).track = s.track := by
  unfold raiseUnauthorised raiseOnBoth
  split
  · split <;> simp
  · simp

theorem judgeUnauthorised_frame (x : Car) (k : StatusBlock) (s : State) :
    (judgeUnauthorised x k s).trip = s.trip ∧ (judgeUnauthorised x k s).sup = s.sup ∧ (judgeUnauthorised x k s).track = s.track := by
  unfold judgeUnauthorised
  split
  · simp
  · dsimp only
    split
    · simp
    · split <;> simp [raiseUnauthorised_frame]

theorem doorBlock_frame (x : Car) (k : StatusBlock) (s : State) :
    (doorBlock x k s).trip = s.trip ∧ (doorBlock x k s).sup = s.sup ∧ (doorBlock x k s).track = s.track := by
  simp [doorBlock, judgeUnauthorised_frame, judgeCloseOrders_frame]

/-- A block with an unlocked leaf while DRV_EN is energised trips the line before the drive law is asked again (R107). -/
theorem doorBlock_lawful (x : Car) (k : StatusBlock) (s : State) :
    Lawful s (causeIf ((doorBlock x k s).sup.drvEn && !(s.sideLocked x k .left && s.sideLocked x k .right)) .doorUnlockedMoving (doorBlock x k s)) := by
  obtain ⟨htrip, hsup, -⟩ := doorBlock_frame x k s
  unfold causeIf
  split <;> rename_i h
  · exact takeCause_repairs _ _ s _ ((writeLeaves_kept x k s).trans (doorJudged_lawful x k _).toKept) htrip
  · refine (writeLeaves_lawful x k s fun hd => ?_).trans (doorJudged_lawful x k _)
    simpa [hsup, hd] using h

theorem handOn_lawful (x : Car) (first wasAlarm : Bool) (k : StatusBlock) (s : State) : Lawful s (handOn x first wasAlarm k s) := by
  unfold handOn
  dsimp only
  exact .trans (.trans (.thenIf (doorBlock_lawful x k s) fun _ => takeAlarm_lawful _) (causeIf_lawful _ _ _)) (handOnCounts_lawful x first k _)

theorem takeStatus_lawful (x : Car) (k : StatusBlock) (s : State) : Lawful s (takeStatus x k s) :=
  .trans ((setCar_same_mild x _ s (by exact ⟨rfl, rfl⟩)).lawful.trans (applyBlock_lawful x k _)) (handOn_lawful x _ _ k _)

end Sys2Proof.Machine
end

section
/-! PROOFS. The laws under the requests of boarding, doors, tables, the line and its trips. -/

namespace Sys2Proof.Machine

@[simp] theorem refuse_fst (r : Result) (s : State) : (refuse r s).1 = s := rfl
@[simp] theorem answerWith_fst (r : Result) (d : ReplyData) (s : State) : (answerWith r d s).1 = s := rfl
@[simp] theorem done_fst (s : State) : (done s).1 = s := rfl

/-! ### Boarding (R180 to R198) -/

theorem BerthLaw.settle {v : BerthBoard} (h : v.state ≠ .open → v.state ≠ .closing → v.pending = []) : BerthLaw v.settle := by
  obtain ⟨st, pen, al, l, q, la, e⟩ := v
  unfold BerthLaw BerthBoard.settle
  cases st <;> simp_all
  split <;> simp_all

theorem settle_pending (v : BerthBoard) : v.settle.pending = v.pending := by
  unfold BerthBoard.settle
  split
  · split <;> rfl
  · rfl

theorem openIfClear_pending (n : Nat) (v : BerthBoard) : (v.openIfClear n).pending = v.pending := by
  unfold BerthBoard.openIfClear
  split <;> rfl

theorem BerthLaw.openIfClear {v : BerthBoard} (n : Nat) (h : BerthLaw v) : BerthLaw (v.openIfClear n) := by
  unfold BerthBoard.openIfClear
  split
  · exact ⟨fun h => absurd rfl h, nofun⟩
  · exact h

theorem boardingOpenAt_lawful (b : Berth) (s : State) : Lawful s (boardingOpenAt b s).1 := by
  unfold boardingOpenAt
  split
  · exact .refl s
  split
  · exact .refl s
  split
  · exact .refl s
  split
  · exact .refl s
  split
  · exact .refl s
  · exact .refl s
  · exact .refl s
  · rename_i hc ho ha
    dsimp only [answerWith]
    refine (setBoard_mild b _ s (fun h => BerthLaw.openIfClear _ ?_) ?_).lawful
    · exact ⟨fun _ _ => h.1 ho hc, nofun⟩
    · rw [openIfClear_pending]

theorem reqBoardingOpen_lawful (p : Port) (body : List Byte) (s : State) : Lawful s (reqBoardingOpen p body s).1 := by
  unfold reqBoardingOpen
  split
  · exact .refl s
  split
  · split
    · exact .refl s
    · exact boardingOpenAt_lawful _ s
  · exact .refl s

theorem reqBoardingClose_lawful (p : Port) (body : List Byte) (s : State) : Lawful s (reqBoardingClose p body s).1 := by
  unfold reqBoardingClose
  split
  · split
    · exact .refl s
    · exact (moveBerth_mild _ s).lawful
  · exact .refl s

/-- The berth whose list holds a record of a gate is none exactly where no record of it is pending. -/
theorem holder_eq_none {s : State} {g : Nat} (h : s.holder g = none) : g ∉ s.board.pendingGates := by
  simp only [State.holder, List.find?_eq_none, Bool.not_eq_true, List.any_eq_false, beq_iff_eq] at h
  simp only [Board.pendingGates, List.mem_map, List.mem_append, not_exists, not_and]
  rintro r (((hr | hr) | hr) | hr)
  · exact h .b0 (mem_berthList _) r hr
  · exact h .b1 (mem_berthList _) r hr
  · exact h .b2 (mem_berthList _) r hr
  · exact h .b3 (mem_berthList _) r hr

/-- A record appended to one berth's list adds its gate to those pending. -/
theorem pendingGates_append (t : Board) (b : Berth) (r : Pending) :
    ∃ l l', t.pendingGates = l ++ l' ∧
      Board.pendingGates ⟨t.berths.set b { t.berths.get b with pending := (t.berths.get b).pending ++ [r] }, t.cars⟩ = l ++ r.gate :: l' := by
  unfold Board.pendingGates
  cases b
  · exact ⟨t.berths.b0.pending.map (·.gate), (t.berths.b1.pending ++ t.berths.b2.pending ++ t.berths.b3.pending).map (·.gate),
      by simp, by simp [PerBerth.set, PerBerth.get]⟩
  · exact ⟨(t.berths.b0.pending ++ t.berths.b1.pending).map (·.gate), (t.berths.b2.pending ++ t.berths.b3.pending).map (·.gate),
      by simp, by simp [PerBerth.set, PerBerth.get]⟩
  · exact ⟨(t.berths.b0.pending ++ t.berths.b1.pending ++ t.berths.b2.pending).map (·.gate), t.berths.b3.pending.map (·.gate),
      by simp, by simp [PerBerth.set, PerBerth.get]⟩
  · exact ⟨(t.berths.b0.pending ++ t.berths.b1.pending ++ t.berths.b2.pending ++ t.berths.b3.pending).map (·.gate), [],
      by simp, by simp [PerBerth.set, PerBerth.get]⟩

theorem grantAdmission_lawful (g n : Nat) (b : Berth) (s : State) (hopen : (s.board.berths.get b).state = .open)
    (hnone : s.holder g = none) : Lawful s (grantAdmission g n b s) := by
  refine Mild.lawful (.of_same (t := grantAdmission g n b s) (fun h => ⟨fun k hk => ?_, ?_⟩) id (fun _ _ h => ⟨h, id⟩)
    ⟨rfl, rfl, rfl, rfl, rfl, rfl, rfl⟩)
  · by_cases hkb : k = b
    · subst hkb
      simp [grantAdmission, BerthLaw, hopen]
    · simpa [grantAdmission, PerBerth.get_set_ne _ _ _ _ hkb] using h.1 k hk
  · obtain ⟨l, l', e, e'⟩ := pendingGates_append s.board b ⟨g, n, s.now + s.passageWindow * 1000000⟩
    have hnew : (grantAdmission g n b s).board.pendingGates = l ++ g :: l' := e'
    rw [hnew, List.nodup_middle, List.nodup_cons, ← e]
    exact ⟨holder_eq_none hnone, h.2⟩

theorem admitAt_lawful (p : Port) (g : Nat) (code : Byte) (n : Nat) (b : Berth) (s : State) : Lawful s (admitAt p g code n b s).1 := by
  unfold admitAt
  split
  · exact .refl s
  split
  · exact .refl s
  split
  · exact .refl s
  split
  · exact (setBoard_counts_lawful _ _ s (by simp)).trans (raiseOnBoth_lawful _ _ _)
  · exact grantAdmission_lawful _ _ _ s (by simp_all) (by simp_all)

theorem reqAdmit_lawful (p : Port) (body : List Byte) (s : State) : Lawful s (reqAdmit p body s).1 := by
  unfold reqAdmit
  split
  · split
    · exact .refl s
    split
    · exact .refl s
    split
    · exact admitAt_lawful _ _ _ _ _ s
    · exact .refl s
  · exact .refl s

theorem addPen_lawful (b : Berth) (n : Nat) (s : State) : Lawful s (addPen b n s) := setBoard_counts_lawful _ _ s (by simp)

/-- A berth with records removed from its list, settled where none is left (R184). -/
theorem setBoard_settle_lawful (b : Berth) (v : BerthBoard) (s : State) (hst : v.state = (s.board.berths.get b).state)
    (hl : v.pending.Sublist (s.board.berths.get b).pending) : Lawful s (s.setBoard b v.settle) := by
  refine (setBoard_mild b _ s (fun h => .settle fun ho hc => ?_) (by rwa [settle_pending])).lawful
  rw [hst] at ho hc
  rw [h.1 ho hc] at hl
  exact List.eq_nil_of_sublist_nil hl

theorem dropGate_lawful (k : Berth) (g : Nat) (s : State) : Lawful s (s.setBoard k ((s.board.berths.get k).dropGate g)) :=
  setBoard_settle_lawful k { s.board.berths.get k with pending := (s.board.berths.get k).pending.eraseP fun r => r.gate == g } s rfl
    List.eraseP_sublist

theorem dropOldest_lawful (k : Berth) (s : State) : Lawful s (s.setBoard k (s.board.berths.get k).dropOldest) :=
  setBoard_settle_lawful k { s.board.berths.get k with pending := (s.board.berths.get k).pending.tail } s rfl (List.tail_sublist _)

theorem passEntry_lawful (p : Port) (g n : Nat) (b : Berth) (s : State) : Lawful s (passEntry p g n b s).1 := by
  unfold passEntry
  split
  · exact (dropGate_lawful _ _ s).trans (addPen_lawful _ _ _)
  · exact ((addPen_lawful b n s).trans (setBoard_counts_lawful _ _ _ (by simp))).trans (raiseOnBoth_lawful _ _ _)

theorem passExit_lawful (n : Nat) (b : Berth) (s : State) : Lawful s (passExit n b s).1 := by
  unfold passExit
  dsimp only [answerWith]
  refine (setBoard_mild b _ s (fun h => BerthLaw.openIfClear _ ?_) (by rw [openIfClear_pending])).lawful
  exact h

theorem reqPassage_lawful (p : Port) (body : List Byte) (s : State) : Lawful s (reqPassage p body s).1 := by
  unfold reqPassage
  split
  · split
    · exact .refl s
    split
    · exact passEntry_lawful _ _ _ _ s
    · exact passExit_lawful _ _ s
    · exact .refl s
  · exact .refl s

theorem clearStation_lawful (b : Berth) (x : Option Car) (s : State) : Lawful s (clearStation b x s).1 := by
  have hclear : Lawful s (s.setBoard b (s.board.berths.get b).clear) :=
    setBoard_settle_lawful b { s.board.berths.get b with pen := 0, alighting := 0, pending := [] } s rfl (List.nil_sublist _)
  unfold clearStation
  dsimp only
  split
  · exact hclear.trans (setCarBoard_mild _ _ _).lawful
  · exact hclear

theorem stationClearAt_lawful (b : Berth) (e : Bool) (s : State) : Lawful s (stationClearAt b e s).1 := by
  unfold stationClearAt
  split
  · exact .refl s
  split
  · exact .refl s
  split
  · split
    · split
      · exact clearStation_lawful _ _ s
      · exact .refl s
    · exact .refl s
  · exact clearStation_lawful _ _ s

theorem reqStationClear_lawful (p : Port) (body : List Byte) (s : State) : Lawful s (reqStationClear p body s).1 := by
  unfold reqStationClear
  split
  · split
    · exact .refl s
    split
    · exact .refl s
    · exact stationClearAt_lawful _ _ s
  · exact .refl s

/-! ### Doors (R166, R171) -/

theorem doorReleaseAt_lawful (p : Port) (b : Berth) (d : Side) (s : State) (hline : s.trip.line = .parked) :
    Lawful s (doorReleaseAt p b d s).1 := by
  unfold doorReleaseAt
  split
  · split
    · exact .refl s
    · rename_i hfault
      split
      · exact .refl s
      · exact makeGrant_lawful _ _ _ s hline (releaseFault_flag hfault)
  · exact .refl s

theorem reqDoorRelease_lawful (p : Port) (body : List Byte) (s : State) : Lawful s (reqDoorRelease p body s).1 := by
  unfold reqDoorRelease
  split
  · exact .refl s
  split
  · split
    · exact .refl s
    split
    · exact .refl s
    · exact doorReleaseAt_lawful _ _ _ s (by simp_all)
  · exact .refl s

theorem closeSide_lawful (x : Car) (d : Side) (s : State) : Lawful s (closeSide x d s) := by
  unfold closeSide
  split
  · exact withdraw_lawful x d s
  · split
    · exact .refl s
    · dsimp only
      refine (setDoors_mild x _ s ?_ fun _ => ?_).lawful
      · rfl
      · exact .inl rfl

theorem closeSides_lawful (x : Car) (set : Byte) (s : State) : Lawful s (closeSides x set s) := by
  unfold closeSides
  induction sidesOf set generalizing s with
  | nil => exact .refl s
  | cons d l ih => exact (closeSide_lawful x d s).trans (ih _)

theorem reqDoorClose_lawful (p : Port) (body : List Byte) (s : State) : Lawful s (reqDoorClose p body s).1 := by
  unfold reqDoorClose
  split
  · split
    · exact .refl s
    split
    · exact .refl s
    · unfold doorCloseAt
      dsimp only [answerWith]
      split
      · exact closeSides_lawful _ _ s
      · exact (closeSides_lawful .a _ s).trans (closeSides_lawful .b _ _)
  · exact .refl s

/-! ### The table store (R9 to R17) -/

theorem setTables_lawful (v : Tables) (s : State) (h : v.header = s.tables.header) : Lawful s (s.setTables v) :=
  keeps_of_rope (s := s) (t := s.setTables v) ⟨rfl, rfl⟩ rfl rfl rfl rfl rfl rfl (.refl _) (.of_fewer (State.coord_congr h rfl rfl) rfl rfl id id)

theorem reqTableBegin_lawful (p : Port) (body : List Byte) (s : State) : Lawful s (reqTableBegin p body s).1 := by
  unfold reqTableBegin
  split
  · split
    · exact .refl s
    split
    · exact .refl s
    · exact setTables_lawful _ s (by simp)
  · exact .refl s

theorem reqTableEntries_lawful (p : Port) (body : List Byte) (s : State) : Lawful s (reqTableEntries p body s).1 := by
  unfold reqTableEntries
  split
  · exact .refl s
  split
  · exact .refl s
  split
  · exact .refl s
  split
  · exact .refl s
  split
  · exact .refl s
  · exact setTables_lawful _ s (by simp)

/-- A LINE commit takes s_ref again with the flag set, and has no grant to withdraw with the flag clear (R37). -/
theorem retakeReference_lawful (v : Tables) (s : State) : Lawful s (retakeReference (s.setTables v)) := by
  unfold retakeReference
  split <;> rename_i hf
  · refine .trans (keeps_of_rope (s := s) (t := { s.setTables v with rope := { s.rope with sRef := (s.setTables v).coord } })
      ⟨rfl, rfl⟩ rfl rfl rfl rfl rfl rfl (.refl _) fun h => ⟨fun _ => ?_, h.2⟩) (withSup_mild _ _ (by simp)).lawful
    simp [State.coord, distance]
  · exact keeps_of_rope (t := s.setTables v) ⟨rfl, rfl⟩ rfl rfl rfl rfl rfl rfl (.refl _) fun h => ⟨fun e => absurd e hf, h.2⟩

theorem commitLine_lawful (h : Header) (s : State) : Lawful s (commitLine h s).1 := by
  unfold commitLine
  dsimp only [answerWith]
  exact .trans (.thenIf ((retakeReference_lawful _ s).trans (dwellAfter_lawful _ _)) fun _ => setCertainty_lawful _ _) (causeIf_lawful _ _ _)

theorem setLink_ne_down_eq (x : Car) (l : Link) (s : State) (hl : l ≠ .down) :
    setLink x l s = if (s.track.cars.get x).link = l then s else linkMoved x l s := by
  simp [setLink_eq, hl]

/-- A link's change in CLOSED, where DRV_EN is down. -/
theorem setLink_closed_lawful (x : Car) (l : Link) (s : State) (hl : l ≠ .down) (hline : s.trip.line = .closed) :
    Lawful s (setLink x l s) := by
  rw [setLink_ne_down_eq x l s hl]
  split
  · exact .refl s
  · refine ⟨linkMoved_kept _ _ _, fun _ h => ?_⟩
    obtain ⟨h1, h2⟩ := drives_off h (by simp [hline, LineState.inMotion]) (by simp [hline, LineState.isTest])
    exact .of_down (by simpa using h1) (by simp [h2])

theorem relisten_lawful (x : Car) (s : State) (hline : s.trip.line = .closed) : Lawful s (relisten x s) := by
  unfold relisten
  dsimp only
  split
  · exact .refl s
  · exact .trans (setCar_same_mild x _ s (by exact ⟨rfl, rfl⟩)).lawful (setLink_closed_lawful x .listen _ (by simp) hline)

theorem relisten_trip (x : Car) (s : State) : (relisten x s).trip = s.trip := by
  unfold relisten
  dsimp only
  split
  · rfl
  · rw [setLink_ne_down_eq _ _ _ (by simp)]
    split <;> simp

theorem commitOther_lawful (v : Validated) (s : State) (hv : ∀ h, v ≠ .line h) (hc : ∀ c, v = .cars c → s.trip.line = .closed) :
    Lawful s (commitOther v s) := by
  cases v with
  | line h => exact absurd rfl (hv h)
  | sections l => exact setTables_lawful _ s (by simp)
  | berths t => exact (setTables_lawful _ s (by simp)).trans (withTrip_mild _ _ (by simp)).lawful
  | markers l => exact setTables_lawful _ s (by simp)
  | cars c =>
    have hline := hc c rfl
    refine .trans (.trans (setTables_lawful { s.tables with cars := some c, staging := none } s (by simp)) (relisten_lawful .a _ hline))
      (relisten_lawful .b _ ?_)
    rw [relisten_trip]
    exact hline
  | gates l => exact setTables_lawful _ s (by simp)
  | rules l => exact setTables_lawful _ s (by simp)

theorem commitValidated_lawful (v : Validated) (s : State) (hc : ∀ c, v = .cars c → s.trip.line = .closed) :
    Lawful s (commitValidated v s).1 := by
  have hcommit : Lawful s (match v with | .line h => commitLine h s | _ => done (commitOther v s)).1 := by
    split
    · exact commitLine_lawful _ s
    · exact commitOther_lawful v s (by assumption) hc
  unfold commitValidated
  dsimp only
  split
  · exact hcommit
  · exact (hcommit.trans (compareAbility_lawful .a _)).trans (compareAbility_lawful .b _)

/-- What a table's own rule leaves to commit is of that table. -/
theorem validateOwn_table (h : Option Header) (t : TableId) (l : List (List Byte)) (c : PerCar Ability)
    (hv : validateOwn h t l = .ok (.cars c)) : t = .cars := by
  have hj (j : TableJudgement) (v : Validated) (e : judged j v = .ok (.cars c)) : v = .cars c := by
    cases j <;> simp_all [judged]
  have hh (f : Header → Except TableFault Validated) (e : (match h with | some h => f h | none => .error (255, .noHeader)) = .ok (.cars c)) :
      ∃ h, f h = .ok (.cars c) := by
    cases h with
    | none => cases e
    | some h => exact ⟨h, e⟩
  cases t
  case cars => rfl
  case line | gates | rules => exact absurd (hj _ _ hv) nofun
  case sections | berths | markers =>
    obtain ⟨_, e⟩ := hh _ hv
    exact absurd (hj _ _ e) nofun

theorem reqTableCommit_lawful (p : Port) (body : List Byte) (s : State) : Lawful s (reqTableCommit p body s).1 := by
  unfold reqTableCommit
  split
  · exact .refl s
  rename_i g hg
  split
  · exact .refl s
  split
  · exact .refl s
  rename_i hopen
  split
  · exact .refl s
  rename_i v hv
  refine commitValidated_lawful v s fun c e => ?_
  subst e
  have ht : g.table = .cars := by
    unfold Staging.validate at hv
    split at hv
    · cases hv
    · exact validateOwn_table _ _ _ c hv
  unfold tableRefusal at hopen
  split at hopen
  · assumption
  · simp [ht, TableId.isGeometry] at hopen
  · cases hopen
  · cases hopen

/-! ### The line (R47 to R55) -/

theorem enterAligned_lawful (b : Berth) (s : State) (hline : s.trip.line = .closed) : Lawful s (enterAligned b s) :=
  ((enterLine_lawful .parked s (by simp [hline, LineState.isTest]) ⟨nofun, nofun, rfl⟩ (by simp [hline])
    (by simp [hline, LineState.inMotion])).trans (withTrip_mild _ _ (by simp)).lawful).trans (setAlignments_lawful _ _ _)

theorem openLine_lawful (s : State) (hline : s.trip.line = .closed) : Lawful s (openLine s) := by
  unfold openLine
  dsimp only
  split
  · exact (enterAligned_lawful _ s hline).trans (setEb_on_mild _ (by simp [enterAligned, setAlignments])).lawful
  · exact (enterLine_lawful (.recovery false) s (by simp [hline, LineState.isTest]) ⟨nofun, nofun, rfl⟩ (by simp [hline])
      (by simp [hline, LineState.inMotion])).trans (setEb_on_mild _ (by simp)).lawful

theorem reqOpenLine_lawful (p : Port) (body : List Byte) (s : State) : Lawful s (reqOpenLine p body s).1 := by
  unfold reqOpenLine
  split
  · exact .refl s
  split
  · exact .refl s
  split
  · exact .refl s
  split
  · exact .refl s
  · exact openLine_lawful s (by simp_all)

theorem reqCloseLine_lawful (p : Port) (body : List Byte) (s : State) : Lawful s (reqCloseLine p body s).1 := by
  unfold reqCloseLine
  split <;> rename_i hline
  · exact .refl s
  split
  · exact .refl s
  split <;> rename_i hshut
  · exact .refl s
  have hl : s.trip.line = .parked ∨ s.trip.line = .recovery false := by tauto
  refine (enterLine_lawful .closed s ?_ ⟨nofun, nofun, rfl⟩ (fun _ => ?_) ?_).trans (setEb_off_mild _).lawful
  · rcases hl with e | e <;> simp [e, LineState.isTest]
  · simp_all
  · rcases hl with e | e <;> simp [e, LineState.inMotion]

theorem reqModeSet_lawful (p : Port) (body : List Byte) (s : State) : Lawful s (reqModeSet p body s).1 := by
  unfold reqModeSet
  split
  · exact .refl s
  split
  · split
    · exact .refl s
    split
    · exact .refl s
    split
    · exact (withTrip_mild _ s (by simp)).lawful.trans (raiseAll_mild _ _).lawful
    · exact .refl s
  · exact .refl s

theorem setConsent_lawful (p : Port) (v : Bool) (s : State) : Lawful s (setConsent p v s) := by
  cases p
  · exact .refl s
  · exact (withTrip_mild _ s (by simp)).lawful
  · exact (withTrip_mild _ s (by simp)).lawful

theorem reqDepartConsent_lawful (p : Port) (body : List Byte) (s : State) : Lawful s (reqDepartConsent p body s).1 := by
  unfold reqDepartConsent
  split
  · split
    · exact setConsent_lawful p false s
    split
    · split
      · exact setConsent_lawful p true s
      · exact setConsent_lawful p true s
      · exact .refl s
      · exact .refl s
    · exact .refl s
  · exact .refl s

theorem reqWeather_lawful (p : Port) (body : List Byte) (s : State) : Lawful s (reqWeather p body s).1 := by
  unfold reqWeather
  split
  · exact (withTrip_mild _ s (by simp)).lawful
  · exact .refl s

/-! ### Trips (R60 to R85) -/

theorem mirrorPair (b : Berth) : MirrorPair ⟨b, b.mirror⟩ := rfl

/-- The entry to DISPATCH with the grants withdrawn at once (R169). -/
theorem acceptRun_lawful (d : Dir) (v : Nat) (b c : Berth) (s : State) (hline : s.trip.line = .parked) : Lawful s (acceptRun d v b c s) := by
  unfold acceptRun
  dsimp only
  refine .trans ?_ ((moveBerth_mild _ _).lawful.trans (moveBerth_mild _ _).lawful)
  generalize hu : enterLine .dispatch { s with trip := _ } = u
  have hclose := (withdrawAll_lawful u).trans (closeAll_lawful _)
  have htrip : u.trip.line = .dispatch ∧ u.trip.slot = s.trip.slot ∧ u.trip.stepping = s.trip.stepping ∧
      u.trip.moveRelease = s.trip.moveRelease ∧ ∀ r, u.trip.record = some r → MirrorPair r.target := by
    subst hu
    simp [mirrorPair]
  have hframe : u.tables = s.tables ∧ u.rope = s.rope ∧ u.sup = s.sup ∧ u.sched = s.sched ∧ u.board = s.board := by
    subst hu
    simp [LineState.departs]
  obtain ⟨htables, hrope, hsup, hsched, hboard⟩ := hframe
  obtain ⟨hl, hslot, hstep, hmove, hrec⟩ := htrip
  exact
    { time := by simp [← hu]
      cause := hclose.cause ∘ fun h => ⟨by simpa [hl, hsup, hline] using h.1, by simp [hl], by simpa [hsup, hstep] using h.2.2⟩
      slot := hclose.slot ∘ fun h => by simpa [SlotLaw, hl, hslot, hline] using h
      grant := .of_none (State.coord_congr (by simp [htables]) (by simp [hrope]) (by simp [hrope])) (by simp [hrope]) (by simp [hrope]) (by simp)
      pending := hclose.pending ∘ .of_board (by rw [hboard])
      target := hclose.target ∘ fun h => ⟨hrec, by rw [hslot]; exact h.2.1, by simp [hl, LineState.isRail]⟩
      test := hclose.test ∘ fun h k => by simpa [hl, hsched, hline] using h k
      drive := fun _ h => by
        obtain ⟨h1, h2⟩ := drives_off h (by simp [hline, LineState.inMotion]) (by simp [hline, LineState.isTest])
        exact .of_down (by simpa [hsup] using h1) (by simp [hmove, h2]) }

theorem reqRun_lawful (p : Port) (body : List Byte) (s : State) : Lawful s (reqRun p body s).1 := by
  unfold reqRun
  split
  · rename_i hline
    split
    · split
      · split
        · exact .refl s
        · unfold runWith
          split
          · exact .refl s
          split
          · exact .refl s
          split
          · exact .refl s
          · exact acceptRun_lawful _ _ _ _ s hline
      · exact .refl s
    · exact .refl s
  · exact .refl s
  · exact .refl s

theorem endDispatch_lawful (e : Ending) (s : State) (hline : s.trip.line = .dispatch) : Lawful s (endDispatch e s) := by
  have hsb : Lawful s (setSb false { s with trip := { s.trip with stage := none, dispatchLimit := false } }) :=
    (withTrip_mild _ s (by simp)).lawful.trans (setSb_off_mild _).lawful
  unfold endDispatch
  dsimp only
  split
  · refine (hsb.trans (endRecord_mild e _).lawful).trans ((enterLine_lawful .parked _ ?_ ⟨nofun, nofun, rfl⟩ ?_ ?_).trans (withTrip_mild _ _ (by simp)).lawful)
    · simp [hline, LineState.isTest]
    · simp [hline]
    · simp [hline, LineState.inMotion]
  · exact hsb

theorem holdBody_lawful (body : List Byte) (s : State) (q : State × Reply) (h : Lawful s q.1) : Lawful s (holdBody body s q).1 := by
  unfold holdBody
  split
  · exact h
  · exact .refl s

theorem reqHold_lawful (p : Port) (body : List Byte) (s : State) : Lawful s (reqHold p body s).1 := by
  unfold reqHold
  split <;> rename_i hline
  · exact holdBody_lawful _ _ _ (endDispatch_lawful _ s hline)
  · exact .refl s
  · exact holdBody_lawful _ _ _ (holdTrip_lawful _ s)
  · exact .refl s
  · split
    · exact .refl s
    · exact .refl s
    · exact holdBody_lawful _ _ _ (holdMove_lawful _ s hline)
  · exact .refl s
  · exact .refl s

theorem reqResume_lawful (p : Port) (body : List Byte) (s : State) : Lawful s (reqResume p body s).1 := by
  unfold reqResume
  split <;> rename_i hline
  · exact .refl s
  split
  · exact .refl s
  split
  · exact .refl s
  split
  · exact .refl s
  · exact (withTrip_mild _ s (by simp)).lawful.trans (setSb_on_mild _ (by simp_all)).lawful

/-- The entry to RECOVERY-MOVING with a new record and the slot emptied (R85). -/
theorem acceptMove_lawful (b : Berth) (s : State) (hline : s.trip.line = .parked ∨ s.trip.line = .held ∨ s.trip.line = .recovery false)
    (hg : s.anyGrant = false) : Lawful s (acceptMove b s) := by
  unfold acceptMove
  dsimp only
  refine .trans ?_ (setSb_on_mild _ (by simp)).lawful
  generalize hu : clearStop { s with trip := _ } = u
  have htrip : u.trip.line = s.trip.line ∧ u.trip.slot = none ∧ u.trip.stepping = s.trip.stepping ∧
      ∀ r, u.trip.record = some r → MirrorPair r.target := by
    subst hu
    simp [mirrorPair]
  have hframe : u.tables = s.tables ∧ u.rope = s.rope ∧ u.sup = s.sup ∧ u.sched = s.sched ∧ u.board = s.board ∧ u.doors = s.doors := by
    subst hu
    exact ⟨rfl, rfl, rfl, rfl, rfl, rfl⟩
  obtain ⟨hl, hslot, hstep, hrec⟩ := htrip
  obtain ⟨htables, hrope, hsup, hsched, hboard, hdoors⟩ := hframe
  have hne : s.trip.line ≠ .tripped ∧ s.trip.line.inMotion = false ∧ s.trip.line.isTest = false ∧ ∀ k, s.trip.line ≠ .testing k := by
    rcases hline with e | e | e <;> simp [e, LineState.inMotion, LineState.isTest]
  obtain ⟨h1, h2, h3, h4⟩ := hne
  exact
    { time := by simp [← hu]
      cause := fun h => enterLine_cause _ u (by rwa [hl]) nofun
        ⟨by simpa [hl, hsup] using h.1, by simp [hl, h1], by simpa [hsup, hstep] using h.2.2⟩
      slot := fun _ => by simp [SlotLaw, hslot]
      grant := fun h => by
        refine .of_none (State.coord_congr (by simp [htables]) (by simp [hrope]) (by simp [hrope])) (by simp [hrope]) (by simp [hrope]) ?_ h
        rw [enterLine_anyGrant, State.anyGrant_congr (s := s) (by simp [hdoors]), hg]
      pending := enterLine_pending _ u ∘ .of_board (by rw [hboard])
      target := fun h => ⟨by simpa using hrec, by simp [hslot], by simp [LineState.isRail]⟩
      test := fun h k => by simpa [hsched, h4 k] using h k
      drive := fun _ h => .of_down (by simpa [hsup] using (drives_off h h2 h3).1) (by simp) }

theorem reqRecoveryMove_lawful (p : Port) (body : List Byte) (s : State) : Lawful s (reqRecoveryMove p body s).1 := by
  unfold reqRecoveryMove
  split
  · exact .refl s
  rename_i hopen
  have hline : s.trip.line = .parked ∨ s.trip.line = .held ∨ s.trip.line = .recovery false := by
    unfold State.moveRefusal at hopen
    split at hopen <;> simp_all
  split
  · split
    · unfold moveTo
      split
      · exact .refl s
      split
      · exact .refl s
      split
      · exact .refl s
      split
      · exact .refl s
      · exact acceptMove_lawful _ s hline (by simp_all [State.moveHolds])
    · exact .refl s
  · exact .refl s

end Sys2Proof.Machine
end

section
/-! PROOFS. The laws under TRIP RESET, EMERGENCY STOP, the tests and the link's own requests, and under every frame and character. -/

namespace Sys2Proof.Machine

/-! ### TRIP RESET (R112) -/

@[simp] theorem clearTripOrder_frame (x : Car) (s : State) :
    (clearTripOrder x s).tables = s.tables ∧ (clearTripOrder x s).rope = s.rope ∧ (clearTripOrder x s).trip = s.trip ∧
    (clearTripOrder x s).sched = s.sched ∧ (clearTripOrder x s).track = s.track ∧ (clearTripOrder x s).doors = s.doors ∧
    (clearTripOrder x s).board = s.board ∧ (clearTripOrder x s).links = s.links ∧ (clearTripOrder x s).now = s.now ∧
    (clearTripOrder x s).pending = s.pending ∧ (clearTripOrder x s).sup.causes = s.sup.causes ∧
    (clearTripOrder x s).sup.ebRel = s.sup.ebRel ∧ (clearTripOrder x s).sup.sbRel = s.sup.sbRel ∧
    (clearTripOrder x s).sup.drvEn = s.sup.drvEn := by
  unfold clearTripOrder
  split <;> simp

@[simp] theorem realign_frame (s : State) :
    (realign s).tables = s.tables ∧ (realign s).trip = s.trip ∧ (realign s).sup = s.sup ∧ (realign s).sched = s.sched ∧
    (realign s).track = s.track ∧ (realign s).doors = s.doors ∧ (realign s).board = s.board ∧ (realign s).now = s.now ∧
    (realign s).pending = s.pending := by
  simp [realign]

theorem lowerCertainty_rope (s : State) : ∃ c, (lowerCertainty s).rope = { s.rope with certainty := c } := by
  unfold lowerCertainty setCertainty
  split
  · dsimp only
    split <;> exact ⟨_, by simp; rfl⟩
  · exact ⟨s.rope.certainty, rfl⟩

theorem realign_rope (s : State) : (realign s).rope.base = s.rope.base ∧ (realign s).rope.chans = s.rope.chans ∧
    (realign s).rope.sRef = s.rope.sRef ∧ (realign s).rope.flag = s.rope.flag := by
  obtain ⟨c, h⟩ := lowerCertainty_rope { s with rope := { s.rope with base2 := s.rope.base2 + (s.coord - s.coord2), disagree := 0 } }
  simp [realign, h]

/-- What TRIP RESET does before the line state that it chose is entered. -/
def tripCleared (s : State) : State :=
  let s1 := reanchor (realign (clearTripOrder .b (clearTripOrder .a (listToRecord s))))
  { s1 with trip := { s1.trip with origin := .none } }

theorem resetTrip_eq (s : State) : resetTrip s = enterChosen s.resetChoice (tripCleared s) := rfl

@[simp] theorem tripCleared_frame (s : State) :
    (tripCleared s).tables = s.tables ∧ (tripCleared s).sched = s.sched ∧ (tripCleared s).track = s.track ∧
    (tripCleared s).doors = s.doors ∧ (tripCleared s).board = s.board ∧ (tripCleared s).trip = { s.trip with origin := .none } ∧
    (tripCleared s).sup.causes = [] ∧ (tripCleared s).sup.drvEn = s.sup.drvEn ∧ (tripCleared s).now = s.now ∧
    (tripCleared s).pending = s.pending := by
  simp [tripCleared, reanchor, listToRecord]

theorem tripCleared_rope (s : State) : (tripCleared s).rope.base = s.rope.base ∧ (tripCleared s).rope.chans = s.rope.chans ∧
    (tripCleared s).rope.sRef = s.rope.sRef ∧ (tripCleared s).rope.flag = s.rope.flag := by
  simp [tripCleared, reanchor, realign_rope, listToRecord]

/-- TRIPPED is left with the list emptied. -/
theorem leaveTripped_lawful (l : LineState) (s : State) (hline : s.trip.line = .tripped)
    (hl : l ≠ .tripped ∧ l ≠ .held ∧ l.isTest = false) : Lawful s (enterLine l (tripCleared s)) := by
  obtain ⟨hbase, hchans, href, hflag⟩ := tripCleared_rope s
  exact
    { time := by simp
      cause := fun h => ⟨by simp [hl.1], by simp [hl.1], by simpa using h.2.2.1, by simp, by simp⟩
      slot := fun h => by simpa [SlotLaw, hl.2.1, hline] using h
      grant := fun h => by
        refine .of_none (State.coord_congr (by simp) (by simp [hbase]) (by simp [hchans])) (by simp [href]) (by simp [hflag]) ?_ h
        rw [enterLine_anyGrant, State.anyGrant_congr (s := s) (by simp)]
        exact not_grant_of_line h (by simp [hline])
      pending := enterLine_pending l _ ∘ .of_board (by simp)
      target := fun h => by
        refine ⟨by simpa using h.1, by simpa using h.2.1, fun hr => ?_⟩
        have : l.isRail = true := by simpa using hr
        cases l <;> simp_all [LineState.isRail, LineState.isTest]
      test := fun h k => by
        have : l ≠ .testing k := fun e => by simp [e, LineState.isTest] at hl
        simpa [this, hline] using h k
      drive := fun _ h => by
        obtain ⟨h1, h2⟩ := drives_off h (by simp [hline, LineState.inMotion]) (by simp [hline, LineState.isTest])
        exact .of_down (by simpa using h1) (by simp [h2]) }

theorem resetTrip_lawful (s : State) (hline : s.trip.line = .tripped) : Lawful s (resetTrip s) := by
  rw [resetTrip_eq]
  unfold State.resetChoice
  split
  · exact leaveTripped_lawful .closed s hline ⟨nofun, nofun, rfl⟩
  · split
    · exact .trans (.trans ((leaveTripped_lawful .parked s hline ⟨nofun, nofun, rfl⟩).trans (withTrip_mild _ _ (by simp)).lawful) (setAlignments_lawful _ _ _))
        (setEb_on_mild _ (by simp [setAlignments])).lawful
    · exact (leaveTripped_lawful (.recovery false) s hline ⟨nofun, nofun, rfl⟩).trans (setEb_on_mild _ (by simp)).lawful

theorem reqTripReset_lawful (p : Port) (body : List Byte) (s : State) : Lawful s (reqTripReset p body s).1 := by
  unfold reqTripReset
  split <;> rename_i hline
  · exact .refl s
  split
  · exact .refl s
  split
  · exact .refl s
  · exact resetTrip_lawful s (by simpa using hline)

theorem reqEmergencyStop_lawful (p : Port) (body : List Byte) (s : State) : Lawful s (reqEmergencyStop p body s).1 := by
  unfold reqEmergencyStop
  split
  · exact .refl s
  · exact takeCause_lawful _ _ s

/-! ### BRAKE TEST and RAIL TEST (R123, R127) -/

/-- A test begins in PARKED with no grant (R123, R127): its test in hand and the line state together. -/
theorem enterTest_lawful (k : TestKind) (s u : State) (hline : s.trip.line = .parked) (hg : s.anyGrant = false)
    (htime : u.now = s.now ∧ u.pending = s.pending) (htables : u.tables = s.tables) (hrope : u.rope = s.rope)
    (hsup : u.sup = s.sup) (hdoors : u.doors = s.doors) (hboard : u.board = s.board)
    (htrip : u.trip = { s.trip with stop := u.trip.stop, holdCause := u.trip.holdCause })
    (htest : ∃ g, u.sched.test = some (k, g)) (htarget : k ≠ .eb → MirrorPair u.sched.targets) : Lawful s (enterLine (.testing k) u) where
  time := by simpa using htime
  cause h := enterLine_cause _ u (by rw [htrip]; simp [hline]) nofun (by rw [CauseLaw, htrip, hsup]; exact h)
  slot h := by
    have : u.trip.slot = s.trip.slot := by rw [htrip]
    simpa [SlotLaw, this, hline] using h
  grant h := by
    refine .of_none (State.coord_congr (by simp [htables]) (by simp [hrope]) (by simp [hrope])) (by simp [hrope]) (by simp [hrope]) ?_ h
    rw [enterLine_anyGrant, State.anyGrant_congr (s := s) (by simp [hdoors]), hg]
  pending := enterLine_pending _ u ∘ .of_board (by rw [hboard])
  target h := by
    have hrec : u.trip.record = s.trip.record ∧ u.trip.slot = s.trip.slot := by rw [htrip]; simp
    refine ⟨by simpa [hrec.1] using h.1, by simpa [hrec.2] using h.2.1, fun hr => ?_⟩
    have hk : k ≠ .eb := by rintro rfl; simp [LineState.isRail] at hr
    simpa using htarget hk
  test _ j := by
    obtain ⟨g, e⟩ := htest
    simp [e]
  drive _ h := by
    obtain ⟨h1, h2⟩ := drives_off h (by simp [hline, LineState.inMotion]) (by simp [hline, LineState.isTest])
    have hm : u.trip.moveRelease = s.trip.moveRelease := by rw [htrip]
    exact .of_down (by simpa [hsup] using h1) (by simp [hm, h2])

theorem acceptBrakeTest_lawful (s : State) (hline : s.trip.line = .parked) (hg : s.anyGrant = false) : Lawful s (acceptBrakeTest s) := by
  unfold acceptBrakeTest
  dsimp only
  refine .trans (.trans ?_ (setEb_off_mild _).lawful) (withSup_mild _ _ (by simp)).lawful
  exact enterTest_lawful .eb s _ hline hg ⟨rfl, rfl⟩ rfl rfl rfl rfl rfl rfl ⟨_, rfl⟩ (absurd rfl)

theorem testRefusal_none {l : LineState} (h : testRefusal l = none) : l = .parked := by
  unfold testRefusal at h
  split at h <;> simp_all

theorem reqBrakeTest_lawful (p : Port) (body : List Byte) (s : State) : Lawful s (reqBrakeTest p body s).1 := by
  unfold reqBrakeTest
  split
  · exact .refl s
  rename_i hline
  split
  · exact .refl s
  split
  · exact .refl s
  · exact acceptBrakeTest_lawful s (testRefusal_none hline) (by simp_all [State.brakeTestHolds])

theorem railTargets_mirror (x : Car) : MirrorPair (railTargets x) := by cases x <;> rfl

theorem acceptRailTest_lawful (x : Car) (s : State) (hline : s.trip.line = .parked) (hg : s.anyGrant = false) : Lawful s (acceptRailTest x s) := by
  unfold acceptRailTest
  dsimp only
  refine .trans ?_ (setSb_on_mild _ (by simp)).lawful
  exact enterTest_lawful (railKind x) s _ hline hg ⟨rfl, rfl⟩ rfl rfl rfl rfl rfl rfl ⟨_, rfl⟩ fun _ => railTargets_mirror x

theorem reqRailTest_lawful (p : Port) (body : List Byte) (s : State) : Lawful s (reqRailTest p body s).1 := by
  unfold reqRailTest
  split
  · exact .refl s
  rename_i hline
  split
  · exact .refl s
  split
  · exact .refl s
  split
  · exact .refl s
  split
  · exact .refl s
  · exact acceptRailTest_lawful _ s (testRefusal_none hline) (by simp_all [State.railTestHolds])

/-! ### The link interface's own requests (R214 to R217) -/

theorem reqStatusRead_lawful (p : Port) (body : List Byte) (s : State) : Lawful s (reqStatusRead p body s).1 := by
  unfold reqStatusRead
  split
  · split <;> exact .refl s
  · exact .refl s

theorem reqNoticeClear_lawful (p : Port) (body : List Byte) (s : State) : Lawful s (reqNoticeClear p body s).1 := by
  unfold reqNoticeClear
  split
  · split
    · exact (setPort_mild _ _ s).lawful
    · exact .refl s
  · exact .refl s

theorem reqNoticeEnable_lawful (p : Port) (body : List Byte) (s : State) : Lawful s (reqNoticeEnable p body s).1 := by
  unfold reqNoticeEnable
  split
  · split
    · split
      · exact .refl s
      · exact (setPort_mild _ _ s).lawful
    · exact .refl s
  · exact .refl s

theorem zeroStation_lawful (p : Port) (s : State) : Lawful s (zeroStation p s) := by
  unfold zeroStation
  exact .trans (.trans (setPort_mild _ _ s).lawful (setBoard_counts_lawful _ _ _ (by exact ⟨rfl, rfl⟩))) (setBoard_counts_lawful _ _ _ (by exact ⟨rfl, rfl⟩))

theorem zeroAll_lawful (s : State) : Lawful s (zeroAll s) := by
  have hstale (x : Car) : (zeroAll s).stale x = s.stale x := State.stale_congr (by simp [zeroAll, CarLink.read])
  have hlocked (x : Car) : (zeroAll s).allLocked x = s.allLocked x := State.allLocked_congr (by simp [zeroAll, CarLink.read]) rfl
  exact
    { time := ⟨rfl, rfl⟩, cause := id, slot := id, target := id, test := id
      grant := .of_fewer (State.coord_congr rfl rfl rfl) rfl rfl id id
      pending := .of_berths fun b => by simp [zeroAll, BerthBoard.read, BerthLaw]
      drive := fun _ h => by
        refine ⟨fun hd => ?_, h.2⟩
        rw [hstale, hstale, hlocked, hlocked]
        exact h.1 hd }

theorem reqCountsRead_lawful (p : Port) (body : List Byte) (s : State) : Lawful s (reqCountsRead p body s).1 := by
  unfold reqCountsRead
  split
  · exact .refl s
  split
  · exact zeroAll_lawful s
  · exact zeroStation_lawful _ s

theorem reqTableRead_lawful (p : Port) (body : List Byte) (s : State) : Lawful s (reqTableRead p body s).1 := by
  unfold reqTableRead
  split
  · split
    · exact .refl s
    split <;> exact .refl s
  · exact .refl s

/-! ### Requests and their slots (R208, R209) -/

theorem serve_lawful (r : Request) (p : Port) (body : List Byte) (s : State) : Lawful s (r.serve p body s).1 := by
  cases r with
  | statusRead => exact reqStatusRead_lawful p body s
  | noticeClear => exact reqNoticeClear_lawful p body s
  | noticeEnable => exact reqNoticeEnable_lawful p body s
  | countsRead => exact reqCountsRead_lawful p body s
  | emergencyStop => exact reqEmergencyStop_lawful p body s
  | tableBegin => exact reqTableBegin_lawful p body s
  | tableEntries => exact reqTableEntries_lawful p body s
  | tableCommit => exact reqTableCommit_lawful p body s
  | tableRead => exact reqTableRead_lawful p body s
  | openLine => exact reqOpenLine_lawful p body s
  | closeLine => exact reqCloseLine_lawful p body s
  | modeSet => exact reqModeSet_lawful p body s
  | run => exact reqRun_lawful p body s
  | hold => exact reqHold_lawful p body s
  | resume => exact reqResume_lawful p body s
  | tripReset => exact reqTripReset_lawful p body s
  | recoveryMove => exact reqRecoveryMove_lawful p body s
  | brakeTest => exact reqBrakeTest_lawful p body s
  | railTest => exact reqRailTest_lawful p body s
  | departConsent => exact reqDepartConsent_lawful p body s
  | doorRelease => exact reqDoorRelease_lawful p body s
  | doorClose => exact reqDoorClose_lawful p body s
  | boardingOpen => exact reqBoardingOpen_lawful p body s
  | boardingClose => exact reqBoardingClose_lawful p body s
  | admission => exact reqAdmit_lawful p body s
  | passage => exact reqPassage_lawful p body s
  | stationClear => exact reqStationClear_lawful p body s
  | weather => exact reqWeather_lawful p body s

theorem takeRequest_lawful (p : Port) (kind : Byte) (body : List Byte) (s : State) : Lawful s (takeRequest p kind body s).1 := by
  unfold takeRequest
  split
  · dsimp only
    split
    · split
      · exact serve_lawful _ p body s
      · exact (serve_lawful _ p body s).settled s
    · exact .refl s
  · exact .refl s

theorem execute_lawful (p : Port) (f : Frame) (s : State) : Lawful s (execute p f s) :=
  (takeRequest_lawful p f.kind f.body s).trans (setPort_mild _ _ _).lawful

theorem deliver_lawful (p : Port) (kind : Byte) (body : List Byte) (s : State) : Lawful s (deliver p kind body s) := by
  unfold deliver
  split
  · exact execute_lawful p _ s
  · exact (setPort_mild _ _ s).lawful
  · exact (linkError_mild _ _ s).lawful

theorem finishAnswer_lawful (p : Port) (s : State) : Lawful s (finishAnswer p s) := by
  unfold finishAnswer
  dsimp only
  split
  · exact (setPort_mild _ _ s).lawful.trans (execute_lawful p _ _)
  · exact (setPort_mild _ _ s).lawful

theorem discard_lawful (p : Port) (e : LinkError) (s : State) : Lawful s (discard p e s) :=
  (setPort_mild _ _ s).lawful.trans (linkError_mild _ _ _).lawful

theorem goodCharacter_lawful (p : Port) (b : Byte) (s : State) : Lawful s (goodCharacter p b s) := by
  unfold goodCharacter
  dsimp only
  split
  · split
    · exact (setPort_mild _ _ s).lawful
    · exact .refl s
  · exact (setPort_mild _ _ s).lawful
  · split
    · exact discard_lawful _ _ s
    · exact (setPort_mild _ _ s).lawful
  · exact (setPort_mild _ _ s).lawful
  · split
    · exact (setPort_mild _ _ s).lawful.trans (deliver_lawful _ _ _ _)
    · exact discard_lawful _ _ s

theorem takeCharacter_lawful (p : Port) (samples : List (BitVec 3)) (s : State) : Lawful s (takeCharacter p samples s) := by
  unfold takeCharacter
  split
  · exact (setPort_mild _ _ s).lawful
  · exact (setPort_mild _ _ s).lawful.trans (discard_lawful _ _ _)
  · exact discard_lawful _ _ s
  · exact goodCharacter_lawful _ _ s

end Sys2Proof.Machine
end

section
/-! PROOFS. The laws under the commands that are no requests. -/

namespace Sys2Proof.Machine

/-- An outcome goes on, to a state with a property. -/
def Goes (P : State → Prop) (o : Host.Outcome State Fault Refusal) : Prop := ∃ t, o = .next t ∧ P t

theorem Goes.next {P : State → Prop} {t : State} (h : P t) : Goes P (.next t) := ⟨t, rfl, h⟩

theorem Goes.of_eq {P : State → Prop} {o : Host.Outcome State Fault Refusal} {t : State} (h : Goes P o) (e : o = .next t) : P t := by
  obtain ⟨u, hu, hp⟩ := h
  rw [hu] at e
  cases e
  exact hp

theorem Goes.ite {P : State → Prop} {c : Prop} [Decidable c] {o o' : Host.Outcome State Fault Refusal} (h : c → Goes P o)
    (h' : ¬ c → Goes P o') : Goes P (if c then o else o') := by
  split
  · exact h ‹_›
  · exact h' ‹_›

/-- A command that takes its event on a condition and does nothing otherwise. -/
theorem Goes.when {s t : State} {c : Prop} [Decidable c] (h : c → Lawful s t) : Goes (Lawful s) (if c then .next t else .next s) :=
  .ite (fun hc => .next (h hc)) fun _ => .next (.refl s)

/-- A command that does nothing on a condition and takes its event otherwise. -/
theorem Goes.unless {s t : State} {c : Prop} [Decidable c] (h : Lawful s t) : Goes (Lawful s) (if c then .next s else .next t) :=
  .ite (fun _ => .next (.refl s)) fun _ => .next h

/-! ### The station links -/

theorem execStationCharacterReceived_lawful (p : Port) (samples : List (BitVec 3)) (s : State) :
    Goes (Lawful s) (execStationCharacterReceived p samples s) := .unless (takeCharacter_lawful p samples s)

theorem execStartEdge_lawful (p : Port) (s : State) : Goes (Lawful s) (execStartEdge p s) := .next (setPort_mild _ _ s).lawful

theorem execGapLimitExpiry_lawful (p : Port) (s : State) : Goes (Lawful s) (execGapLimitExpiry p s) := .when fun _ => discard_lawful p _ s

theorem execAnswerSent_lawful (p : Port) (s : State) : Goes (Lawful s) (execAnswerSent p s) := by
  unfold execAnswerSent
  split
  · exact .next (finishAnswer_lawful p s)
  · exact .next (.refl s)

/-! ### The rope and the marker inputs -/

theorem measured_lawful (ch : Chan) (l : PhaseLine) (n : Nat) (s : State) :
    Lawful { s with now := n } (if ch = .ch1 then clearFlag (measureStep ch l n s) else measureStep ch l n s) := by
  cases ch
  · exact clearFlag_measureStep_lawful l n s
  · exact measureStep_ch2_lawful l n s

theorem execCountStep_lawful (ch : Chan) (l : PhaseLine) (n : Nat) (s : State) :
    Goes (Lawful { s with now := max s.now n }) (execCountStep ch l n s) := by
  refine .next (((Lawful.thenIf ?_ fun _ => judgeStep1_lawful _ _).trans (profileStopAfter_lawful _ _)).settled s)
  exact (measured_lawful ch l _ s).trans (causeIf_lawful _ _ _)

theorem execQuadratureError_lawful (ch : Chan) (s : State) : Goes (Lawful s) (execQuadratureError ch s) := by
  refine .next ((Lawful.trans ?_ ((dwellAfter_lawful _ _).trans (profileStopAfter_lawful _ _))).settled s)
  exact setChan_lawful ch _ s rfl

theorem execStandstillGapExpiry_lawful (ch : Chan) (s : State) : Goes (Lawful s) (execStandstillGapExpiry ch s) := by
  refine .when fun _ => ((Lawful.trans ?_ (dwellAfter_lawful _ _)).trans (profileStopAfter_lawful _ _)).settled s
  exact setChan_lawful ch _ s rfl

theorem execStandstillDwellExpiry_lawful (s : State) : Goes (Lawful s) (execStandstillDwellExpiry s) :=
  .when fun _ => ((((standstill_lawful s).trans (clearMarkedOrders_lawful _)).trans (armRollaway_mild _).lawful).trans
    (judgeStandstill_lawful _)).settled s

theorem execMarkerEdge_lawful (m : MarkerInput) (v : Bool) (s : State) : Goes (Lawful s) (execMarkerEdge m v s) :=
  .ite (fun _ => .next (.refl s)) fun _ =>
    .ite (fun _ => .next (((setLevel_lawful m v s).trans (activeEdge_lawful m _)).settled s)) fun _ =>
      .next ((setLevel_lawful m v s).settled s)

/-! ### The line, the trip and the supervisor -/

theorem execStalenessLimitExpiry_lawful (s : State) : Goes (Lawful s) (execStalenessLimitExpiry s) :=
  .when fun _ => (withTrip_mild _ s (by simp)).lawful.trans (raiseAll_mild _ _).lawful

theorem execDispatchTimeout_lawful (s : State) : Goes (Lawful s) (execDispatchTimeout s) :=
  .when fun h => ((endDispatch_lawful _ s h.2).trans (raiseAll_mild _ _).lawful).settled s

theorem execProfileStep_lawful (s : State) : Goes (Lawful s) (execProfileStep s) := by
  unfold execProfileStep
  split
  next h _ => exact .next (((profileStepWith_lawful _ s h).trans (profileStop_lawful _)).settled s)
  next => exact .next (.refl s)

theorem execSupervisionSample_lawful (s : State) : Goes (Lawful s) (execSupervisionSample s) := by
  unfold execSupervisionSample
  split
  · exact .next ((sampleWith_lawful _ s).settled s)
  · exact .next ((sampleBlind_lawful s).settled s)

theorem takeFeedback_lawful (br : Brake) (v : Bool) (s : State) : Lawful s (takeFeedback br v s) := by
  cases br
  · exact (withSup_mild _ s (by simp)).lawful
  · exact (withSup_mild _ s (by simp)).lawful

theorem stopFeedbackLimit_lawful (br : Brake) (s : State) : Lawful s (stopFeedbackLimit br s) := by
  cases br
  · exact (withSup_mild _ s (by simp)).lawful
  · exact (withSup_mild _ s (by simp)).lawful

theorem execBrakeFeedbackChange_lawful (br : Brake) (v : Bool) (s : State) : Goes (Lawful s) (execBrakeFeedbackChange br v s) :=
  .unless (((takeFeedback_lawful br v s).thenIf fun _ => withdrawAll_lawful _).settled s)

theorem execBrakeFeedbackLimitExpiry_lawful (br : Brake) (s : State) : Goes (Lawful s) (execBrakeFeedbackLimitExpiry br s) :=
  .when fun _ => ((stopFeedbackLimit_lawful br s).trans (takeCause_lawful _ _ _)).settled s

/-! ### The tests -/

theorem execEbTestWindowExpiry_lawful (s : State) : Goes (Lawful s) (execEbTestWindowExpiry s) := by
  unfold execEbTestWindowExpiry
  split
  next htest =>
    refine .next (Lawful.settled (decideTest_drop_lawful htest ((setDrv_off_mild _).lawful.trans (setSb_off_mild _).lawful) ?_ ?_ ?_) s)
    all_goals simp [setDrv_off_trip_eq, -setDrv_off_trip]
  next => exact .next (.refl s)

theorem linesDown_lawful (s : State) : Lawful s (forceZero (setSb false (setDrv false s))) :=
  ((setDrv_off_mild s).lawful.trans (setSb_off_mild _).lawful).trans (forceZero_mild _).lawful

theorem execCreepLimitExpiry_lawful (s : State) : Goes (Lawful s) (execCreepLimitExpiry s) := by
  unfold execCreepLimitExpiry
  split
  next htest =>
    refine .next (((linesDown_lawful s).trans (abortToEnding_lawful _ .creep _ ?_ ?_)).settled s)
    · simpa using htest
    · simp
  next => exact .next (.refl s)

theorem execBrakeLimitExpiry_lawful (s : State) : Goes (Lawful s) (execBrakeLimitExpiry s) := by
  unfold execBrakeLimitExpiry
  split
  next htest =>
    exact .next (((decideTest_lawful _ .braking _ _ s htest (by simp)).trans (setSb_off_mild _).lawful).settled s)
  next => exact .next (.refl s)

theorem execObligationMinute_lawful (s : State) : Goes (Lawful s) (execObligationMinute s) :=
  .next (Lawful.settled (((withSched_mild _ s (by simp)).lawful.thenIf fun _ => (raiseAll_mild _ _).lawful).thenIf fun _ => restrict_lawful _) s)

theorem execPassageWindowExpiry_lawful (b : Berth) (s : State) : Goes (Lawful s) (execPassageWindowExpiry b s) :=
  .unless ((dropOldest_lawful b s).settled s)

/-! ### The track line -/

theorem execSelectionSent_lawful (s : State) : Goes (Lawful s) (execSelectionSent s) := .when fun _ => (setTrack_mild _ s (by simp)).lawful
theorem execCommandBlockSent_lawful (s : State) : Goes (Lawful s) (execCommandBlockSent s) := .when fun _ => (setTrack_mild _ s (by simp)).lawful
theorem execAcceptLimitExpiry_lawful (s : State) : Goes (Lawful s) (execAcceptLimitExpiry s) := .when fun _ => missEvent_lawful s
theorem execAnswerLimitExpiry_lawful (s : State) : Goes (Lawful s) (execAnswerLimitExpiry s) := .when fun _ => missEvent_lawful s

theorem missedAnswer_lawful (s : State) : Lawful s (missEvent (unquiet s)) := (unquiet_lawful s).trans (missEvent_lawful _)

theorem execInvalidAnswerReceived_lawful (s : State) : Goes (Lawful s) (execInvalidAnswerReceived s) :=
  .ite (fun _ => .next (missedAnswer_lawful s)) fun _ => .next (strayDrive_lawful s)

theorem answered_lawful {s t : State} (h : Lawful s t) : Lawful s (tryTurn (endTurn t)) :=
  (h.trans (endTurn_lawful t)).trans (tryTurn_lawful _)

theorem execAbilityRecordReceived_lawful (l : List LineChar) (s : State) : Goes (Lawful s) (execAbilityRecordReceived l s) := by
  unfold execAbilityRecordReceived
  split
  · split
    · exact .next ((answered_lawful ((unquiet_lawful s).trans (takeAbility_lawful _ _ _))).settled s)
    · exact .next (missedAnswer_lawful s)
  · exact .next (strayDrive_lawful s)

theorem execStatusBlockReceived_lawful (l : List LineChar) (s : State) : Goes (Lawful s) (execStatusBlockReceived l s) := by
  unfold execStatusBlockReceived
  split
  · split
    · exact .next ((answered_lawful ((unquiet_lawful s).trans (takeStatus_lawful _ _ _))).trans (settleWith_lawful _ _))
    · exact .next (missedAnswer_lawful s)
  · exact .next (missedAnswer_lawful s)
  · exact .next (strayDrive_lawful s)

theorem execPollTimerExpiry_lawful (s : State) : Goes (Lawful s) (execPollTimerExpiry s) := by
  unfold execPollTimerExpiry
  split
  · exact .next ((setTrack_mild _ s (by simp)).lawful.trans (tryTurn_lawful _))
  · exact .next (tryTurn_lawful s)

theorem execCallWindowExpiry_lawful (x : Car) (s : State) : Goes (Lawful s) (execCallWindowExpiry x s) :=
  .next (setCar_same_mild x _ s (by simp)).lawful

theorem execFreeIntervalReached_lawful (s : State) : Goes (Lawful s) (execFreeIntervalReached s) :=
  .unless ((setTrack_mild _ s (by simp)).lawful.trans (tryTurn_lawful _))

theorem execTrackDriveStart_lawful (s : State) : Goes (Lawful s) (execTrackDriveStart s) := .unless (setTrack_mild _ s (by simp)).lawful
theorem execTrackDriveEnd_lawful (s : State) : Goes (Lawful s) (execTrackDriveEnd s) := .next (setTrack_mild _ s (by simp)).lawful

theorem execDriveLimitExpiry_lawful (s : State) : Goes (Lawful s) (execDriveLimitExpiry s) :=
  .ite (fun _ => .next (.refl s)) fun _ =>
    .ite (fun _ => .next (setTrack_mild _ s (by simp)).lawful) fun _ => .next (((setTrack_mild _ s (by simp)).lawful.trans (jam_lawful _)).settled s)

theorem execSilenceLimitExpiry_lawful (x : Car) (s : State) : Goes (Lawful s) (execSilenceLimitExpiry x s) :=
  .when fun _ => (loseCar_lawful x s).settled s

theorem execFreshnessLimitExpiry_lawful (x : Car) (s : State) : Goes (Lawful s) (execFreshnessLimitExpiry x s) :=
  .next ((setCar_same_mild x _ s (by simp)).lawful.settled s)

end Sys2Proof.Machine
end

section
/-! PROOFS. The laws under the two resets and under every step (O54 to O60), and the step itself (O1). -/

namespace Sys2Proof.Machine

/-! ### What a reset leaves -/

/-- What both resets leave that the laws are about: a CLOSED line with nothing in hand, and no admission pending. -/
structure AtRest (s : State) : Prop where
  causes : s.sup.causes = []
  drive : s.sup.drvEn = false
  line : s.trip.line = .closed
  stepping : s.trip.stepping = false
  slot : s.trip.slot = none
  record : s.trip.record = none
  move : s.trip.moveRelease = false
  test : s.sched.test = none
  grants : s.anyGrant = false
  berths : ∀ b, (s.board.berths.get b).state = .closed ∧ (s.board.berths.get b).pending = []

theorem AtRest.causeLaw {s : State} (h : AtRest s) : CauseLaw s := by
  simp [CauseLaw, h.causes, h.line, h.stepping]

theorem AtRest.slotLaw {s : State} (h : AtRest s) : SlotLaw s := by simp [SlotLaw, h.slot, h.line]

theorem AtRest.grantLaw {s : State} (h : AtRest s) (hnear : s.rope.flag = true → distance s.coord s.rope.sRef ≤ 5) : GrantLaw s :=
  ⟨hnear, by simp [h.grants]⟩

theorem AtRest.pendingLaw {s : State} (h : AtRest s) : PendingLaw s := by
  refine ⟨fun b _ => by simp [BerthLaw, h.berths b], ?_⟩
  have h0 := (h.berths .b0).2
  have h1 := (h.berths .b1).2
  have h2 := (h.berths .b2).2
  have h3 := (h.berths .b3).2
  simp only [PerBerth.get] at h0 h1 h2 h3
  simp [Board.pendingGates, h0, h1, h2, h3]

theorem AtRest.driveLaw {s : State} (h : AtRest s) : DriveLaw s := .of_down h.drive (by simp [h.move])

theorem AtRest.targetLaw {s : State} (h : AtRest s) : TargetLaw s := by
  simp [TargetLaw, h.record, h.slot, h.line, LineState.isRail]

theorem AtRest.testLaw {s : State} (h : AtRest s) : TestLaw s := by simp [TestLaw, h.line, h.test]

theorem AtRest.lawful {s t : State} (h : AtRest t) (htime : t.now = s.now ∧ t.pending = s.pending) (hgrant : GrantLaw s → GrantLaw t) : Lawful s t where
  time := htime
  cause _ := h.causeLaw
  slot _ := h.slotLaw
  grant := hgrant
  pending _ := h.pendingLaw
  target _ := h.targetLaw
  test _ := h.testLaw
  drive _ _ := h.driveLaw

/-! ### Power-on -/

theorem powerOn_atRest (s : State) : AtRest (powerOn s) := by
  constructor
  case berths => intro b; cases b <;> exact ⟨rfl, rfl⟩
  all_goals rfl

theorem powerOn_lawful (s : State) : Lawful s (powerOn s) :=
  (powerOn_atRest s).lawful ⟨rfl, rfl⟩ fun _ => (powerOn_atRest s).grantLaw fun h => by cases h

theorem reset_atRest : AtRest State.reset := by
  constructor
  case berths => intro b; cases b <;> exact ⟨rfl, rfl⟩
  all_goals rfl

/-! ### The line reset -/

theorem resetTest_fields (s : State) : (resetTest s).sup = s.sup ∧ (resetTest s).trip = s.trip ∧ (resetTest s).rope = s.rope ∧
    (resetTest s).tables = s.tables ∧ (resetTest s).board = s.board ∧ (resetTest s).doors = s.doors ∧ (resetTest s).sched.test = none ∧
    (resetTest s).now = s.now ∧ (resetTest s).pending = s.pending := by
  unfold resetTest
  split <;> simp [writeTest, stopTestLimits]

theorem resetOrders_fields (s : State) : (resetOrders s).sup.causes = s.sup.causes ∧ (resetOrders s).sup.drvEn = s.sup.drvEn ∧
    (resetOrders s).rope = s.rope ∧ (resetOrders s).tables = s.tables ∧ (resetOrders s).now = s.now ∧ (resetOrders s).pending = s.pending := by
  unfold resetOrders
  split <;> simp

theorem resetSupervisor_fields (s : State) : (resetSupervisor s).sup.causes = [] ∧ (resetSupervisor s).sup.drvEn = false ∧
    (resetSupervisor s).rope = s.rope ∧ (resetSupervisor s).tables = s.tables ∧
    (resetSupervisor s).now = s.now ∧ (resetSupervisor s).pending = s.pending := by
  unfold resetSupervisor
  dsimp only
  simp [resetOrders_fields]

/-- A line reset up to the controllers of the line itself. -/
def lineClosed (s : State) : State := armRollaway (resetTripController (resetTest (resetSupervisor s)))

theorem lineClosed_fields (s : State) : (lineClosed s).sup.causes = [] ∧ (lineClosed s).sup.drvEn = false ∧
    (lineClosed s).rope = s.rope ∧ (lineClosed s).tables = s.tables ∧ (lineClosed s).sched.test = none ∧
    (lineClosed s).trip = (resetTripController (resetTest (resetSupervisor s))).trip ∧
    (lineClosed s).now = s.now ∧ (lineClosed s).pending = s.pending := by
  simp [lineClosed, resetTripController, resetTest_fields, resetSupervisor_fields]

theorem lineReset_atRest (s : State) : AtRest (lineReset s) := by
  obtain ⟨hcauses, hdrv, -, -, htest, htrip, -⟩ := lineClosed_fields s
  constructor
  case causes => exact hcauses
  case drive => exact hdrv
  case test => exact htest
  case grants =>
    have hcar (c : CarDoors) : c.lineReset.anyGrant = false := dropBoth_anyGrant c
    simp [State.anyGrant, lineReset, PerCar.map, hcar]
  case berths => intro b; cases b <;> exact ⟨rfl, rfl⟩
  all_goals exact (congrArg _ htrip).trans rfl

theorem lineReset_lawful (s : State) : Lawful s (lineReset s) := by
  obtain ⟨-, -, hrope, htables, -, -, htime⟩ := lineClosed_fields s
  have hr : (lineReset s).rope = { s.rope with certainty := (lineReset s).rope.certainty } :=
    congrArg (fun r : Rope => { r with certainty := (lineReset s).rope.certainty }) hrope
  have hh : (lineReset s).tables.header = s.tables.header := by rw [← htables]; rfl
  refine (lineReset_atRest s).lawful htime fun h => (lineReset_atRest s).grantLaw ?_
  rw [State.coord_congr hh (by rw [hr]) (by rw [hr]), hr]
  exact h.1

/-! ### Every command and every step -/

theorem deliver_goes (p : Port) (kind : Byte) (body : List Byte) (s : State) : Goes (Lawful s) (.next (deliver p kind body s)) :=
  .next (deliver_lawful p kind body s)

/-- The part's time at a command: a count step carries one, which the time then reads at least (log entry 15). -/
def commandTime (c : Instr) (s : State) : Nat :=
  match c with
  | .countStep _ _ n => max s.now n
  | _ => s.now

/-- Every command goes on and keeps the laws, its time and the queue. -/
theorem exec_lawful (c : Instr) (s : State) : Goes (Lawful { s with now := commandTime c s }) (exec c s) := by
  cases c
  case powerOn => exact .next (powerOn_lawful s)
  case lineReset => exact .next (lineReset_lawful s)
  case stationCharacterReceived p samples => exact execStationCharacterReceived_lawful p samples s
  case gapLimitExpiry p => exact execGapLimitExpiry_lawful p s
  case answerSent p => exact execAnswerSent_lawful p s
  case startEdge p => exact execStartEdge_lawful p s
  case stalenessLimitExpiry => exact execStalenessLimitExpiry_lawful s
  case countStep ch l n => exact execCountStep_lawful ch l n s
  case quadratureError ch => exact execQuadratureError_lawful ch s
  case standstillGapExpiry ch => exact execStandstillGapExpiry_lawful ch s
  case standstillDwellExpiry => exact execStandstillDwellExpiry_lawful s
  case markerEdge m v => exact execMarkerEdge_lawful m v s
  case supervisionSample => exact execSupervisionSample_lawful s
  case profileStep => exact execProfileStep_lawful s
  case brakeFeedbackChange br v => exact execBrakeFeedbackChange_lawful br v s
  case brakeFeedbackLimitExpiry br => exact execBrakeFeedbackLimitExpiry_lawful br s
  case dispatchTimeout => exact execDispatchTimeout_lawful s
  case ebTestWindowExpiry => exact execEbTestWindowExpiry_lawful s
  case creepLimitExpiry => exact execCreepLimitExpiry_lawful s
  case brakeLimitExpiry => exact execBrakeLimitExpiry_lawful s
  case obligationMinute => exact execObligationMinute_lawful s
  case passageWindowExpiry b => exact execPassageWindowExpiry_lawful b s
  case pollTimerExpiry => exact execPollTimerExpiry_lawful s
  case freeIntervalReached => exact execFreeIntervalReached_lawful s
  case selectionSent => exact execSelectionSent_lawful s
  case acceptReceived c => exact .next (oneCharacter_lawful c s)
  case commandBlockSent => exact execCommandBlockSent_lawful s
  case acceptLimitExpiry => exact execAcceptLimitExpiry_lawful s
  case answerLimitExpiry => exact execAnswerLimitExpiry_lawful s
  case invalidAnswerReceived => exact execInvalidAnswerReceived_lawful s
  case statusBlockReceived l => exact execStatusBlockReceived_lawful l s
  case abilityRecordReceived l => exact execAbilityRecordReceived_lawful l s
  case callReceived c => exact .next (oneCharacter_lawful c s)
  case garbledCall => exact .next (strayDrive_lawful s)
  case callWindowExpiry x => exact execCallWindowExpiry_lawful x s
  case trackDriveStart => exact execTrackDriveStart_lawful s
  case trackDriveEnd => exact execTrackDriveEnd_lawful s
  case driveLimitExpiry => exact execDriveLimitExpiry_lawful s
  case silenceLimitExpiry x => exact execSilenceLimitExpiry_lawful x s
  case freshnessLimitExpiry x => exact execFreshnessLimitExpiry_lawful x s
  all_goals exact deliver_goes _ _ _ s

/-- Every step keeps the laws of the state at its time and with the queue's rest; no law speaks of either. -/
theorem step_lawful {s t : State} (h : step s = .next t) : ∃ n l, Lawful { s with now := n, pending := l } t := by
  unfold step at h
  split at h
  next c rest _ => exact ⟨_, rest, (exec_lawful c { s with pending := rest }).of_eq h⟩
  next =>
    cases h
    exact ⟨s.now + 1, s.pending, .refl _⟩

/-! ### The statements -/

/-- Settles O55: no operation of the machine breaks the law of the cause list. -/
theorem stepKeepsTheCauseLaw : Obligations.StepKeepsTheCauseLaw := fun _ _ hs h =>
  have ⟨_, _, hl⟩ := step_lawful h
  hl.cause hs

/-- Settles O56: only the entry to HELD fills the slot, and every way out of HELD empties it. -/
theorem stepKeepsTheSlotLaw : Obligations.StepKeepsTheSlotLaw := fun _ _ hs h =>
  have ⟨_, _, hl⟩ := step_lawful h
  hl.slot hs

/-- Settles O57: a grant is made in PARKED with the flag set, and what leaves PARKED or clears the flag withdraws every grant first. -/
theorem stepKeepsTheGrantLaw : Obligations.StepKeepsTheGrantLaw := fun _ _ hs h =>
  have ⟨_, _, hl⟩ := step_lawful h
  hl.grant hs

/-- Settles O58: a record is appended in OPEN for a gate that holds none, and a berth moves on with its list. -/
theorem stepKeepsThePendingLaw : Obligations.StepKeepsThePendingLaw := fun _ _ hs h =>
  have ⟨_, _, hl⟩ := step_lawful h
  hl.pending hs

/-- Settles O59: DRV_EN is energised with both cars SECURE, and a link lost or a leaf unlocked while it is trips the line. -/
theorem stepKeepsTheDriveLaw : Obligations.StepKeepsTheDriveLaw := fun _ _ hc hs h =>
  have ⟨_, _, hl⟩ := step_lawful h
  hl.drive hc hs

/-- Settles O60: targets are taken as mirror pairs, and a test is taken in hand and let go with its TESTING state. -/
theorem stepKeepsTheTargetAndTestLaws : Obligations.StepKeepsTheTargetAndTestLaws :=
  ⟨fun _ _ hs h => have ⟨_, _, hl⟩ := step_lawful h; hl.target hs, fun _ _ hs h => have ⟨_, _, hl⟩ := step_lawful h; hl.test hs⟩

/-- Settles O54: the state after reset is at rest. -/
theorem resetMeetsTheLaws : Obligations.ResetMeetsTheLaws :=
  have h := reset_atRest
  ⟨h.causeLaw, h.slotLaw, h.grantLaw nofun, h.pendingLaw, h.driveLaw, h.targetLaw, h.testLaw⟩

/-- Settles O1. -/
theorem stepTakesTheFrontCommand : Obligations.StepTakesTheFrontCommand := by
  refine ⟨fun _ _ => rfl, fun s hs => ?_⟩
  simp [step, idle, hs]

/-- Settles O2: every operation keeps the time and the queue, and a count step starts from the time it carries. -/
theorem everyCommandGoesOn : Obligations.EveryCommandGoesOn := by
  intro c s
  obtain ⟨t, ht, hl⟩ := exec_lawful c s
  obtain ⟨hnow, hpending⟩ := hl.time
  refine ⟨t, ht, hpending, ?_, fun hc => ?_⟩
  · rw [hnow]
    cases c
    case countStep => exact Nat.le_max_left _ _
    all_goals exact Nat.le_refl _
  · rw [hnow]
    cases c
    case countStep => exact absurd rfl (hc _ _ _)
    all_goals rfl

end Sys2Proof.Machine
end

section
/-! PROOFS. What the steps due after an event may change (O3). -/

namespace Sys2Proof.Machine

/-! ### The frame of the sequences -/

/-- The codes of the notices that a sequence may raise: LINE_STATE, BERTHED, TEST_DONE and POSITION. -/
def sequenceNotice (k : Nat) : Bool := k == 0 || k == 1 || k == 3 || k == 15

/-- What no sequence changes between `s` and `t`, block by block. -/
structure SeqFrame (s t : State) : Prop where
  tables : t.tables = s.tables
  track : t.track = s.track
  now : t.now = s.now
  pending : t.pending = s.pending
  rope : t.rope = { s.rope with certainty := t.rope.certainty }
  trip : t.trip = { s.trip with
    line := t.trip.line, record := t.trip.record, stage := t.trip.stage, dispatchLimit := t.trip.dispatchLimit, stop := t.trip.stop
    holdCause := t.trip.holdCause, slot := t.trip.slot, offsets := t.trip.offsets, forming := t.trip.forming, held := t.trip.held
    stepping := t.trip.stepping, distances := t.trip.distances, resumeRelease := t.trip.resumeRelease, moveRelease := t.trip.moveRelease
    parkedBerth := t.trip.parkedBerth, consentLower := t.trip.consentLower, consentUpper := t.trip.consentUpper }
  record : (t.trip.record.map fun r => (r.number, r.kind, r.start, r.halt)) = s.trip.record.map fun r => (r.number, r.kind, r.start, r.halt)
  setpoints : (t.trip.held, t.trip.forming) = (s.trip.held, s.trip.forming) ∨ (t.trip.held, t.trip.forming) = (0, 0)
  distances : t.trip.distances = s.trip.distances ∨ t.trip.distances = false
  sup : t.sup = { s.sup with
    ebRel := t.sup.ebRel, sbRel := t.sup.sbRel, drvEn := t.sup.drvEn, ebLimit := t.sup.ebLimit, sbLimit := t.sup.sbLimit
    rollaway := t.sup.rollaway, dirWatch := t.sup.dirWatch, railOrder := t.sup.railOrder, orderClears := t.sup.orderClears }
  orders : ∀ x, t.sup.railOrder.get x = s.sup.railOrder.get x ∨ s.sup.railOrder.get x = .test ∧ t.sup.railOrder.get x = .none
  sched : t.sched = { s.sched with
    test := t.sched.test, creepStart := t.sched.creepStart, windowLimit := t.sched.windowLimit, creepLimit := t.sched.creepLimit
    brakeLimit := t.sched.brakeLimit, lastTest := t.sched.lastTest }
  cars : t.board.cars = s.board.cars
  berths : ∀ k, t.board.berths.get k = { s.board.berths.get k with state := (t.board.berths.get k).state }
  leaves : ∀ x, (t.doors.get x).leaves = (s.doors.get x).leaves
  links : ∀ p, t.links.get p = { s.links.get p with flags := (t.links.get p).flags } ∧
    (s.links.get p).flags &&& (t.links.get p).flags = (s.links.get p).flags
  quiet : ∀ p k, sequenceNotice k = false → (t.links.get p).flags.getLsbD k = (s.links.get p).flags.getLsbD k
  shut : ∀ k, (t.board.berths.get k).state = (s.board.berths.get k).state ∨ (t.board.berths.get k).state = .closed

theorem SeqFrame.refl (s : State) : SeqFrame s s where
  tables := rfl
  track := rfl
  now := rfl
  pending := rfl
  rope := rfl
  trip := rfl
  record := rfl
  setpoints := .inl rfl
  distances := .inl rfl
  sup := rfl
  orders _ := .inl rfl
  sched := rfl
  cars := rfl
  berths _ := rfl
  leaves _ := rfl
  links _ := ⟨rfl, BitVec.and_self⟩
  quiet _ _ _ := rfl
  shut _ := .inl rfl

theorem SeqFrame.trans {s t u : State} (h : SeqFrame s t) (k : SeqFrame t u) : SeqFrame s u where
  tables := k.tables.trans h.tables
  track := k.track.trans h.track
  now := k.now.trans h.now
  pending := k.pending.trans h.pending
  rope := k.rope.trans (by rw [h.rope])
  trip := k.trip.trans (by rw [h.trip])
  record := k.record.trans h.record
  setpoints := k.setpoints.elim (fun e => e ▸ h.setpoints) .inr
  distances := k.distances.elim (fun e => e ▸ h.distances) .inr
  sup := k.sup.trans (by rw [h.sup])
  orders x := by
    obtain e | ⟨e, e'⟩ := k.orders x
    · rw [e]; exact h.orders x
    · obtain f | ⟨f, f'⟩ := h.orders x
      · exact .inr ⟨f ▸ e, e'⟩
      · simp [f'] at e
  sched := k.sched.trans (by rw [h.sched])
  cars := k.cars.trans h.cars
  berths b := (k.berths b).trans (by rw [h.berths b])
  leaves x := (k.leaves x).trans (h.leaves x)
  links p := by
    obtain ⟨h1, h2⟩ := h.links p
    obtain ⟨k1, k2⟩ := k.links p
    refine ⟨k1.trans (by rw [h1]), ?_⟩
    rw [← h2, BitVec.and_assoc, k2]
  quiet p i hi := (k.quiet p i hi).trans (h.quiet p i hi)
  shut b := (k.shut b).elim (fun e => (h.shut b).imp e.trans e.trans) .inr

theorem SeqFrame.thenIf {s t u : State} {c : Prop} [Decidable c] (h : SeqFrame s t) (hu : c → SeqFrame t u) :
    SeqFrame s (if c then u else t) := by
  split
  · exact h.trans (hu ‹_›)
  · exact h

/-! ### A change of one block -/

theorem seqFrame_trip (v : Trip) (s : State)
    (h : v = { s.trip with
      line := v.line, record := v.record, stage := v.stage, dispatchLimit := v.dispatchLimit, stop := v.stop, holdCause := v.holdCause
      slot := v.slot, offsets := v.offsets, forming := v.forming, held := v.held, stepping := v.stepping, distances := v.distances
      resumeRelease := v.resumeRelease, moveRelease := v.moveRelease, parkedBerth := v.parkedBerth, consentLower := v.consentLower
      consentUpper := v.consentUpper })
    (record : (v.record.map fun r => (r.number, r.kind, r.start, r.halt)) = s.trip.record.map fun r => (r.number, r.kind, r.start, r.halt))
    (setpoints : (v.held, v.forming) = (s.trip.held, s.trip.forming) ∨ (v.held, v.forming) = (0, 0))
    (distances : v.distances = s.trip.distances ∨ v.distances = false) : SeqFrame s { s with trip := v } :=
  { SeqFrame.refl s with trip := h, record := record, setpoints := setpoints, distances := distances }

theorem seqFrame_sup (v : Sup) (s : State)
    (h : v = { s.sup with
      ebRel := v.ebRel, sbRel := v.sbRel, drvEn := v.drvEn, ebLimit := v.ebLimit, sbLimit := v.sbLimit, rollaway := v.rollaway
      dirWatch := v.dirWatch, railOrder := v.railOrder, orderClears := v.orderClears })
    (orders : ∀ x, v.railOrder.get x = s.sup.railOrder.get x ∨ s.sup.railOrder.get x = .test ∧ v.railOrder.get x = .none) :
    SeqFrame s { s with sup := v } :=
  { SeqFrame.refl s with sup := h, orders := orders }

theorem seqFrame_sched (v : Sched) (s : State)
    (h : v = { s.sched with
      test := v.test, creepStart := v.creepStart, windowLimit := v.windowLimit, creepLimit := v.creepLimit, brakeLimit := v.brakeLimit
      lastTest := v.lastTest }) : SeqFrame s { s with sched := v } :=
  { SeqFrame.refl s with sched := h }

theorem seqFrame_doors (v : PerCar CarDoors) (s : State) (h : ∀ x, (v.get x).leaves = (s.doors.get x).leaves) :
    SeqFrame s { s with doors := v } :=
  { SeqFrame.refl s with leaves := h }

theorem notice_bit_other {n : Notice} {k : Nat} (h : k ≠ n.code) : n.bit.getLsbD k = false := by
  rw [Notice.bit, BitVec.getLsbD_shiftLeft, BitVec.getLsbD_one]
  have : ¬k < n.code → k - n.code ≠ 0 := by omega
  simp
  omega

theorem raiseAll_seqFrame (n : Notice) (s : State) (hn : sequenceNotice n.code = true) : SeqFrame s (raiseAll n s) :=
  { SeqFrame.refl s with
    links := fun p => by
      rw [raiseAll_links, PerPort.get_map, raise_flags]
      refine ⟨rfl, ?_⟩
      ext i
      simp
      tauto
    quiet := fun p k hk => by
      have hne : k ≠ n.code := fun e => by simp [e, hn] at hk
      rw [raiseAll_links, PerPort.get_map, raise_flags, BitVec.getLsbD_or, notice_bit_other hne, Bool.or_false] }

theorem mapBerths_seqFrame (f : BerthBoard → BerthBoard) (s : State) (h : ∀ v, f v = { v with state := (f v).state })
    (hshut : ∀ v, (f v).state = v.state ∨ (f v).state = .closed) :
    SeqFrame s { s with board := { s.board with berths := s.board.berths.map f } } :=
  { SeqFrame.refl s with
    berths := fun k => by
      have e : ((s.board.berths.map f).get k) = f (s.board.berths.get k) := PerBerth.get_map f _ k
      exact e ▸ h _
    shut := fun k => by
      have e : ((s.board.berths.map f).get k) = f (s.board.berths.get k) := PerBerth.get_map f _ k
      exact e ▸ hshut _ }

/-! ### The operations of the sequences -/

theorem setAlignments_seqFrame (a b : Alignment) (s : State) : SeqFrame s (setAlignments a b s) :=
  seqFrame_doors _ s fun x => by cases x <;> rfl

theorem enterLine_seqFrame (l : LineState) (s : State) : SeqFrame s (enterLine l s) := by
  have hraise : SeqFrame s (if s.trip.line.noticed l then raiseAll .lineState s else s) :=
    .thenIf (.refl s) fun _ => raiseAll_seqFrame .lineState s rfl
  refine .thenIf (.thenIf (hraise.trans (seqFrame_trip _ _ (by rfl) (by rfl) (.inl (by rfl)) (.inl (by rfl)))) fun _ => setAlignments_seqFrame _ _ _) fun _ =>
    mapBerths_seqFrame BerthBoard.depart _ (fun v => ?_) fun v => ?_
  all_goals
    unfold BerthBoard.depart
    split <;> simp

theorem enterParked_seqFrame (b : Berth) (s : State) : SeqFrame s (enterParked b s) :=
  (enterLine_seqFrame .parked s).trans (seqFrame_trip _ _ (by rfl) (by rfl) (.inl (by rfl)) (.inl (by rfl)))

theorem clearStop_seqFrame (s : State) : SeqFrame s (clearStop s) := seqFrame_trip _ s (by rfl) (by rfl) (.inl (by rfl)) (.inl (by rfl))

theorem endRecord_seqFrame (e : Ending) (s : State) : SeqFrame s (endRecord e s) := by
  refine seqFrame_trip _ s rfl ?_ (.inl rfl) (.inl rfl)
  cases s.trip.record with
  | none => rfl
  | some r => cases h : r.ending <;> simp [h]

theorem armRollaway_seqFrame (s : State) : SeqFrame s (armRollaway s) :=
  .thenIf (.refl s) fun _ => seqFrame_sup _ s rfl fun _ => .inl rfl

theorem setEb_seqFrame (v : Bool) (s : State) : SeqFrame s (setEb v s) := by
  unfold setEb
  split
  · exact .refl s
  · exact seqFrame_sup _ s rfl fun _ => .inl rfl

theorem setSb_seqFrame (v : Bool) (s : State) : SeqFrame s (setSb v s) := by
  unfold setSb
  split
  · exact .refl s
  have hsup (u : Sup) (h : u = { s.sup with sbRel := u.sbRel, sbLimit := u.sbLimit, rollaway := u.rollaway, dirWatch := u.dirWatch }) :
      SeqFrame s { s with sup := u } :=
    seqFrame_sup u s (h.trans (by rw [h])) fun _ => .inl (by rw [h])
  dsimp only
  split
  · exact hsup _ rfl
  · exact (hsup _ rfl).trans (armRollaway_seqFrame _)

theorem setDrv_seqFrame (v : Bool) (s : State) : SeqFrame s (setDrv v s) := by
  have hdrv : SeqFrame s { s with sup := { s.sup with drvEn := v } } := seqFrame_sup _ s rfl fun _ => .inl rfl
  unfold setDrv
  split
  · exact .refl s
  dsimp only
  split
  · split
    · exact hdrv.trans (seqFrame_trip _ _ (by rfl) (by rfl) (.inr (by rfl)) (.inr (by rfl)))
    · exact hdrv
  · exact hdrv.trans (seqFrame_trip _ _ (by rfl) (by rfl) (.inl (by rfl)) (.inl (by rfl)))

theorem setStage_seqFrame (k : TestKind) (g : TestStage) (s : State) : SeqFrame s (setStage k g s) := seqFrame_sched _ s (by rfl)

theorem setCertainty_seqFrame (c : Certainty) (s : State) : SeqFrame s (setCertainty c s) := by
  have hset : SeqFrame s { s with rope := { s.rope with certainty := c } } := { SeqFrame.refl s with rope := rfl }
  unfold setCertainty
  split
  case h_4 => exact hset
  all_goals exact hset.trans (raiseAll_seqFrame _ _ rfl)

theorem lowerCertainty_seqFrame (s : State) : SeqFrame s (lowerCertainty s) := by
  unfold lowerCertainty
  split
  · exact setCertainty_seqFrame _ s
  · exact .refl s

theorem makeGrant_seqFrame (x : Car) (d : Side) (g : Grant) (s : State) : SeqFrame s (makeGrant x d g s) :=
  seqFrame_doors _ s fun y => by cases x <;> cases y <;> rfl

theorem autoReleaseSide_seqFrame (x : Car) (b : Berth) (d : Side) (s : State) : SeqFrame s (autoReleaseSide x b d s) := by
  unfold autoReleaseSide
  split
  · exact .thenIf (.refl s) fun _ => makeGrant_seqFrame _ _ _ s
  · exact .refl s

theorem autoRelease_seqFrame (b : Berth) (s : State) : SeqFrame s (autoRelease b s) :=
  (((autoReleaseSide_seqFrame .a b .left s).trans (autoReleaseSide_seqFrame _ _ _ _)).trans (autoReleaseSide_seqFrame _ _ _ _)).trans
    (autoReleaseSide_seqFrame _ _ _ _)

theorem abortToEnding_seqFrame (k : TestKind) (s : State) : SeqFrame s (abortToEnding k s) :=
  (((seqFrame_sched _ s (by rfl)).trans (raiseAll_seqFrame _ _ rfl)).trans (seqFrame_sched _ _ (by rfl))).trans (setStage_seqFrame _ _ _)

/-! ### Trips and moves -/

theorem learnStops_seqFrame (s : State) : SeqFrame s (learnStops s) := by
  have hcar (t : PerBerth BerthEntry) (c : Course) (x : Car) (u : State) : SeqFrame u (learnCar t c x u) :=
    seqFrame_trip _ u (by rfl) (by rfl) (.inl (by rfl)) (.inl (by rfl))
  unfold learnStops
  split
  · exact (hcar _ _ .a s).trans (hcar _ _ .b _)
  · exact .refl s

theorem judgeAt_seqFrame (a b : Berth) (s : State) : SeqFrame s (judgeAt a b s) := setAlignments_seqFrame _ _ s

theorem berth_seqFrame (s : State) : SeqFrame s (berth s) := by
  unfold berth
  split
  · exact (((((clearStop_seqFrame s).trans (judgeAt_seqFrame _ _ _)).trans (endRecord_seqFrame _ _)).trans (enterParked_seqFrame _ _)).trans
      (raiseAll_seqFrame _ _ rfl)).trans (autoRelease_seqFrame _ _)
  · exact .refl s

theorem enterHeld_seqFrame (s : State) : SeqFrame s (enterHeld s) := by
  unfold enterHeld
  split
  · exact (seqFrame_trip _ s (by rfl) (by rfl) (.inl (by rfl)) (.inl (by rfl))).trans (enterLine_seqFrame _ _)
  · exact .refl s

theorem moveEnding_seqFrame (k : StopKind) (s : State) : SeqFrame s (moveEnding k s) := by
  have hend : SeqFrame s { setSb false s with trip := { (setSb false s).trip with moveRelease := false } } :=
    (setSb_seqFrame false s).trans (seqFrame_trip _ _ (by rfl) (by rfl) (.inl (by rfl)) (.inl (by rfl)))
  unfold moveEnding
  cases k with
  | profile => exact hend.trans (learnStops_seqFrame _)
  | service => exact hend.trans (lowerCertainty_seqFrame _)
  | none | hold => exact hend

theorem endMove_seqFrame (k : StopKind) (s : State) : SeqFrame s (endMove k s) := by
  rw [endMove_eq]
  split
  · split
    · exact (moveEnding_seqFrame k s).trans (berth_seqFrame _)
    · exact ((((moveEnding_seqFrame k s).trans (clearStop_seqFrame _)).trans (judgeAt_seqFrame _ _ _)).trans (endRecord_seqFrame _ _)).trans
        (enterLine_seqFrame _ _)
  · exact .refl s

theorem completeStop_seqFrame (s : State) : SeqFrame s (completeStop s) := by
  have hberth := (learnStops_seqFrame s).trans (berth_seqFrame _)
  unfold completeStop
  split
  · exact hberth
  · split
    · exact hberth
    · exact enterHeld_seqFrame s
  · exact enterHeld_seqFrame s
  · exact endMove_seqFrame _ s
  · exact .refl s

theorem startTrip_seqFrame (s : State) : SeqFrame s (startTrip s) :=
  (((enterLine_seqFrame (.running .accel) s).trans (seqFrame_trip _ _ (by rfl) (by rfl) (.inr (by rfl)) (.inl (by rfl)))).trans (clearStop_seqFrame _)).trans
    (setDrv_seqFrame _ _)

theorem restartTrip_seqFrame (s : State) : SeqFrame s (restartTrip s) := by
  unfold restartTrip
  split
  · refine (((enterLine_seqFrame (.running .accel) s).trans (seqFrame_trip _ _ (by rfl) ?_ (.inr (by rfl)) (.inl (by rfl)))).trans
      (clearStop_seqFrame _)).trans (setDrv_seqFrame _ _)
    cases (enterLine (.running .accel) s).trip.record <;> rfl
  · exact .refl s

theorem startMove_seqFrame (s : State) : SeqFrame s (startMove s) :=
  ((seqFrame_trip _ s (by rfl) (by rfl) (.inr (by rfl)) (.inl (by rfl))).trans (clearStop_seqFrame _)).trans (setDrv_seqFrame _ _)

/-! ### Tests -/

theorem testAborted_seqFrame (k : TestKind) (s : State) : SeqFrame s (abortToEnding k (setSb false s)) :=
  (setSb_seqFrame false s).trans (abortToEnding_seqFrame k _)

theorem ebReleased_seqFrame (s : State) : SeqFrame s (ebReleased s) := by
  unfold ebReleased
  split
  · exact ((setDrv_seqFrame true s).trans (setStage_seqFrame _ _ _)).trans (seqFrame_sched _ _ (by rfl))
  · exact testAborted_seqFrame .eb s

theorem railReleased_seqFrame (k : TestKind) (s : State) : SeqFrame s (railReleased k s) := by
  unfold railReleased
  split
  · exact ((setStage_seqFrame k _ s).trans (setDrv_seqFrame _ _)).trans (seqFrame_sched _ _ (by rfl))
  · exact testAborted_seqFrame k s

theorem endEbTest_seqFrame (s : State) : SeqFrame s (endEbTest s) := by
  unfold endEbTest
  split
  · exact ((((setEb_seqFrame true s).trans (judgeAt_seqFrame _ _ _)).trans (enterParked_seqFrame _ _)).trans (seqFrame_sched _ _ (by rfl))).trans
      (armRollaway_seqFrame _)
  · exact .refl s

theorem endRailTest_seqFrame (k : TestKind) (s : State) : SeqFrame s (endRailTest k s) := by
  have horder (h : s.sup.railOrder.get (testCar k) = .test) : SeqFrame s { s with sup := { s.sup with
      railOrder := s.sup.railOrder.set (testCar k) .none, orderClears := s.sup.orderClears.set (testCar k) false } } := by
    refine seqFrame_sup _ s rfl fun x => ?_
    by_cases hx : x = testCar k
    · exact .inr ⟨hx ▸ h, by simp [hx]⟩
    · exact .inl (PerCar.get_set_ne _ _ _ _ hx)
  unfold endRailTest
  exact (((SeqFrame.thenIf (.refl s) horder).trans (clearStop_seqFrame _)).trans (enterLine_seqFrame _ _)).trans (seqFrame_sched _ _ (by rfl))

/-! ### The steps due -/

theorem settleInterlock_seqFrame (v : Bool) (s : State) : SeqFrame s (settleInterlock v s) := by
  unfold settleInterlock
  split
  · split
    · exact .thenIf (.refl s) fun _ => (seqFrame_trip _ s (by rfl) (by rfl) (.inl (by rfl)) (.inl (by rfl))).trans (setSb_seqFrame _ _)
    · split
      · exact .refl s
      · exact (seqFrame_trip _ s (by rfl) (by rfl) (.inl (by rfl)) (.inl (by rfl))).trans (setSb_seqFrame _ _)
    · exact .refl s
  · exact .thenIf (.refl s) fun _ => (seqFrame_trip _ s (by rfl) (by rfl) (.inl (by rfl)) (.inl (by rfl))).trans (setSb_seqFrame _ _)
  · exact .thenIf (.refl s) fun _ => endMove_seqFrame _ s
  · exact .refl s

theorem settleHold_seqFrame (s : State) : SeqFrame s (settleHold s) := .thenIf (.refl s) fun _ => setSb_seqFrame _ s

theorem settleEbApplied_seqFrame (s : State) : SeqFrame s (settleEbApplied s) := by
  unfold settleEbApplied
  split
  · exact .thenIf (.refl s) fun _ => setSb_seqFrame _ s
  · exact .refl s

theorem settleReleased_seqFrame (s : State) : SeqFrame s (settleReleased s) := by
  refine .thenIf (.refl s) fun _ => ?_
  split
  · exact .thenIf (.refl s) fun _ => startTrip_seqFrame s
  · exact .thenIf (.refl s) fun _ => restartTrip_seqFrame s
  · exact .thenIf (.refl s) fun _ => startMove_seqFrame s
  · exact .thenIf (.refl s) fun _ => ebReleased_seqFrame s
  · exact .thenIf (.refl s) fun _ => railReleased_seqFrame _ s
  · exact .refl s

theorem settleApplied_seqFrame (s : State) : SeqFrame s (settleApplied s) := .thenIf (.refl s) fun _ => setDrv_seqFrame _ s

theorem settleComplete_seqFrame (s : State) : SeqFrame s (settleComplete s) := .thenIf (.refl s) fun _ => completeStop_seqFrame s

theorem settleTest_seqFrame (s : State) : SeqFrame s (settleTest s) := by
  unfold settleTest
  split
  · exact .thenIf (.refl s) fun _ => endEbTest_seqFrame s
  · exact .thenIf (.refl s) fun _ => endRailTest_seqFrame _ s
  · exact .refl s

theorem settleWith_seqFrame (v : Bool) (s : State) : SeqFrame s (settleWith v s) :=
  ((((((settleInterlock_seqFrame v s).trans (settleHold_seqFrame _)).trans (settleEbApplied_seqFrame _)).trans
    (settleReleased_seqFrame _)).trans (settleApplied_seqFrame _)).trans (settleComplete_seqFrame _)).trans (settleTest_seqFrame _)

theorem settle_seqFrame (b s : State) : SeqFrame s (settle b s) := settleWith_seqFrame _ s

theorem SeqFrame.settled {s t : State} (h : SeqFrame s t) (b : State) : SeqFrame s (settle b t) := h.trans (settle_seqFrame b t)

/-- Where no sequence waits, no step is due. -/
theorem settleWith_still (v : Bool) (s : State) (h : s.trip.line.still = true) : settleWith v s = s := by
  have hi : settleInterlock v s = s := by unfold settleInterlock; split <;> simp_all [LineState.still]
  have hm : s.trip.line.inMotion = false := by
    cases hl : s.trip.line with
    | recovery moving => cases moving <;> simp_all [LineState.still, LineState.inMotion]
    | _ => simp_all [LineState.still, LineState.inMotion]
  have hr : settleReleased s = s := by
    unfold settleReleased
    split
    · split <;> simp_all [LineState.still]
    · rfl
  have he : settleEbApplied s = s := by unfold settleEbApplied; split <;> simp_all [LineState.still]
  have ht : settleTest s = s := by unfold settleTest; split <;> simp_all [LineState.still]
  simp [settleWith, hi, he, hr, ht, settleHold, settleApplied, settleComplete, hm]

theorem settle_still (b s : State) (h : s.trip.line.still = true) : settle b s = s := settleWith_still _ s h

/-- Settles O3: every step due is made of operations that keep the frame, and in a line state that waits for nothing none is due. -/
theorem settlingIsFramed : Obligations.SettlingIsFramed := by
  intro b s
  have h := settle_seqFrame b s
  exact ⟨settle_still b s, h.tables, h.track, h.now, h.pending, h.rope, h.trip, h.record, h.setpoints, h.distances, h.sup, h.orders,
    h.sched, h.cars, h.berths, h.leaves, h.links⟩

end Sys2Proof.Machine
end

section
/-! PROOFS. A request's frame: the slots of a port (O4), the receiver's characters (O5) and what it discards (O6). -/

namespace Sys2Proof.Machine

/-! ### A port after a write -/

@[simp] theorem State.setPort_setPort (s : State) (p : Port) (v w : PortState) : (s.setPort p v).setPort p w = s.setPort p w := by
  simp [State.setPort]

@[simp] theorem State.setPort_self (s : State) (p : Port) : s.setPort p (s.links.get p) = s := by
  simp [State.setPort]

/-! ### The request at a free port (R208, R209) -/

/-- Taken or refused, inert or not: the owner's effect and reply, with the steps due where a request that may be waited for was taken. -/
theorem exec_served {p : Port} {r : Request} {body : List Byte} {s t : State} {c : Result} {d : ReplyData}
    (hfree : s.portFree p) (hperm : r.permitted p = true) (hserve : r.serve p body s = (t, ⟨c, d⟩)) :
    exec (r.command p body) s = .next ((if c.refuses = true ∨ r.inert = true then t else settle s t).answering p r body c d) := by
  have htake : takeRequest p r.code body s = (if c.refuses = true ∨ r.inert = true then t else settle s t, ⟨c, d⟩) := by
    cases hc : c.refuses <;> cases hi : r.inert <;> simp [takeRequest, requestOf_code, hperm, hserve, hc, hi]
  rw [exec_command, deliver_portFree hfree, execute_request htake]

/-- A request refused by its owner. -/
theorem exec_refused {p : Port} {r : Request} {body : List Byte} {s t : State} {c : Result} {d : ReplyData}
    (hfree : s.portFree p) (hperm : r.permitted p = true) (hserve : r.serve p body s = (t, ⟨c, d⟩)) (hc : c.refuses = true) :
    exec (r.command p body) s = .next (t.answering p r body c d) := by
  rw [exec_served hfree hperm hserve, if_pos (.inl hc)]

/-- A request taken, with the steps that it makes due. -/
theorem exec_taken {p : Port} {r : Request} {body : List Byte} {s t : State} {c : Result} {d : ReplyData}
    (hfree : s.portFree p) (hperm : r.permitted p = true) (hinert : r.inert = false) (hserve : r.serve p body s = (t, ⟨c, d⟩))
    (hc : c.refuses = false) :
    exec (r.command p body) s = .next ((settle s t).answering p r body c d) := by
  rw [exec_served hfree hperm hserve, if_neg (by simp [hc, hinert])]

/-- A request taken in a line state that stands still makes no step due. -/
theorem exec_taken_still {p : Port} {r : Request} {body : List Byte} {s t : State} {c : Result} {d : ReplyData}
    (hfree : s.portFree p) (hperm : r.permitted p = true) (hserve : r.serve p body s = (t, ⟨c, d⟩)) (hstill : t.trip.line.still = true) :
    exec (r.command p body) s = .next (t.answering p r body c d) := by
  rw [exec_served hfree hperm hserve, settle_still s t hstill, ite_self]

/-- A port that may not send a request gets NOT_PERMITTED for it (R209). -/
theorem exec_notPermitted {p : Port} {r : Request} (body : List Byte) {s : State} (hfree : s.portFree p) (hperm : r.permitted p = false) :
    exec (r.command p body) s = .next (s.answering p r body .notPermitted .none) := by
  rw [exec_command, deliver_portFree hfree,
    execute_request (t := s) (c := .notPermitted) (d := .none) (by simp [takeRequest, requestOf_code, hperm, refuse])]

/-! ### The slots (O4) -/

theorem deliver_waits {p : Port} {s : State} {f : Frame} (hbusy : (s.links.get p).executing = some f)
    (hwait : (s.links.get p).waiting = none) (kind : Byte) (body : List Byte) :
    deliver p kind body s = s.setPort p { s.links.get p with waiting := some ⟨kind, body⟩ } := by
  simp [deliver, hbusy, hwait]

theorem deliver_overruns {p : Port} {s : State} {f g : Frame} (hbusy : (s.links.get p).executing = some f)
    (hwait : (s.links.get p).waiting = some g) (kind : Byte) (body : List Byte) :
    deliver p kind body s = linkError p .overrun s := by
  simp [deliver, hbusy, hwait]

/-- A kind that is no request's code names no request. -/
theorem requestOf_eq_none {kind : Byte} (h : ∀ r : Request, r.code ≠ kind) : requestOf kind = none :=
  List.find?_eq_none.mpr fun r _ => by simpa using h r

/-- The answer to a frame whose kind names no request (R209). -/
theorem execute_unknown (p : Port) {g : Frame} (s : State) (h : ∀ r : Request, r.code ≠ g.kind) :
    execute p g s = s.setPort p { s.links.get p with executing := some g, answer := some ⟨answerKind g.kind, ⟨.notPermitted, .none⟩⟩ } := by
  simp [execute, takeRequest, requestOf_eq_none h, refuse]

/-- A port with its slots empty and no answer in transmission. -/
def State.portEmptied (s : State) (p : Port) : State :=
  s.setPort p { s.links.get p with executing := none, answer := none, waiting := none }

theorem State.portEmptied_free (s : State) (p : Port) : (s.portEmptied p).portFree p := by
  simp [State.portEmptied, State.portFree]

theorem execAnswerSent_busy {p : Port} {s : State} {f : Frame} (hbusy : (s.links.get p).executing = some f) :
    exec (.answerSent p) s = .next (finishAnswer p s) := by
  change execAnswerSent p s = _
  rw [execAnswerSent, hbusy]

theorem finishAnswer_none {p : Port} {s : State} (hwait : (s.links.get p).waiting = none) : finishAnswer p s = s.portEmptied p := by
  rw [finishAnswer, hwait]
  rfl

theorem finishAnswer_some {p : Port} {s : State} {g : Frame} (hwait : (s.links.get p).waiting = some g) :
    finishAnswer p s = execute p g (s.portEmptied p) := by
  rw [finishAnswer, hwait]
  rfl

/-- Settles O4: the slots of a port before and after an answer's end. -/
theorem requestsPassThroughTheSlots : Obligations.RequestsPassThroughTheSlots := by
  refine ⟨fun r p body s => ⟨exec_notPermitted body, fun hfree hperm t c d hserve => exec_served hfree hperm hserve, fun f hbusy => ?_⟩, ?_⟩
  · refine ⟨fun hwait => ?_, fun g hwait => ?_⟩
    · rw [exec_command, deliver_waits hbusy hwait]
    · rw [exec_command, deliver_overruns hbusy hwait]
  · rintro p s _ rfl
    refine ⟨fun hfree => ?_, fun f hbusy => ?_⟩
    · change execAnswerSent p s = _
      rw [execAnswerSent, hfree]
    · rw [execAnswerSent_busy hbusy]
      refine ⟨fun hwait => ?_, fun r body hwait => ?_, fun g hwait hunknown => ?_⟩
      · rw [finishAnswer_none hwait]; rfl
      · rw [finishAnswer_some hwait, exec_command, ← deliver_portFree (s.portEmptied_free p)]; rfl
      · rw [finishAnswer_some hwait, execute_unknown p _ hunknown]; rfl

/-! ### Characters and their samples (R203) -/

theorem vote_clean (v : Bool) : vote (if v then 7#3 else 0#3) = v := by
  cases v <;> rfl

/-- The bits of a good character: start, data, parity and stop. -/
def charBits (b : Byte) : List Bool := false :: byteBits b ++ [decide (ones (byteBits b) % 2 = 1), true]

theorem charSamples_vote (b : Byte) : (charSamples b).map vote = charBits b := by
  simp only [charSamples, charBits, List.map_map, Function.comp_def, vote_clean, List.map_id']

theorem byteBits_length (b : Byte) : (byteBits b).length = 8 := by simp [byteBits]

theorem byteBits_value (b : Byte) : byteOf (bitsValue (byteBits b)) = b := by
  revert b; decide

/-- The parity bit makes the number of ones even. -/
theorem ones_append_parity (l : List Bool) : ones (l ++ [decide (ones l % 2 = 1)]) % 2 = 0 := by
  have hlast : ones (l ++ [decide (ones l % 2 = 1)]) = ones l + if ones l % 2 = 1 then 1 else 0 := by
    rw [ones, List.filter_append, List.length_append, ← ones]
    split <;> simp [*]
  rw [hlast]
  split <;> omega

theorem judgeChar_charSamples (b : Byte) : judgeChar (charSamples b) = .good b := by
  have hdata : ((charBits b).drop 1).take 8 = byteBits b := by simp [charBits, ← byteBits_length b]
  have hchecked : ((charBits b).drop 1).take 9 = byteBits b ++ [decide (ones (byteBits b) % 2 = 1)] := by
    rw [charBits, List.cons_append, List.drop_succ_cons, List.drop_zero, List.take_append, byteBits_length,
      List.take_of_length_le (by simp [byteBits_length])]
    rfl
  have hstart : (charBits b).getD 0 true = false := rfl
  have hstop : (charBits b).getD 10 true = true := rfl
  rw [judgeChar, charSamples_vote, judgeBits, hchecked, hdata, hstart, hstop, ones_append_parity, byteBits_value]
  rfl

theorem execChar {p : Port} {s : State} (l : List (BitVec 3)) (h : (s.links.get p).waitHigh = false) :
    exec (.stationCharacterReceived p l) s = .next (takeCharacter p l s) := by
  change execStationCharacterReceived p l s = _
  rw [execStationCharacterReceived, if_neg (by simp [h])]

theorem takeCharacter_good (p : Port) (b : Byte) (s : State) : takeCharacter p (charSamples b) s = goodCharacter p b s := by
  rw [takeCharacter, judgeChar_charSamples]

/-! ### A frame discarded (O6) -/

/-- A link error at a port just written: counted, and reported once (R207). -/
theorem linkError_setPort (p : Port) (e : LinkError) (v : PortState) (s : State) :
    linkError p e (s.setPort p v) =
      match v.report with
      | .armed => raiseAll .linkErrors (s.setPort p { v.count e with report := .spent })
      | .spent => s.setPort p (v.count e) := by
  cases hv : v.report <;> simp [linkError, hv]

theorem discard_eq (p : Port) (e : LinkError) (s : State) :
    discard p e s =
      match (s.links.get p).report with
      | .armed => raiseAll .linkErrors (s.setPort p { (s.links.get p).toHunt.count e with report := .spent })
      | .spent => s.setPort p ((s.links.get p).toHunt.count e) :=
  linkError_setPort p e _ s

theorem framingError_eq (p : Port) (s : State) :
    framingError p s =
      match (s.links.get p).report with
      | .armed => raiseAll .linkErrors (s.setPort p { { (s.links.get p).toHunt with waitHigh := true }.count .framing with report := .spent })
      | .spent => s.setPort p ({ (s.links.get p).toHunt with waitHigh := true }.count .framing) := by
  cases hr : (s.links.get p).report <;>
    simp [framingError, badCharacter, discard_eq, PortState.toHunt, PortState.count, hr]

theorem execGap_running {p : Port} {s : State} (h : (s.links.get p).gap = true) :
    exec (.gapLimitExpiry p) s = .next (discard p .gap s) := by
  change execGapLimitExpiry p s = _
  rw [execGapLimitExpiry, if_pos h]

theorem execGap_stopped {p : Port} {s : State} (h : (s.links.get p).gap = false) : exec (.gapLimitExpiry p) s = .next s := by
  change execGapLimitExpiry p s = _
  rw [execGapLimitExpiry, if_neg (by simp [h])]

theorem judgeBits_noise {l : List Bool} (hstart : l.getD 0 true = true) : judgeBits l = .noise := if_pos hstart

theorem judgeBits_framing {l : List Bool} (hstart : l.getD 0 true = false) (hstop : l.getD 10 true = false) : judgeBits l = .framing := by
  rw [judgeBits, hstart, hstop]
  rfl

theorem judgeBits_parity {l : List Bool} (hstart : l.getD 0 true = false) (hstop : l.getD 10 true = true)
    (hodd : ones ((l.drop 1).take 9) % 2 = 1) : judgeBits l = .parity := by
  rw [judgeBits, hstart, hstop, hodd]
  rfl

theorem goodCharacter_tooLong {p : Port} {b : Byte} {s : State} (hrx : (s.links.get p).rx = .length) (hb : 49 ≤ b.toNat) :
    goodCharacter p b s = discard p .check s := by
  rw [goodCharacter]
  simp only [hrx]
  exact if_pos hb

theorem goodCharacter_badCheck {p : Port} {b : Byte} {s : State} (hrx : (s.links.get p).rx = .check)
    (hb : b ≠ crc8 ((s.links.get p).kind :: byteOf (s.links.get p).len :: (s.links.get p).body)) :
    goodCharacter p b s = discard p .check s := by
  rw [goodCharacter]
  simp only [hrx]
  exact if_neg hb

/-- Settles O6: what the receiver makes of each thing that is not a good character of a frame. -/
theorem damagedFrameIsDiscarded : Obligations.DamagedFrameIsDiscarded := by
  intro p l s hlen q bits hunting counted read checked
  have discards (e : LinkError) : discard p e s = counted (hunting.count e) := discard_eq p e s
  have reads (hwait : q.waitHigh = false) (c : List (BitVec 3)) : read c = .next (takeCharacter p c s) := execChar c hwait
  refine ⟨fun hwait => ?high, fun hwait => ⟨fun hnoise => ?noise, fun hstart hstop => ?framing, fun hstart hstop hodd => ?parity,
    fun b hrx hb => ?length, fun b hrx hb => ?check⟩, fun hgap => ?gap, fun hgap => execGap_stopped hgap, rfl⟩
  case high =>
    change execStationCharacterReceived p l s = _
    rw [execStationCharacterReceived, if_pos hwait]
  case noise =>
    rw [reads hwait, takeCharacter, judgeChar, judgeBits_noise hnoise]
    change Host.Outcome.next (s.setPort p { q with gap := q.rx != .hunt }) = _
    cases q.rx <;> rfl
  case framing =>
    rw [reads hwait, takeCharacter, judgeChar, judgeBits_framing hstart hstop]
    exact congrArg Host.Outcome.next (framingError_eq p s)
  case parity =>
    rw [reads hwait, takeCharacter, judgeChar, judgeBits_parity hstart hstop hodd]
    exact congrArg Host.Outcome.next (discards .parity)
  case length => rw [reads hwait, takeCharacter_good, goodCharacter_tooLong hrx hb, discards]; rfl
  case check => rw [reads hwait, takeCharacter_good, goodCharacter_badCheck hrx hb, discards]; rfl
  case gap => rw [execGap_running hgap, discards]; rfl

/-! ### A whole frame (O5) -/

/-- What a receiver does with a good character and its start edge. -/
def receive (p : Port) (b : Byte) (s : State) : State :=
  goodCharacter p b (s.setPort p { s.links.get p with gap := false, waitHigh := false })

/-- The commands of some good characters, each with its start edge. -/
def charCommands (p : Port) (l : List Byte) : List Instr :=
  l.flatMap fun b => [.startEdge p, .stationCharacterReceived p (charSamples b)]

theorem runCommands_cons_next {c : Instr} {s t : State} (l : List Instr) (h : exec c s = .next t) :
    runCommands (c :: l) s = runCommands l t := by
  rw [runCommands, h]

theorem runCommands_charCommands (p : Port) (l : List Byte) (s : State) :
    runCommands (charCommands p l) s = .next (l.foldl (fun t b => receive p b t) s) := by
  induction l generalizing s with
  | nil => rfl
  | cons b l ih =>
    rw [List.foldl_cons, ← ih]
    have hedge : exec (.startEdge p) s = .next (s.setPort p { s.links.get p with gap := false, waitHigh := false }) := rfl
    change runCommands (.startEdge p :: .stationCharacterReceived p (charSamples b) :: charCommands p l) s = _
    rw [runCommands_cons_next _ hedge, runCommands_cons_next _ (execChar _ (by simp)), takeCharacter_good, receive]

/-- A port in the middle of a frame. -/
def PortState.assembling (q : PortState) (r : Receiver) (kind : Byte) (len : Nat) (body : List Byte) : PortState :=
  { q with rx := r, kind := kind, len := len, body := body, gap := true, waitHigh := false }

theorem receive_sync {p : Port} {s : State} (h : (s.links.get p).rx = .hunt) :
    receive p 0xC3#8 s = s.setPort p ((s.links.get p).assembling .kind 0 0 []) := by
  simp [receive, goodCharacter, h, PortState.toState, PortState.assembling]

theorem receive_kind (p : Port) (kind : Byte) (q : PortState) (s : State) :
    receive p kind (s.setPort p (q.assembling .kind 0 0 [])) = s.setPort p (q.assembling .length kind 0 []) := by
  simp [receive, goodCharacter, PortState.toState, PortState.assembling]

theorem receive_length (p : Port) (kind : Byte) {n : Nat} (hn : n ≤ 48) (q : PortState) (s : State) :
    receive p (byteOf n) (s.setPort p (q.assembling .length kind 0 [])) =
      s.setPort p (q.assembling (if n = 0 then .check else .body) kind n []) := by
  have hvalue : (byteOf n).toNat = n := by simp [byteOf]; omega
  have hzero : byteOf n = 0 ↔ n = 0 := by rw [← BitVec.toNat_inj, hvalue]; rfl
  simp only [receive, goodCharacter, PortState.toState, PortState.assembling, State.setPort_links, PerPort.get_set_same,
    State.setPort_setPort, hvalue, hzero, if_neg (Nat.not_lt.mpr hn)]

theorem receive_body (p : Port) (kind b : Byte) (n : Nat) (l : List Byte) (q : PortState) (s : State) :
    receive p b (s.setPort p (q.assembling .body kind n l)) =
      s.setPort p (q.assembling (if n ≤ l.length + 1 then .check else .body) kind n (l ++ [b])) := by
  simp [receive, goodCharacter, PortState.toState, PortState.assembling]

/-- The characters of a body bring the receiver to its check character. -/
theorem receive_bodies (p : Port) (kind : Byte) (l done : List Byte) (q : PortState) (s : State) :
    l.foldl (fun t b => receive p b t)
        (s.setPort p (q.assembling (if l = [] then .check else .body) kind (done.length + l.length) done)) =
      s.setPort p (q.assembling .check kind (done.length + l.length) (done ++ l)) := by
  induction l generalizing done with
  | nil => simp
  | cons b l ih =>
    have hmore : (if done.length + (b :: l).length ≤ done.length + 1 then Receiver.check else .body) = if l = [] then .check else .body := by
      cases l <;> simp
    rw [List.foldl_cons, if_neg (List.cons_ne_nil b l), receive_body, hmore]
    have hnext := ih (done ++ [b])
    simpa [Nat.add_assoc, Nat.add_comm 1] using hnext

theorem receive_check (p : Port) (kind : Byte) (body : List Byte) (q : PortState) (s : State) :
    receive p (crc8 (kind :: byteOf body.length :: body)) (s.setPort p (q.assembling .check kind body.length body)) =
      deliver p kind body (s.setPort p { q with rx := .hunt, kind := 0, len := 0, body := [], gap := false, waitHigh := false }) := by
  simp [receive, goodCharacter, PortState.toHunt, PortState.assembling]

/-- A frame received from its sync to its check character is delivered. -/
theorem receive_frame {p : Port} {s : State} (kind : Byte) {body : List Byte} (hlen : body.length ≤ 48) (h : (s.links.get p).rx = .hunt) :
    (frameBytes kind body).foldl (fun t b => receive p b t) s =
      deliver p kind body (s.setPort p { s.links.get p with kind := 0, len := 0, body := [], gap := false, waitHigh := false }) := by
  have hstate : (if body.length = 0 then Receiver.check else .body) = if body = [] then .check else .body := by
    cases body <;> simp
  have hbodies := receive_bodies p kind body [] (s.links.get p) s
  rw [List.length_nil, Nat.zero_add, List.nil_append] at hbodies
  simp only [frameBytes, List.foldl_append, List.foldl_cons, List.foldl_nil]
  rw [receive_sync h, receive_kind, receive_length p kind hlen, hstate, hbodies, receive_check, ← h]

/-- Settles O5: the receiver assembles the frame, whose delivery is the request's command. -/
theorem frameCharactersMakeTheCommand : Obligations.FrameCharactersMakeTheCommand := by
  intro r p body s hlen hrx
  rw [exec_command, ← receive_frame r.code hlen hrx]
  exact runCommands_charCommands p (frameBytes r.code body) s

end Sys2Proof.Machine
end

section
/-! PROOFS. STATUS READ (O9) and COUNTS READ (O10). -/

namespace Sys2Proof.Machine

/-! ### The sections of STATUS READ (R216) -/

/-- The leaves of a side that R176 counts, by their indices. -/
theorem notLockedSide_eq (set : Byte) (l : Six LeafRecord) :
    notLockedSide set l = ((List.range 6).filter fun k => set.getLsbD k && l.toList.getD k .absent != .locked).length := by
  have hzip : ((Six.ofFn fun k => memberAt set k).zipWith (fun m r => m && r != LeafRecord.locked) l).toList =
      (List.range 6).map fun k => set.getLsbD k && l.toList.getD k .absent != .locked := rfl
  rw [notLockedSide, hzip, List.filter_map, List.length_map]
  rfl

theorem reqStatusRead_section {p : Port} {x : Byte} {s : State} {d : SectionData} (h : s.sectionOf p x.toNat = some d) :
    reqStatusRead p [x] s = (s, ⟨.done, .snapshot x.toNat (s.links.get p).flags d⟩) := by
  simp [reqStatusRead, h, answerWith]

/-- There are eight sections. -/
theorem State.sectionOf_eq_none (s : State) (p : Port) {n : Nat} (h : 7 < n) : s.sectionOf p n = none := by
  obtain ⟨k, rfl⟩ : ∃ k, n = k + 8 := ⟨n - 8, by omega⟩
  rfl

theorem reqStatusRead_refused {p : Port} {body : List Byte} (s : State) (h : ∀ x : Byte, x.toNat ≤ 7 → body ≠ [x]) :
    reqStatusRead p body s = (s, ⟨.badArgument, .none⟩) := by
  unfold reqStatusRead
  split
  · rename_i x
    rw [State.sectionOf_eq_none s p (Nat.lt_of_not_le fun hx => h x hx rfl)]
    rfl
  · rfl

theorem snapshot_bytes (x : Byte) (f : NoticeSet) (d : SectionData) :
    (ReplyData.snapshot x.toNat f d).bytes = x :: BitVec.ofNat 8 f.toNat :: BitVec.ofNat 8 (f.toNat / 256) ::
      BitVec.ofNat 8 (f.toNat / 65536) :: d.bytes := by
  simp [ReplyData.bytes, noticeBytes, byteOf]

/-! ### Their lengths -/

@[simp] theorem beBytes_length (k n : Nat) : (beBytes k n).length = k := by
  induction k with
  | zero => rfl
  | succ k ih => rw [beBytes, List.length_cons, ih]

@[simp] theorem beSigned4_length (n : Int) : (beSigned4 n).length = 4 := beBytes_length 4 _

/-- A figure that may have no value takes a byte more than its bytes at most. -/
theorem optBytes_length_le {α : Type} {f : α → List Byte} {n : Nat} (h : ∀ v, (f v).length ≤ n) (o : Option α) :
    (optBytes f o).length ≤ n + 1 := by
  cases o with
  | none => simp [optBytes]
  | some v => simpa [optBytes] using h v

theorem grantBytes_length_le (g : Option Grant) : (grantBytes g).length ≤ 5 := by
  cases g <;> simp [grantBytes]

theorem Ability.bytes_length (r : Ability) : r.bytes.length = 13 := by
  simp [Ability.bytes, Ability.bytes12, Six.toList]

theorem causeBytes_length (l : List CauseEntry) : (causeBytes l).length = 2 * l.length + 1 := by
  have hentries : (l.flatMap fun e => [e.cause.code, portByte e.port]).length = 2 * l.length := by
    induction l with
    | nil => rfl
    | cons e l ih => simp only [List.flatMap_cons, List.length_append, ih, List.length_cons, List.length_nil]; omega
  rw [causeBytes, List.length_cons, hentries]

theorem LineSection.bytes_length_le (d : LineSection) : d.bytes.length ≤ 33 := by
  have hrecord : (optBytes TripRecord.bytes d.record).length ≤ 10 := optBytes_length_le (fun r => by simp [TripRecord.bytes]) _
  have hslot : (optBytes HoldSlot.bytes d.slot).length ≤ 9 := optBytes_length_le (fun r => by simp [HoldSlot.bytes]) _
  have htemp : (optBytes (fun t => [signedByte t]) d.temp).length ≤ 2 := optBytes_length_le (fun r => by simp) _
  simp only [LineSection.bytes, List.length_append, List.length_cons, List.length_nil, beBytes_length]
  omega

theorem MotionSection.bytes_length_le (d : MotionSection) : d.bytes.length ≤ 34 := by
  have hcap (o : Option Nat) : (optBytes (beBytes 2) o).length ≤ 3 := optBytes_length_le (fun r => by simp) _
  have hwind := hcap d.windCap
  have hcert := hcap d.certCap
  simp only [MotionSection.bytes, List.length_append, List.length_cons, List.length_nil, beBytes_length, beSigned4_length]
  omega

theorem CausesSection.bytes_length_le (d : CausesSection) (hlist : d.causes.length ≤ 4)
    (hlast : ∀ r, d.lastTrip = some r → r.causes.length ≤ 5) : d.bytes.length ≤ 26 := by
  have hrecord : (optBytes LastTrip.bytes d.lastTrip).length ≤ 16 := by
    cases h : d.lastTrip with
    | none => simp [optBytes]
    | some r =>
      have hr := hlast r h
      simp only [optBytes, LastTrip.bytes, List.length_append, List.length_cons, List.length_nil, beBytes_length, causeBytes_length]
      omega
  simp only [CausesSection.bytes, List.length_append, List.length_cons, causeBytes_length]
  omega

theorem DoorsSection.bytes_length_le (d : DoorsSection) : d.bytes.length ≤ 42 := by
  have hleft := grantBytes_length_le d.grants.left
  have hright := grantBytes_length_le d.grants.right
  have hability : (optBytes Ability.bytes d.reported).length ≤ 14 := optBytes_length_le (fun r => r.bytes_length.le) _
  have horder : (blockOrder d.leaves).length = 12 := rfl
  simp only [DoorsSection.bytes, List.length_append, List.length_cons, List.length_nil, List.length_map, horder]
  omega

theorem PlatformsSection.bytes_length (d : PlatformsSection) : d.bytes.length = 31 := rfl

theorem ObligationsSection.bytes_length_le (d : ObligationsSection) : d.bytes.length ≤ 24 := by
  have htest : (optBytes (fun t : TestKind × TestStage => [byteOf t.1.code, t.2.code]) d.test).length ≤ 3 :=
    optBytes_length_le (fun r => by simp) _
  have hlast : (optBytes TestRecord.bytes d.lastTest).length ≤ 6 := optBytes_length_le (fun r => by simp [TestRecord.bytes]) _
  simp only [ObligationsSection.bytes, Obligation.bytes, List.length_append, List.length_cons, beBytes_length]
  omega

theorem NoticesSection.bytes_length (d : NoticesSection) : d.bytes.length = 6 := rfl

/-- A section fits an answer while the cause lists keep their lengths. -/
theorem State.sectionOf_bytes_length_le (s : State) (p : Port) (n : Nat) (d : SectionData) (h : s.sectionOf p n = some d)
    (hlist : s.sup.causes.length ≤ 4) (hlast : ∀ r, s.sup.lastTrip = some r → r.causes.length ≤ 5) : d.bytes.length ≤ 42 := by
  unfold State.sectionOf at h
  split at h <;> cases h
  · exact (LineSection.bytes_length_le _).trans (by decide)
  · exact (MotionSection.bytes_length_le _).trans (by decide)
  · exact (CausesSection.bytes_length_le _ hlist hlast).trans (by decide)
  · exact DoorsSection.bytes_length_le _
  · exact DoorsSection.bytes_length_le _
  · exact (PlatformsSection.bytes_length _).le.trans (by decide)
  · exact (ObligationsSection.bytes_length_le _).trans (by decide)
  · exact (NoticesSection.bytes_length _).le.trans (by decide)

/-- Settles O9: each section by its number, its bytes, and the bodies that name none. -/
theorem statusReadTellsTheSection : Obligations.StatusReadTellsTheSection := by
  intro p s hfree q figures doors section_
  have hdoors (x : Car) : s.doorsSection x = doors x := by
    simp only [State.doorsSection, notLockedSide_eq]; rfl
  have hsection (n : Nat) (hn : n ≤ 7) : s.sectionOf p n = some (section_ n) := by
    match n, hn with
    | 0, _ | 1, _ | 2, _ | 5, _ | 6, _ | 7, _ => rfl
    | 3, _ => exact congrArg (some ∘ SectionData.doors) (hdoors .a)
    | 4, _ => exact congrArg (some ∘ SectionData.doors) (hdoors .b)
  refine ⟨fun x hx => ⟨?_, snapshot_bytes x _ _, fun hlist hlast => ?_⟩, fun x => ?_, rfl, fun body hbody => ?_⟩
  · exact exec_inert (r := .statusRead) hfree rfl rfl (reqStatusRead_section (hsection _ hx))
  · have hlen := s.sectionOf_bytes_length_le p _ _ (hsection _ hx) hlist hlast
    rw [snapshot_bytes]
    simp only [List.length_cons]
    omega
  · exact ⟨_, _, rfl⟩
  · exact exec_inert (r := .statusRead) hfree rfl rfl (reqStatusRead_refused s hbody)

/-! ### COUNTS READ (R217) -/

theorem beBytes_two (n : Nat) : beBytes 2 n = [BitVec.ofNat 8 (n / 256), BitVec.ofNat 8 n] := by simp [beBytes]

theorem State.missedFlags_eq (s : State) :
    s.missedFlags = (if s.track.cars.a.missedOverflow then 1 else 0) ||| (if s.track.cars.b.missedOverflow then 2 else 0) := by
  rw [State.missedFlags]
  cases s.track.cars.a.missedOverflow <;> cases s.track.cars.b.missedOverflow <;> rfl

theorem reqCountsRead_body (p : Port) (x : Byte) (l : List Byte) (s : State) :
    reqCountsRead p (x :: l) s = (s, ⟨.badArgument, .none⟩) := rfl

theorem reqCountsRead_drive (s : State) : reqCountsRead .d [] s = (zeroAll s, ⟨.done, .counts s.driveCounts⟩) := rfl

theorem reqCountsRead_station {p : Port} (s : State) (hp : p ≠ .d) :
    reqCountsRead p [] s = (zeroStation p s, ⟨.done, .counts (s.stationCounts p)⟩) := by
  cases p
  case d => exact absurd rfl hp
  all_goals rfl

/-- A station's two berths are those that it serves. -/
theorem zeroStation_berth {p : Port} (s : State) (hp : p ≠ .d) (b : Berth) :
    (zeroStation p s).board.berths.get b = if b.station = p then (s.board.berths.get b).read else s.board.berths.get b := by
  cases p
  case d => exact absurd rfl hp
  all_goals cases b <;> rfl

/-- Settles O10: the counters in their order, and what reading them leaves. -/
theorem countsReadZeroesItsScope : Obligations.CountsReadZeroesItsScope := by
  refine ⟨?order, fun s hfree => ⟨_, exec_inert (r := .countsRead) hfree rfl rfl (reqCountsRead_drive s), rfl⟩,
    fun p s hp hfree => ⟨_, exec_inert (r := .countsRead) hfree rfl rfl (reqCountsRead_station s hp), ?zeroed⟩,
    fun p x l s hfree => exec_inert (r := .countsRead) hfree rfl rfl (reqCountsRead_body p x l s)⟩
  case order =>
    intro p s errors boarding two car flags drive station
    have hdrive : s.driveCounts = drive := by
      simp only [State.driveCounts, PortState.counts, BerthBoard.counts, byteOf, beBytes_two, State.missedFlags_eq, drive, errors,
        boarding, two, flags, car, PerCar.get, PerBerth.get, List.map_cons, List.map_nil, List.append_assoc, List.cons_append, List.nil_append]
      rfl
    have hstation : s.stationCounts p = station := by
      cases p <;> rfl
    have hcode (l : List Byte) : Result.done.code :: (ReplyData.counts l).bytes = 0 :: l := rfl
    have hlen : (0 :: drive).length = 42 ∧ (0 :: station).length = 12 := by
      rw [← hdrive, ← hstation]
      simp [State.driveCounts, State.stationCounts, PortState.counts, BerthBoard.counts]
    rw [hcode, hcode, hdrive, hstation]
    exact ⟨rfl, rfl, hlen.1, rfl, rfl, hlen.2⟩
  case zeroed =>
    refine ⟨?_, zeroStation_berth s hp, ?_, ?_⟩
    all_goals cases p <;> rfl

end Sys2Proof.Machine
end

section
/-! PROOFS. The line's requests: the line state's refusals (O14), OPEN LINE and CLOSE LINE (O15), MODE SET, DEPART CONSENT and WEATHER (O16). -/

namespace Sys2Proof.Machine

/-! ### States block by block -/

/-- Two states agree where each of their blocks does. -/
theorem State.eq_of_blocks {s t : State} (tables : s.tables = t.tables) (rope : s.rope = t.rope) (trip : s.trip = t.trip)
    (sup : s.sup = t.sup) (sched : s.sched = t.sched) (track : s.track = t.track) (doors : s.doors = t.doors) (board : s.board = t.board)
    (links : s.links = t.links) (time : (s.now, s.pending) = (t.now, t.pending)) : s = t := by
  cases s; cases t; simp_all

/-! ### Refusals by the line state (R44) -/

/-- A request that its owner refuses with a code alone. -/
theorem exec_refuse {p : Port} {r : Request} {body : List Byte} {s : State} {c : Result} (hfree : s.portFree p)
    (hserve : r.serve p body s = refuse c s) (hc : c.refuses = true) (hperm : r.permitted p = true) :
    exec (r.command p body) s = .next (s.answering p r body c .none) :=
  exec_refused hfree hperm hserve hc

theorem reqRun_wrongState {s : State} (p : Port) (body : List Byte) (htest : ∀ k, s.trip.line ≠ .testing k) (hline : s.trip.line ≠ .parked) :
    reqRun p body s = refuse .wrongState s := by
  unfold reqRun
  split
  next h => exact absurd h hline
  next k h => exact absurd h (htest k)
  next => rfl

theorem testRefusal_wrongState {l : LineState} (htest : ∀ k, l ≠ .testing k) (hline : l ≠ .parked) : testRefusal l = some .wrongState := by
  unfold testRefusal
  split
  · exact absurd rfl hline
  · rename_i k; exact absurd rfl (htest k)
  · rfl

theorem reqBrakeTest_refused {s : State} {c : Result} (p : Port) (body : List Byte) (h : testRefusal s.trip.line = some c) :
    reqBrakeTest p body s = refuse c s := by
  simp only [reqBrakeTest, h]

theorem reqRailTest_refused {s : State} {c : Result} (p : Port) (body : List Byte) (h : testRefusal s.trip.line = some c) :
    reqRailTest p body s = refuse c s := by
  simp only [reqRailTest, h]

theorem reqRailTest_mode {s : State} (p : Port) (body : List Byte) (hline : s.trip.line = .parked) (hmode : s.trip.mode ≠ .inspection) :
    reqRailTest p body s = refuse .wrongState s := by
  simp only [reqRailTest, hline, testRefusal, if_pos hmode]

theorem reqRecoveryMove_refused {s : State} {c : Result} (p : Port) (body : List Byte) (h : s.moveRefusal = some c) :
    reqRecoveryMove p body s = refuse c s := by
  simp only [reqRecoveryMove, h]

theorem moveRefusal_wrongState {s : State}
    (h : s.trip.line = .closed ∨ s.trip.line = .dispatch ∨ (∃ ph, s.trip.line = .running ph) ∨ s.trip.line = .tripped ∨
      s.trip.line = .recovery true ∨ s.trip.line = .parked ∧ s.misaligned = false) : s.moveRefusal = some .wrongState := by
  rcases h with h | h | ⟨ph, h⟩ | h | h | ⟨h, hm⟩
  case inr.inr.inr.inr.inr => simp [State.moveRefusal, h, hm]
  all_goals simp only [State.moveRefusal, h]

theorem reqHold_wrongState {s : State} (p : Port) (body : List Byte)
    (h : s.trip.line = .closed ∨ s.trip.line = .parked ∨ s.trip.line = .tripped ∨ s.trip.line = .recovery false) :
    reqHold p body s = refuse .wrongState s := by
  rcases h with h | h | h | h <;> simp only [reqHold, h]

theorem reqHold_alreadyHeld {s : State} (p : Port) (body : List Byte)
    (h : s.trip.line = .held ∨ s.trip.line = .running .holding ∨
      s.trip.line = .recovery true ∧ (s.trip.stop = .hold ∨ s.trip.stop = .service)) :
    reqHold p body s = refuse .alreadyHeld s := by
  rcases h with h | h | ⟨h, hs | hs⟩
  · simp only [reqHold, h]
  · simp only [reqHold, h]
  · simp only [reqHold, h, hs]
  · simp only [reqHold, h, hs]

/-- Settles O14: each refusal is the owner's first judgement. -/
theorem lineStateJudgesTheRequests : Obligations.LineStateJudgesTheRequests := by
  intro p body s hfree l refused
  have by_owner {r : Request} {c : Result} (hserve : r.serve p body s = refuse c s) (hc : c.refuses = true) : refused r c :=
    exec_refuse hfree hserve hc
  refine ⟨fun h => by_owner (if_pos h) rfl, fun hp hr => by_owner (if_pos ⟨hp, hr⟩) rfl, fun hc hp => by_owner (if_pos ⟨hc, hp⟩) rfl,
    fun h => by_owner (if_pos h) rfl, fun h => by_owner (if_pos h) rfl, fun htest hp => ⟨?_, ?_, ?_⟩,
    fun hp hm => by_owner (reqRailTest_mode p body hp hm) rfl, fun h => by_owner (reqHold_wrongState p body h) rfl,
    fun h => by_owner (reqHold_alreadyHeld p body h) rfl,
    fun h => by_owner (reqRecoveryMove_refused p body (moveRefusal_wrongState h)) rfl, fun k hk => ?_⟩
  · exact by_owner (reqRun_wrongState p body htest hp) rfl
  · exact by_owner (reqBrakeTest_refused p body (testRefusal_wrongState htest hp)) rfl
  · exact by_owner (reqRailTest_refused p body (testRefusal_wrongState htest hp)) rfl
  · have htest : testRefusal s.trip.line = some .busy := by
      change testRefusal l = _
      rw [hk]; rfl
    have hmove : s.moveRefusal = some .busy := by
      simp only [State.moveRefusal, show s.trip.line = .testing k from hk]
    refine ⟨by_owner ?_ rfl, by_owner ?_ rfl, by_owner (reqRecoveryMove_refused p body hmove) rfl,
      by_owner (reqBrakeTest_refused p body htest) rfl, by_owner (reqRailTest_refused p body htest) rfl⟩
    · simp only [Request.serve, reqRun, show s.trip.line = .testing k from hk]
    · simp only [Request.serve, reqHold, show s.trip.line = .testing k from hk]

/-! ### OPEN LINE and CLOSE LINE (R47, R51) -/

theorem State.linksComplete_iff (s : State) : s.linksComplete = true ↔ ∀ x, (s.track.cars.get x).link = .complete := by
  simp only [State.linksComplete, Bool.and_eq_true, beq_iff_eq]
  exact ⟨fun h x => by cases x; exacts [h.1, h.2], fun h => ⟨h .a, h .b⟩⟩

theorem State.allShut_iff (s : State) : s.allShut = true ↔ ∀ b, BoardingShut s b := by
  simp only [State.allShut, List.all_eq_true, BerthBoard.shut_iff]
  exact ⟨fun h b => h b (mem_berthList b), fun h b _ => h b⟩

/-- The line opened at a berth. -/
theorem openLine_berthed {s : State} {b : Berth} (hline : s.trip.line = .closed) (hcert : s.rope.certainty ≠ .unknown)
    (hberth : s.berthedPair = some b) :
    openLine s = raiseAll .lineState { s with
      trip := { s.trip with line := .parked, parkedBerth := some b, consentLower := false, consentUpper := false }
      sup := s.sup.withEb true
      doors := ⟨{ s.doors.a with alignment := .aligned }, { s.doors.b with alignment := .aligned }⟩ } := by
  have hopen : openLine s = setEb true (enterAligned b s) := by simp only [openLine, if_neg hcert, hberth]
  rw [hopen]
  refine State.eq_of_blocks ?_ ?_ ?_ ?_ ?_ ?_ ?_ ?_ ?_ ?_ <;> simp [enterAligned, setAlignments, hline, LineState.noticed]

/-- The line opened away from every berth, or in doubt where it stands. -/
theorem openLine_idle {s : State} (hline : s.trip.line = .closed) (h : s.rope.certainty = .unknown ∨ s.berthedPair = none) :
    openLine s = raiseAll .lineState { s with
      trip := { s.trip with line := .recovery false, parkedBerth := none }
      sup := s.sup.withEb true
      doors := ⟨{ s.doors.a with alignment := .none }, { s.doors.b with alignment := .none }⟩ } := by
  have hnone : (if s.rope.certainty = .unknown then none else s.berthedPair) = none := by
    rcases h with h | h <;> simp [h]
  have hopen : openLine s = setEb true (enterLine (.recovery false) s) := by simp only [openLine, hnone]
  rw [hopen]
  refine State.eq_of_blocks ?_ ?_ ?_ ?_ ?_ ?_ ?_ ?_ ?_ ?_ <;>
    simp [hline, LineState.noticed, LineState.keepsBerth, LineState.clearsConsent, LineState.clearsAlignment, LineState.departs]

theorem reqOpenLine_taken {s : State} (p : Port) (hline : s.trip.line = .closed) (hvalid : s.tables.valid = true)
    (hlinks : ∀ x, (s.track.cars.get x).link = .complete) :
    reqOpenLine p [] s = (openLine s, ⟨.done, .line (openLine s).trip.line⟩) := by
  simp [reqOpenLine, hline, hvalid, s.linksComplete_iff.mpr hlinks, answerWith]

theorem closeLine_eq {s : State} (hline : s.trip.line = .parked ∨ s.trip.line = .recovery false) :
    setEb false (enterLine .closed s) = raiseAll .lineState { s with
      trip := { s.trip with line := .closed, parkedBerth := none, consentLower := false, consentUpper := false }
      sup := s.sup.withEb false
      doors := ⟨{ s.doors.a with alignment := .none }, { s.doors.b with alignment := .none }⟩ } := by
  have hnoticed : s.trip.line.noticed .closed = true := by rcases hline with h | h <;> rw [h] <;> rfl
  refine State.eq_of_blocks ?_ ?_ ?_ ?_ ?_ ?_ ?_ ?_ ?_ ?_ <;>
    simp [hnoticed, LineState.keepsBerth, LineState.clearsConsent, LineState.clearsAlignment, LineState.departs]

theorem reqCloseLine_open {s : State} (p : Port) (body : List Byte) (hline : s.trip.line = .parked ∨ s.trip.line = .recovery false) :
    reqCloseLine p body s = if body ≠ [] then refuse .badArgument s else
      if !s.allShut || s.anyGrant then refuse .interlock s else done (setEb false (enterLine .closed s)) :=
  if_neg fun h => hline.elim h.1 h.2

theorem Tables.valid_iff (t : Tables) : t.valid = true ↔
    t.header.isSome ∧ t.sections.isSome ∧ t.berths.isSome ∧ t.markers.isSome ∧ t.cars.isSome ∧ t.gates.isSome := by
  simp only [Tables.valid, Bool.and_eq_true, and_assoc]

/-- Settles O15: the two entries and the refusals before them. -/
theorem lineOpensAndCloses : Obligations.LineOpensAndCloses := by
  refine ⟨fun s hfree hline hvalid hlinks => ?opens, fun s hfree => ⟨s.tables.valid_iff, fun hline => ?openRefused, fun hline => ?closeRefused⟩,
    fun s hfree hline hshut hgrants => ?closes⟩
  case opens =>
    have htaken := reqOpenLine_taken .d hline hvalid hlinks
    refine ⟨fun b hcert hberth => ?_, fun hdoubt => ?_⟩
    · rw [openLine_berthed hline hcert hberth] at htaken
      exact exec_taken_still (r := .openLine) hfree rfl htaken rfl
    · rw [openLine_idle hline hdoubt] at htaken
      exact exec_taken_still (r := .openLine) hfree rfl htaken rfl
  case openRefused =>
    refine ⟨fun body hbody => exec_refuse hfree ?_ rfl rfl, fun hvalid => exec_refuse hfree ?_ rfl rfl,
      fun hvalid hlink => exec_refuse hfree ?_ rfl rfl⟩
    · simp [Request.serve, reqOpenLine, hline, hbody]
    · simp [Request.serve, reqOpenLine, hline, hvalid]
    · have hlinks : s.linksComplete = false := by
        rw [← Bool.not_eq_true, State.linksComplete_iff]; simpa using hlink
      simp [Request.serve, reqOpenLine, hline, hvalid, hlinks]
  case closeRefused =>
    refine ⟨fun body hbody => exec_refuse hfree ?_ rfl rfl, fun hopen => exec_refuse hfree ?_ rfl rfl⟩
    · rw [Request.serve, reqCloseLine_open _ _ hline, if_pos hbody]
    · have hinterlock : (!s.allShut || s.anyGrant) = true := by
        rcases hopen with ⟨b, hb⟩ | ⟨x, d, hg⟩
        · have : s.allShut = false := by rw [← Bool.not_eq_true, State.allShut_iff]; exact fun h => hb (h b)
          simp [this]
        · have : s.anyGrant = true := by
            rw [← Bool.not_eq_false, State.anyGrant_eq_false]; exact fun h => hg (h x d)
          simp [this]
      rw [Request.serve, reqCloseLine_open _ _ hline, if_neg (by simp), if_pos hinterlock]
  case closes =>
    have hinterlock : ¬(!s.allShut || s.anyGrant) = true := by
      simp [s.allShut_iff.mpr hshut, s.anyGrant_eq_false.mpr hgrants]
    have htaken : reqCloseLine .d [] s = done (setEb false (enterLine .closed s)) := by
      rw [reqCloseLine_open _ _ hline, if_neg (by simp), if_neg hinterlock]
    rw [closeLine_eq hline] at htaken
    exact exec_taken_still (r := .closeLine) hfree rfl htaken rfl

/-! ### MODE SET, DEPART CONSENT and WEATHER (R49, R53, R55, R56) -/

theorem reqModeSet_arg {s : State} {x : Byte} {m : Mode} (p : Port) (hline : s.trip.line = .closed ∨ s.trip.line = .parked)
    (hm : Mode.ofCode x.toNat = some m) :
    reqModeSet p [x] s =
      if m = s.trip.mode then done s else if s.modeAccepted m then done (setMode m s) else refuse .wrongState s := by
  have hopen : ¬(s.trip.line ≠ .closed ∧ s.trip.line ≠ .parked) := fun h => hline.elim h.1 h.2
  simp only [reqModeSet, if_neg hopen, hm]

/-- Whether INSPECTION may be entered: cars and pens empty, every berth CLOSED or SEALED. -/
theorem State.inspectionHolds_iff (s : State) : s.inspectionHolds = true ↔
    s.board.cars.a.onboard = 0 ∧ s.board.cars.b.onboard = 0 ∧ ∀ b, (s.board.berths.get b).pen = 0 ∧ BoardingShut s b := by
  simp only [State.inspectionHolds, Bool.and_eq_true, beq_iff_eq, List.all_eq_true, s.allShut_iff, and_assoc, forall_and]
  exact and_congr_right fun _ => and_congr_right fun _ => and_congr_left' ⟨fun h b => h b (mem_berthList b), fun h b _ => h b⟩

/-- A berth is not shut exactly where it is OPEN, ARMED or CLOSING. -/
theorem not_boardingShut_iff (s : State) (b : Berth) : ¬BoardingShut s b ↔
    (s.board.berths.get b).state = .open ∨ (s.board.berths.get b).state = .armed ∨ (s.board.berths.get b).state = .closing := by
  unfold BoardingShut
  cases (s.board.berths.get b).state <;> simp

theorem State.modeAccepted_closed {s : State} (m : Mode) (h : s.trip.line = .closed) : s.modeAccepted m = true := by
  simp only [State.modeAccepted, h]

/-- In PARKED the mode changes outside INSPECTION, into it on its conditions. -/
theorem State.modeAccepted_parked {s : State} (m : Mode) (h : s.trip.line = .parked) :
    s.modeAccepted m = true ↔ s.trip.mode ≠ .inspection ∧ (m = .inspection → s.inspectionHolds = true) := by
  cases hmode : s.trip.mode <;> cases m <;> simp [State.modeAccepted, h, hmode]

theorem reqDepartConsent_taken {p : Port} {v : Bool} {s : State} (hline : v = true → s.trip.line = .parked ∨ s.trip.line = .dispatch) :
    reqDepartConsent p [boolByte v] s = done (setConsent p v s) := by
  cases v with
  | false => rfl
  | true => rcases hline rfl with h | h <;> simp [reqDepartConsent, boolByte, h]

theorem setConsent_eq {p : Port} (v : Bool) (s : State) (hp : p ≠ .d) :
    setConsent p v s = { s with trip := { s.trip with
      consentLower := if p = .ls then v else s.trip.consentLower
      consentUpper := if p = .us then v else s.trip.consentUpper } } := by
  cases p
  case d => exact absurd rfl hp
  all_goals rfl

/-- A byte as a two's complement field is its signed value. -/
theorem signed_toNat (x : Byte) : signed 8 x.toNat = x.toInt := by
  rw [signed, BitVec.toInt_eq_toNat_cond]
  split <;> split <;> omega

theorem reqWeather_taken (p : Port) (x w : Byte) (s : State) :
    reqWeather p [x, w] s = ({ s with trip := { s.trip with weather :=
        { temp := some (max (-40) (min 60 x.toInt)), wind := min 3 w.toNat, stale := false, limit := true } } },
      ⟨.done, .weather (max (-40) (min 60 x.toInt)) (min 3 w.toNat)⟩) := by
  simp only [reqWeather, answerWith, clamp, signed_toNat]

/-- Settles O16: each request's owner, and the staleness limit. -/
theorem modeConsentAndWeatherAreSet : Obligations.ModeConsentAndWeatherAreSet := by
  refine ⟨fun x m s hfree hm => ⟨fun hline hsame => ?same,
      fun hother => ⟨fun hline => ?taken, fun hline hmode => ?held, fun hline hm' hfull => ?full⟩⟩,
    fun p v s hp hfree hline => ?consent, fun x w s hfree => exec_inert (r := .weather) hfree rfl rfl (reqWeather_taken .us x w s),
    fun s => ⟨fun h => if_pos h, fun h => if_neg (by simp [h])⟩⟩
  case same =>
    have hserve := reqModeSet_arg .d hline hm
    rw [if_pos hsame] at hserve
    exact exec_taken_still (r := .modeSet) hfree rfl hserve (by rcases hline with h | h <;> rw [h] <;> rfl)
  case taken =>
    have hopen : s.trip.line = .closed ∨ s.trip.line = .parked := hline.imp_right (·.1)
    have haccepted : s.modeAccepted m = true := by
      rcases hline with hc | ⟨hp, hmode, hempty⟩
      · exact State.modeAccepted_closed m hc
      · refine (State.modeAccepted_parked m hp).mpr ⟨hmode, fun hi => s.inspectionHolds_iff.mpr ?_⟩
        exact hempty hi
    have hserve := reqModeSet_arg .d hopen hm
    rw [if_neg hother, if_pos haccepted] at hserve
    exact exec_taken_still (r := .modeSet) hfree rfl hserve (by rcases hopen with h | h <;> simp [h] <;> rfl)
  case held =>
    have hserve := reqModeSet_arg .d (.inr hline) hm
    rw [if_neg hother, if_neg fun h => ((State.modeAccepted_parked m hline).mp h).1 hmode] at hserve
    exact exec_refuse (r := .modeSet) hfree hserve rfl rfl
  case full =>
    have hserve := reqModeSet_arg .d (.inr hline) hm
    have hnot : ¬s.modeAccepted m = true := by
      intro h
      obtain ⟨ha, hb, hberths⟩ := s.inspectionHolds_iff.mp (((State.modeAccepted_parked m hline).mp h).2 hm')
      rcases hfull with h | h | ⟨b, h | h⟩
      · exact h ha
      · exact h hb
      · exact h (hberths b).1
      · exact (not_boardingShut_iff s b).mpr h (hberths b).2
    rw [if_neg hother, if_neg hnot] at hserve
    exact exec_refuse (r := .modeSet) hfree hserve rfl rfl
  case consent =>
    have hserve : reqDepartConsent p [boolByte v] s = _ := reqDepartConsent_taken hline
    rw [setConsent_eq v s hp] at hserve
    exact exec_taken (r := .departConsent) hfree (by simpa [Request.permitted] using hp) rfl hserve rfl

end Sys2Proof.Machine
end

section
/-! PROOFS. The steps due in the line states where a sequence waits for its release, and RUN (O17). -/

namespace Sys2Proof.Machine

/-! ### Which step waits for what -/

/-- In a line state that no interlock watches the first step is none. -/
theorem settleInterlock_same {v : Bool} {s : State} (hdispatch : s.trip.line ≠ .dispatch) (hheld : s.trip.line ≠ .held)
    (hmove : s.trip.line ≠ .recovery true) : settleInterlock v s = s := by
  unfold settleInterlock
  split
  next h => exact absurd h hdispatch
  next h => exact absurd h hheld
  next h => exact absurd h hmove
  next => rfl

theorem settleHold_same {s : State} (h : s.trip.line.inMotion = true → s.trip.stop ≠ .hold) : settleHold s = s :=
  if_neg (by
    simp only [Bool.and_eq_true, beq_iff_eq, not_and]
    exact fun ⟨⟨hm, hs⟩, _⟩ => absurd hs (h hm))

theorem settleEbApplied_same {s : State} (h : s.trip.line.isTest = false) : settleEbApplied s = s := by
  unfold settleEbApplied
  split
  next hline _ => simp [hline, LineState.isTest] at h
  next => rfl

theorem settleReleased_same {s : State} (h : s.sup.sbRel = false ∨ s.sup.sbFb = false) : settleReleased s = s :=
  if_neg (by rcases h with h | h <;> simp [h])

theorem settleApplied_same {s : State} (h : s.trip.line.inMotion = true → s.trip.stop = .none) : settleApplied s = s :=
  if_neg (by
    simp only [Bool.and_eq_true, bne_iff_ne, not_and]
    exact fun ⟨⟨hm, hs⟩, _⟩ => absurd (h hm) hs)

theorem settleComplete_same {s : State} (h : s.trip.line.inMotion = true → s.trip.stop = .none) : settleComplete s = s :=
  if_neg (by
    simp only [Bool.and_eq_true, bne_iff_ne, not_and]
    exact fun ⟨⟨⟨hm, hs⟩, _⟩, _⟩ => absurd (h hm) hs)

theorem settleTest_same {s : State} (h : s.trip.line.isTest = false) : settleTest s = s := by
  unfold settleTest
  split
  · rename_i hline _
    simp [hline, LineState.isTest] at h
  · rename_i hline _
    simp [hline, LineState.isTest] at h
  · rfl

/-- Neither in a test nor in motion with a stop in hand: nothing but an interlock or a release is waited for. -/
structure Released (s : State) : Prop where
  notTest : s.trip.line.isTest = false
  noStop : s.trip.line.inMotion = true → s.trip.stop = .none

theorem setDrv_on_line (s : State) : (setDrv true s).trip.line = s.trip.line ∧ (setDrv true s).trip.stop = s.trip.stop := by
  rw [setDrv_on_trip]
  split <;> simp

/-- A trip or move that starts has no stop in hand. -/
theorem setDrv_on_released {s : State} (htest : s.trip.line.isTest = false) (hstop : s.trip.stop = .none) : Released (setDrv true s) := by
  obtain ⟨hline, hstop'⟩ := setDrv_on_line s
  exact ⟨by rw [hline, htest], fun _ => by rw [hstop', hstop]⟩

/-- The release waited for leaves a trip or move without a stop in hand. -/
theorem settleReleased_released {s : State} (h : Released s) : Released (settleReleased s) := by
  unfold settleReleased
  split
  · split
    · split
      · exact setDrv_on_released (by simp [LineState.isTest]) (by simp)
      · exact h
    · split
      · unfold restartTrip
        split
        · exact setDrv_on_released (by simp [LineState.isTest]) (by simp)
        · exact h
      · exact h
    · split
      · exact setDrv_on_released (by simpa using h.notTest) (by simp)
      · exact h
    · rename_i hline
      exact absurd h.notTest (by simp [hline, LineState.isTest])
    · rename_i hline
      exact absurd h.notTest (by simp [hline, LineState.isTest])
    · exact h
  · exact h

/-- Where no test and no stop is in hand, an event's steps are those of an interlock and of a release. -/
theorem settleWith_released {v : Bool} {s t : State} (hinterlock : settleInterlock v s = t) (h : Released t) :
    settleWith v s = settleReleased t := by
  have hafter := settleReleased_released h
  have hhold : settleHold t = t := settleHold_same fun hm => by rw [h.noStop hm]; decide
  rw [settleWith, hinterlock, hhold, settleEbApplied_same h.notTest, settleApplied_same hafter.noStop, settleComplete_same hafter.noStop,
    settleTest_same hafter.notTest]

/-! ### RUN (R60, R61) -/

theorem Dir.ofCode_code (d : Dir) : Dir.ofCode (byteOf d.code).toNat = some d := by cases d <;> rfl

theorem Dir.ofCode_eq_none {n : Nat} (h : 1 < n) : Dir.ofCode n = none := by
  obtain ⟨k, rfl⟩ : ∃ k, n = k + 2 := ⟨n - 2, by omega⟩
  rfl

/-- The target that R60 names is car A's target. -/
theorem runTarget_isTarget {d : Dir} {halt : Bool} {start target : Berth} (h : IsTarget d halt start target) :
    runTarget d halt start = some target := by
  cases d <;> cases halt <;> cases start <;> cases target <;> simp [IsTarget, Berth.idx] at h <;> rfl

/-- UP from B3 and DOWN from B0 have no target. -/
theorem runTarget_eq_none_iff (d : Dir) (halt : Bool) (start : Berth) :
    runTarget d halt start = none ↔ d = .up ∧ start = .b3 ∨ d = .down ∧ start = .b0 := by
  cases d <;> cases start <;> simp [runTarget, nextBerthIn]

theorem State.restricted_iff (s : State) : s.restricted = true ↔ ∃ k, (s.sched.obligations.get k).debt = 3 := by
  simp only [State.restricted, Bool.or_eq_true, beq_iff_eq]
  constructor
  · rintro ((h | h) | h)
    exacts [⟨.eb, h⟩, ⟨.railA, h⟩, ⟨.railB, h⟩]
  · rintro ⟨k, h⟩
    cases k
    exacts [.inl (.inl h), .inl (.inr h), .inr h]

theorem reqRun_args {s : State} (p : Port) (d : Dir) (halt : Bool) (v1 v0 : Byte) (hline : s.trip.line = .parked) :
    reqRun p [byteOf d.code, boolByte halt, v1, v0] s = runWith d halt (beNat [v1, v0]) s := by
  have hhalt : (decide (boolByte halt = 1)) = halt ∧ ¬1 < (boolByte halt).toNat := by cases halt <;> decide
  simp only [reqRun, hline, Dir.ofCode_code, if_neg hhalt.2, hhalt.1]

theorem reqRun_badBody {s : State} (p : Port) {l : List Byte} (hline : s.trip.line = .parked)
    (h : ∀ x h y z, l = [x, h, y, z] → 1 < x.toNat ∨ 1 < h.toNat) : reqRun p l s = refuse .badArgument s := by
  simp only [reqRun, hline]
  split
  next x halt y z =>
    rcases h x halt y z rfl with hx | hh
    · rw [Dir.ofCode_eq_none hx]
    · cases Dir.ofCode x.toNat with
      | none => rfl
      | some d => exact if_pos hh
  next => rfl

theorem runWith_noTarget {s : State} {d : Dir} {halt : Bool} {start : Berth} (speed : Nat) (hstart : s.trip.parkedBerth = some start)
    (h : runTarget d halt start = none) : runWith d halt speed s = refuse .badArgument s := by
  simp [runWith, hstart, h]

theorem runWith_target {s : State} {d : Dir} {halt : Bool} {start target : Berth} (speed : Nat)
    (hstart : s.trip.parkedBerth = some start) (h : runTarget d halt start = some target) :
    runWith d halt speed s =
      if s.trip.weather.wind = 3 then refuse .weather s
      else if s.trip.mode ≠ .inspection ∧ s.restricted then refuse .restricted s
      else answerWith .accepted (.run (nextNumber s.trip.number) target target.mirror (clampSpeed s.vLine speed))
        (acceptRun d (clampSpeed s.vLine speed) start target s) := by
  simp [runWith, hstart, h]

theorem berth_mirror_ne (b : Berth) : b.mirror ≠ b := by cases b <;> decide

@[simp] theorem moveBerth_get_same (b : Berth) (s : State) : (moveBerth b s).board.berths.get b = (s.board.berths.get b).moveOut := by
  simp

theorem moveBerth_get_ne {b k : Berth} (s : State) (h : b ≠ k) : (moveBerth k s).board.berths.get b = s.board.berths.get b := by
  simp [PerBerth.get_set_ne _ _ _ _ h]

/-- A starting berth and its mirror moved, where withdrawals moved some berths before. -/
theorem moveBerths_get {b k : Berth} {s u : State} (h : u.board.berths.get b = s.board.berths.get b ∨
    u.board.berths.get b = (s.board.berths.get b).moveOut) (hb : b = k ∨ b = k.mirror) :
    (moveBerth k.mirror (moveBerth k u)).board.berths.get b = (s.board.berths.get b).moveOut := by
  have hmoved : (u.board.berths.get b).moveOut = (s.board.berths.get b).moveOut := by
    rcases h with e | e <;> simp [e]
  rcases hb with rfl | rfl
  · rw [moveBerth_get_ne _ (berth_mirror_ne b).symm, moveBerth_get_same, hmoved]
  · rw [moveBerth_get_same, moveBerth_get_ne _ (berth_mirror_ne k), hmoved]

/-- What a move out of OPEN and ARMED leaves of any berth. -/
theorem moveBerth_keeps (k b : Berth) (s : State) :
    ((moveBerth k s).board.berths.get b).pen = (s.board.berths.get b).pen ∧
    ((moveBerth k s).board.berths.get b).alighting = (s.board.berths.get b).alighting ∧
    ((moveBerth k s).board.berths.get b).pending = (s.board.berths.get b).pending := by
  by_cases h : b = k
  · subst h
    obtain ⟨hpen, halight, hpending, -⟩ := moveOut_keeps (s.board.berths.get b)
    rw [moveBerth_get_same]
    exact ⟨hpen, halight, hpending⟩
  · rw [moveBerth_get_ne s h]
    exact ⟨rfl, rfl, rfl⟩

theorem withdrawAll_keeps (b : Berth) (s : State) :
    ((withdrawAll s).board.berths.get b).pen = (s.board.berths.get b).pen ∧
    ((withdrawAll s).board.berths.get b).alighting = (s.board.berths.get b).alighting ∧
    ((withdrawAll s).board.berths.get b).pending = (s.board.berths.get b).pending := by
  obtain ⟨hpen, halight, hpending, -⟩ := moveOut_keeps (s.board.berths.get b)
  rcases (withdrawAll_board s).2 b with h | h <;> rw [h]
  · exact ⟨rfl, rfl, rfl⟩
  · exact ⟨hpen, halight, hpending⟩

/-- The line just entered in DISPATCH, before the starting berths move. -/
def dispatchEntered (r : TripRecord) (s : State) : State :=
  enterLine .dispatch { s with trip := { s.trip with number := r.number, record := some r, stage := some .waiting, dispatchLimit := true } }

theorem dispatchEntered_board (r : TripRecord) (s : State) : (dispatchEntered r s).board = s.board := by
  simp [dispatchEntered, LineState.departs]

theorem State.present_congr {s t : State} {x : Car} {d : Side} (h : t.track.cars = s.track.cars) : t.present x d = s.present x d := by
  rw [State.present, h, State.present]

theorem haltOf_eq (b : Berth) : haltOf b = if b = .b1 ∨ b = .b2 then some b else none := by cases b <;> rfl

/-- The record that an accepted RUN forms (R61). -/
def runRecord (d : Dir) (speed : Nat) (start target : Berth) (s : State) : TripRecord :=
  ⟨nextNumber s.trip.number, .run, d, speed, some start, ⟨target, target.mirror⟩, haltOf target, none⟩

theorem acceptRun_eq (d : Dir) (speed : Nat) (start target : Berth) (s : State) :
    acceptRun d speed start target s =
      moveBerth start.mirror (moveBerth start (closeAll (withdrawAll (dispatchEntered (runRecord d speed start target s) s)))) :=
  rfl

theorem dispatchEntered_trip (r : TripRecord) (s : State) : (dispatchEntered r s).trip =
    { s.trip with number := r.number, line := .dispatch, stage := some .waiting, dispatchLimit := true, parkedBerth := none, record := some r } := by
  simp [dispatchEntered, LineState.keepsBerth, LineState.clearsConsent]

theorem dispatchEntered_doors (r : TripRecord) (s : State) : (dispatchEntered r s).doors = s.doors := by
  simp [dispatchEntered, LineState.clearsAlignment]

theorem acceptRun_trip (d : Dir) (speed : Nat) (start target : Berth) (s : State) :
    (acceptRun d speed start target s).trip = { s.trip with
      number := nextNumber s.trip.number, line := .dispatch, stage := some .waiting, dispatchLimit := true, parkedBerth := none
      record := some (runRecord d speed start target s) } := by
  simp [acceptRun_eq, dispatchEntered_trip, runRecord]

theorem acceptRun_anyGrant (d : Dir) (speed : Nat) (start target : Berth) (s : State) : (acceptRun d speed start target s).anyGrant = false := by
  rw [acceptRun_eq]
  exact (closeAll_anyGrant _).trans (withdrawAll_anyGrant _)

/-- The doors after an accepted RUN: every grant dropped, every side with a leaf ordered closed. -/
theorem acceptRun_doors (d : Dir) (speed : Nat) (start target : Berth) (s : State) (x : Car) :
    let c := (((s.doors.get x).dropGrant .left).dropGrant .right)
    (acceptRun d speed start target s).doors.get x =
      { c with close := ⟨c.close.left || s.present x .left != 0, c.close.right || s.present x .right != 0⟩ } := by
  have hpresent (y : Car) (c : Side) : (withdrawAll (dispatchEntered (runRecord d speed start target s) s)).present y c = s.present y c :=
    State.present_congr (by simp [dispatchEntered])
  cases x <;> simp [acceptRun_eq, hpresent, dispatchEntered_doors, PerCar.get]

theorem acceptRun_berth {d : Dir} {speed : Nat} {start target b : Berth} {s : State} (hb : b = start ∨ b = start.mirror) :
    (acceptRun d speed start target s).board.berths.get b = (s.board.berths.get b).moveOut := by
  rw [acceptRun_eq]
  refine moveBerths_get ?_ hb
  have hboard := (withdrawAll_board (dispatchEntered (runRecord d speed start target s) s)).2 b
  rw [dispatchEntered_board] at hboard
  simpa using hboard

theorem acceptRun_counts (d : Dir) (speed : Nat) (start target b : Berth) (s : State) :
    let v := (acceptRun d speed start target s).board.berths.get b
    (v.pen, v.alighting, v.pending) = ((s.board.berths.get b).pen, (s.board.berths.get b).alighting, (s.board.berths.get b).pending) := by
  generalize hr : runRecord d speed start target s = r
  obtain ⟨hpen, halight, hpending⟩ := withdrawAll_keeps b (dispatchEntered r s)
  rw [dispatchEntered_board] at hpen halight hpending
  obtain ⟨hpen1, halight1, hpending1⟩ := moveBerth_keeps start b (closeAll (withdrawAll (dispatchEntered r s)))
  obtain ⟨hpen2, halight2, hpending2⟩ := moveBerth_keeps start.mirror b (moveBerth start (closeAll (withdrawAll (dispatchEntered r s))))
  simp only [acceptRun_eq, hr, hpen2, hpen1, halight2, halight1, hpending2, hpending1]
  simp [hpen, halight, hpending]

/-- Nothing is due at the acceptance of RUN: the dispatch waits for an event that changes a part of its interlock (log entry 23). -/
theorem settle_waiting {b s : State} (hbefore : b.trip.line ≠ .dispatch) (hline : s.trip.line = .dispatch) (hstage : s.trip.stage = some .waiting) :
    settle b s = s := by
  have hinterlock : settleInterlock false s = s := by simp [settleInterlock, hline, hstage]
  have heval : (b.trip.line == .dispatch && b.departureParts != s.departureParts) = false := by simp [hbefore]
  rw [settle, heval, settleWith_released hinterlock ⟨by simp [hline, LineState.isTest], by simp [hline, LineState.inMotion]⟩]
  simp [settleReleased, hline, hstage]

/-- Settles O17: the refusals in their order, and an accepted RUN block by block. -/
theorem runStartsADispatch : Obligations.RunStartsADispatch := by
  refine ⟨?refused, ?taken⟩
  case refused =>
    intro d halt v1 v0 start s hfree hline hstart refused body noTarget
    have by_owner {l : List Byte} {c : Result} (hserve : reqRun .d l s = refuse c s) (hc : c.refuses = true) : refused l c :=
      exec_refuse (r := .run) hfree hserve hc rfl
    have hargs := reqRun_args .d d halt v1 v0 hline
    refine ⟨fun l hl => by_owner (reqRun_badBody .d hline hl) rfl, fun hno => ?_, fun hno hwind => ?_, fun hno hwind hmode hdebt => ?_⟩
    · exact by_owner (hargs.trans (runWith_noTarget _ hstart ((runTarget_eq_none_iff d halt start).mpr hno))) rfl
    all_goals
      obtain ⟨target, htarget⟩ := Option.ne_none_iff_exists'.mp fun h => hno ((runTarget_eq_none_iff d halt start).mp h)
      rw [runWith_target _ hstart htarget] at hargs
    · rw [if_pos hwind] at hargs
      exact by_owner hargs rfl
    · rw [if_neg hwind, if_pos ⟨hmode, s.restricted_iff.mpr hdebt⟩] at hargs
      exact by_owner hargs rfl
  case taken =>
    intro d halt v1 v0 start target s hfree hline hstart htarget hwind hdebt body v n hn
    have hnumber : nextNumber s.trip.number = n := by
      simp only [nextNumber, n]; split <;> omega
    have hspeed : clampSpeed s.vLine (beNat [v1, v0]) = v := by simp [clampSpeed, beNat, v]
    have hserve := reqRun_args .d d halt v1 v0 hline
    have hopen : ¬(s.trip.mode ≠ .inspection ∧ s.restricted = true) := by
      rintro ⟨hm, hr⟩
      obtain ⟨k, hk⟩ := s.restricted_iff.mp hr
      rcases hdebt with h | h
      · exact hm h
      · exact h k hk
    rw [runWith_target _ hstart (runTarget_isTarget htarget), if_neg hwind, if_neg hopen, hnumber, hspeed] at hserve
    have htrip := acceptRun_trip d v start target s
    rw [hnumber] at htrip
    have hdoors := acceptRun_doors d v start target s
    have hexec := exec_taken (r := .run) (body := body) hfree rfl rfl hserve rfl
    rw [settle_waiting (by rw [hline]; decide) (by rw [htrip]) (by rw [htrip])] at hexec
    refine ⟨_, hexec, ?_, acceptRun_anyGrant d v start target s, fun x c hc => ?_, fun b hb => acceptRun_berth hb,
      fun b => acceptRun_counts d v start target b s, fun x => ?_, ?_, ?_, ?_, ?_, ?_, ?_, ?_⟩
    · rw [htrip, runRecord, hnumber, haltOf_eq]
    · rw [hdoors]
      have hleaf : (s.present x c != 0) = true := bne_iff_ne.mpr hc
      cases c <;> simp only [PerSide.get, hleaf, Bool.or_true]
    · simp [hdoors]
    · simp [acceptRun_eq, dispatchEntered, hline, LineState.noticed, PortState.raise]
    all_goals simp [acceptRun_eq, dispatchEntered, (withdrawAll_board _).1, LineState.departs]

end Sys2Proof.Machine
end

section
/-! PROOFS. The departure interlock and what a dispatch waits for (O18), and HOLD (O19). -/

namespace Sys2Proof.Machine

/-! ### The interlock and its parts (R63) -/

/-- A car's latest status block reports a passenger alarm. -/
def AlarmReported (s : State) (x : Car) : Prop := ∃ k, (s.track.cars.get x).block = some k ∧ k.alarm = true

theorem State.anyAlarm_iff (s : State) : s.anyAlarm = true ↔ ∃ x, AlarmReported s x := by
  rw [State.anyAlarm, Bool.or_eq_true, CarLink.alarm_iff, CarLink.alarm_iff]
  constructor
  · rintro (h | h)
    exacts [⟨.a, h⟩, ⟨.b, h⟩]
  · rintro ⟨x, h⟩
    cases x
    exacts [.inl h, .inr h]

theorem State.anyAlarm_eq_false (s : State) : s.anyAlarm = false ↔ ∀ x, ¬AlarmReported s x := by
  rw [← Bool.not_eq_true, State.anyAlarm_iff, not_exists]

theorem State.anyGrant_iff (s : State) : s.anyGrant = true ↔ ∃ x d, (s.doors.get x).grants.get d ≠ none := by
  rw [← Bool.not_eq_false, State.anyGrant_eq_false]
  push Not
  rfl

theorem State.pairShut_iff (s : State) (b : Berth) : s.pairShut b = true ↔ BoardingShut s b ∧ BoardingShut s b.mirror := by
  rw [State.pairShut, Bool.and_eq_true, BerthBoard.shut_iff, BerthBoard.shut_iff]

/-- The departure interlock of a dispatch from berth `b`, part by part. -/
theorem State.departureHolds_iff {s : State} {r : TripRecord} {b : Berth} (hr : s.trip.record = some r) (hb : r.start = some b) :
    s.departureHolds = true ↔
      CarsReady s ∧ BoardingShut s b ∧ BoardingShut s b.mirror ∧ s.trip.consentLower = true ∧ s.trip.consentUpper = true ∧
        s.sup.ebFb = true ∧ (∀ x, ¬AlarmReported s x) ∧ s.rope.certainty ≠ .unknown ∧ s.sup.causes = [] := by
  have hstart : (s.trip.record.bind fun r => r.start) = some b := by rw [hr]; exact hb
  have hready := carsReady_iff s
  rw [State.departureHolds, hstart]
  generalize (s.linksComplete && s.bothSecure && !s.anyGrant) = ready at hready ⊢
  simp only [Bool.and_eq_true, hready, State.pairShut_iff, Bool.not_eq_true', State.anyAlarm_eq_false, bne_iff_ne, List.isEmpty_iff,
    and_assoc]

/-- A dispatch from berth `b` is judged again exactly at a change of one of these figures. -/
theorem State.departureParts_eq_iff {s t : State} {r : TripRecord} {b : Berth} (hs : s.trip.record = some r) (ht : t.trip.record = some r)
    (hb : r.start = some b) :
    t.departureParts = s.departureParts ↔
      (∀ x, (t.track.cars.get x).link = (s.track.cars.get x).link ∧ (DoorsSecure t x ↔ DoorsSecure s x) ∧
        (AlarmReported t x ↔ AlarmReported s x)) ∧
      ((∃ x d, (t.doors.get x).grants.get d ≠ none) ↔ ∃ x d, (s.doors.get x).grants.get d ≠ none) ∧
      (∀ k, k = b ∨ k = b.mirror → (t.board.berths.get k).state = (s.board.berths.get k).state) ∧
      t.trip.consentLower = s.trip.consentLower ∧ t.trip.consentUpper = s.trip.consentUpper ∧
      t.sup.ebFb = s.sup.ebFb ∧ t.rope.certainty = s.rope.certainty ∧ t.sup.causes = s.sup.causes := by
  have hcar (x : Car) : ((t.track.cars.get x).link = (s.track.cars.get x).link ∧ (DoorsSecure t x ↔ DoorsSecure s x) ∧
      (AlarmReported t x ↔ AlarmReported s x)) ↔
      (t.track.cars.get x).link = (s.track.cars.get x).link ∧ t.secure x = s.secure x ∧
        (t.track.cars.get x).alarm = (s.track.cars.get x).alarm := by
    rw [AlarmReported, AlarmReported, ← CarLink.alarm_iff, ← CarLink.alarm_iff, ← State.secure_iff, ← State.secure_iff,
      ← Bool.eq_iff_iff, ← Bool.eq_iff_iff]
  have hgrant : ((∃ x d, (t.doors.get x).grants.get d ≠ none) ↔ ∃ x d, (s.doors.get x).grants.get d ≠ none) ↔ t.anyGrant = s.anyGrant := by
    rw [← State.anyGrant_iff, ← State.anyGrant_iff, ← Bool.eq_iff_iff]
  have hbound (u : State) (hu : u.trip.record = some r) : (u.trip.record.bind fun r => r.start) = some b := by rw [hu]; exact hb
  have hcars (p : Car → Prop) : (∀ x, p x) ↔ p .a ∧ p .b := ⟨fun h => ⟨h .a, h .b⟩, fun h x => by cases x; exacts [h.1, h.2]⟩
  simp only [hcar, hgrant, hcars, State.departureParts, hbound s hs, hbound t ht, Option.map_some, DepartureParts.mk.injEq, PerCar.map,
    PerCar.mk.injEq, Prod.mk.injEq, Option.some.injEq, forall_eq_or_imp, forall_eq]
  constructor
  · rintro ⟨⟨la, lb⟩, ⟨sa, sb⟩, g, ⟨ka, kb⟩, ⟨cl, cu⟩, e, ⟨aa, ab⟩, cert, causes⟩
    exact ⟨⟨⟨la, sa, aa⟩, lb, sb, ab⟩, g, ⟨ka, kb⟩, cl, cu, e, cert, causes⟩
  · rintro ⟨⟨⟨la, sa, aa⟩, lb, sb, ab⟩, g, ⟨ka, kb⟩, cl, cu, e, cert, causes⟩
    exact ⟨⟨la, lb⟩, ⟨sa, sb⟩, g, ⟨ka, kb⟩, ⟨cl, cu⟩, e, ⟨aa, ab⟩, cert, causes⟩

/-! ### The steps of a dispatch (R63, R64) -/

theorem Released.dispatch {s : State} (h : s.trip.line = .dispatch) : Released s :=
  ⟨by simp [h, LineState.isTest], by simp [h, LineState.inMotion]⟩

theorem settleInterlock_waiting {v : Bool} {s : State} (hline : s.trip.line = .dispatch) (hstage : s.trip.stage = some .waiting) :
    settleInterlock v s =
      if v && s.departureHolds then setSb true { s with trip := { s.trip with stage := some .releasing } } else s := by
  simp only [settleInterlock, hline, hstage]

theorem settleInterlock_releasing {v : Bool} {s : State} (hline : s.trip.line = .dispatch) (hstage : s.trip.stage = some .releasing) :
    settleInterlock v s =
      if s.departureHolds then s else setSb false { s with trip := { s.trip with stage := some .waiting } } := by
  simp only [settleInterlock, hline, hstage]

/-- In a dispatch nothing but SB's report of released, in stage RELEASING with the interlock holding, starts the trip. -/
theorem settleReleased_dispatch {s : State} (hline : s.trip.line = .dispatch) :
    settleReleased s =
      if s.sup.sbRel = true ∧ s.sup.sbFb = true ∧ s.trip.stage = some .releasing ∧ s.departureHolds = true then startTrip s else s := by
  simp only [settleReleased, hline, Bool.and_eq_true, decide_eq_true_eq]
  split
  · rename_i h
    simp [h]
  · rename_i h
    rw [if_neg fun k => h ⟨k.1, k.2.1⟩]

theorem depart_eq (v : BerthBoard) : v.depart = if v.state = .sealed then { v with state := .closed } else v := by
  unfold BerthBoard.depart
  cases h : v.state <;> simp

/-- The trip started: RUNNING in phase ACCEL from setpoint 0 with DRV_EN energised (R64, R67). -/
theorem startTrip_eq {s : State} (hline : s.trip.line = .dispatch) (hdrv : s.sup.drvEn = false) :
    startTrip s = raiseAll .lineState { s with
      trip := { s.trip with
        line := .running .accel, stage := none, dispatchLimit := false, stop := .none, holdCause := none, held := 0, forming := 0
        stepping := true, distances := false, parkedBerth := none }
      sup := { s.sup with drvEn := true }
      doors := ⟨{ s.doors.a with alignment := .none }, { s.doors.b with alignment := .none }⟩
      board := { s.board with berths := s.board.berths.map fun v => if v.state = .sealed then { v with state := .closed } else v } } := by
  have hmap : BerthBoard.depart = fun v => if v.state = .sealed then { v with state := .closed } else v := funext depart_eq
  refine State.eq_of_blocks ?_ ?_ ?_ ?_ ?_ ?_ ?_ ?_ ?_ ?_ <;>
    simp [startTrip, setDrv_on_trip, hline, hdrv, hmap, LineState.noticed, LineState.keepsBerth, LineState.clearsConsent,
      LineState.clearsAlignment, LineState.departs, LineState.supervised, LineState.inMotion]

/-! ### The end of a dispatch (R65, R66) -/

/-- De-energising SB_REL does not read the trip block but for the line state. -/
theorem setSb_off_withTrip (v : Trip) (s : State) (h : v.line = s.trip.line) :
    setSb false { s with trip := v } = { setSb false s with trip := v } := by
  unfold setSb armRollaway
  by_cases hsb : s.sup.sbRel = false
  · simp [hsb]
  · simp only [hsb, h, if_false, Bool.false_eq_true]
    split_ifs <;> rfl

/-- A dispatch returned to PARKED at its starting berth. -/
theorem endDispatch_eq {s : State} {r : TripRecord} {b : Berth} (e : Ending) (hline : s.trip.line = .dispatch) (hr : s.trip.record = some r)
    (hlive : r.ending = none) (hb : r.start = some b) :
    endDispatch e s = raiseAll .lineState { setSb false s with trip := { s.trip with
      line := .parked, parkedBerth := some b, stage := none, dispatchLimit := false, consentLower := false, consentUpper := false
      record := some { r with ending := some e } } } := by
  have hstart : (s.trip.record.bind fun r => r.start) = some b := by rw [hr]; exact hb
  rw [endDispatch, setSb_off_withTrip _ s (by rfl), hstart]
  refine State.eq_of_blocks ?_ ?_ ?_ ?_ ?_ ?_ ?_ ?_ ?_ ?_ <;> simp [hline, hr, hlive, LineState.noticed]

/-- Settles O18: the interlock by its parts, the dispatch's ends, and its stages. -/
theorem dispatchStartsOrEnds : Obligations.DispatchStartsOrEnds := by
  intro p r b s hline hr hlive hb ended alarm
  have hend (e : Ending) : endDispatch e s = ended e := endDispatch_eq e hline hr hlive hb
  refine ⟨State.departureHolds_iff hr hb, fun hfree => ?hold, fun hlimit => ?timeout, fun hlimit => ?stopped, fun before => ?steps⟩
  case hold =>
    have hserve : Request.hold.serve p [] s = (endDispatch .cancelled s, ⟨.done, .none⟩) := by
      simp [Request.serve, reqHold, hline, holdBody, done]
    rw [hend] at hserve
    exact exec_taken_still (r := .hold) hfree (by cases p <;> rfl) hserve rfl
  case timeout =>
    change execDispatchTimeout s = _
    rw [execDispatchTimeout, if_pos ⟨hlimit, hline⟩, hend]
    exact congrArg Host.Outcome.next (settle_still _ _ rfl)
  case stopped =>
    change execDispatchTimeout s = _
    rw [execDispatchTimeout, if_neg (by simp [hlimit])]
  case steps =>
    intro changed
    have heval : (before.trip.line == .dispatch && before.departureParts != s.departureParts) = decide changed := by
      rw [Bool.eq_iff_iff]; simp [changed]
    have hrel : Released s := .dispatch hline
    refine ⟨fun hbefore => State.departureParts_eq_iff hr hbefore hb, fun hstage hchanged hholds hfb => ?_, fun hstage hnot => ?_,
      fun hstage hfails => ?_, fun hstage hholds hsb => ?_, fun hstage hholds hsb hfb hdrv => ?_⟩
    all_goals rw [settle, heval]
    · have hnext : settleInterlock (decide changed) s = setSb true { s with trip := { s.trip with stage := some .releasing } } := by
        rw [settleInterlock_waiting hline hstage, if_pos (by simp [hchanged, hholds])]
      rw [settleWith_released hnext (.dispatch (by simp [hline])), settleReleased_same (.inr (by simp [hfb]))]
    · have hnext : settleInterlock (decide changed) s = s := by
        rw [settleInterlock_waiting hline hstage, if_neg (by rcases hnot with h | h <;> simp [h])]
      rw [settleWith_released hnext hrel, settleReleased_dispatch hline, if_neg (by simp [hstage])]
    · have hnext : settleInterlock (decide changed) s = setSb false { s with trip := { s.trip with stage := some .waiting } } := by
        rw [settleInterlock_releasing hline hstage, if_neg (by simp [hfails])]
      rw [settleWith_released hnext (.dispatch (by simp [hline])), settleReleased_same (.inl (by simp))]
    all_goals
      have hnext : settleInterlock (decide changed) s = s := by
        rw [settleInterlock_releasing hline hstage, if_pos hholds]
      rw [settleWith_released hnext hrel]
    · exact settleReleased_same hsb
    · rw [settleReleased_dispatch hline, if_pos ⟨hsb, hfb, hstage, hholds⟩, startTrip_eq hline hdrv]

/-! ### HOLD (R78, R87, R88) -/

theorem holdTrip_eq {s : State} {ph : Phase} (c : HoldCause) (hline : s.trip.line = .running ph) :
    holdTrip c s = { s with trip := { s.trip with line := .running .holding, stop := .hold, holdCause := some c } } := by
  simp only [holdTrip, setPhase, hline]

theorem reqHold_running {s : State} {ph : Phase} (p : Port) (hline : s.trip.line = .running ph) (hph : ph ≠ .holding) :
    reqHold p [] s = (holdTrip (.request p) s, ⟨.accepted, .none⟩) := by
  cases ph
  case holding => exact absurd rfl hph
  all_goals simp [reqHold, hline, holdBody]

theorem reqHold_moving {s : State} (p : Port) (hline : s.trip.line = .recovery true) (hstop : s.trip.stop = .none ∨ s.trip.stop = .profile) :
    reqHold p [] s = (holdMove (.request p) s, ⟨.accepted, .none⟩) := by
  rcases hstop with h | h <;> simp [reqHold, hline, h, holdBody]

end Sys2Proof.Machine
end

section
/-! PROOFS. The end of a trip or move at its berths, short of them, or before it began; HOLD (O19). -/

namespace Sys2Proof.Machine

/-! ### Berthing, and the end of a move away from its berths (R75, R80, R88) -/

/-- A car's alignment is judged by its position and the berth's switch. -/
theorem State.alignedAt_congr {s t : State} (htables : t.tables = s.tables) (hrope : t.rope = s.rope) (x : Car) (b : Berth) :
    t.alignedAt x b = s.alignedAt x b := by
  cases s; cases t; cases htables; cases hrope
  rfl

/-- The state of a berthing before automatic release. -/
def berthedAt (r : TripRecord) (s : State) : State :=
  raiseAll .berthed (enterParked r.target.a (endRecord .berthed (judgeAt r.target.a r.target.b (clearStop s))))

theorem berth_eq {s : State} {r : TripRecord} (hr : s.trip.record = some r) : berth s = autoRelease r.target.a (berthedAt r s) := by
  simp only [berth, hr]
  rfl

theorem berth_trip {s : State} {r : TripRecord} (hr : s.trip.record = some r) (hlive : r.ending = none) :
    (berth s).trip = { s.trip with
      line := .parked, parkedBerth := some r.target.a, consentLower := false, consentUpper := false, stop := .none, holdCause := none
      record := some { r with ending := some .berthed } } := by
  simp [berth_eq hr, berthedAt, hr, hlive]

theorem berth_links {s : State} {r : TripRecord} (hr : s.trip.record = some r) (hline : s.trip.line.noticed .parked = true) :
    (berth s).links = s.links.map fun q => { q with flags := q.flags ||| Notice.lineState.bit ||| Notice.berthed.bit } := by
  simp [berth_eq hr, berthedAt, hline, PerPort.map, PortState.raise]

theorem berth_board {s : State} {r : TripRecord} (hr : s.trip.record = some r) : (berth s).board = s.board := by
  simp [berth_eq hr, berthedAt]

/-- The end of a recovery move away from its berths (R88). -/
def moveIdled (r : TripRecord) (s : State) : State :=
  enterLine (.recovery false) (endRecord .idle (judgeAt r.target.a r.target.b (clearStop s)))

theorem moveIdled_trip {s : State} {r : TripRecord} (hr : s.trip.record = some r) (hlive : r.ending = none) :
    (moveIdled r s).trip = { s.trip with
      line := .recovery false, parkedBerth := none, stop := .none, holdCause := none, record := some { r with ending := some .idle } } := by
  simp [moveIdled, hr, hlive, LineState.keepsBerth, LineState.clearsConsent]

@[simp] theorem moveIdled_frame (r : TripRecord) (s : State) :
    (moveIdled r s).tables = s.tables ∧ (moveIdled r s).rope = s.rope ∧ (moveIdled r s).sup = s.sup ∧ (moveIdled r s).sched = s.sched ∧
    (moveIdled r s).track = s.track ∧ (moveIdled r s).board = s.board := by
  simp [moveIdled, LineState.departs]

/-- A move ends at its berths with both cars aligned there and certainty KNOWN, whatever its stop but a service stop. -/
theorem endMove_outcome (k : StopKind) {s : State} {r : TripRecord} (hr : s.trip.record = some r) :
    endMove k s =
      if k ≠ .service ∧ (moveEnding k s).rope.certainty = .known ∧ (moveEnding k s).targetsAligned = true then berth (moveEnding k s)
      else moveIdled r (moveEnding k s) := by
  simp only [endMove_eq, hr, Bool.and_eq_true, bne_iff_ne, beq_iff_eq, and_assoc]
  rfl

theorem State.targetsAligned_iff {s : State} {r : TripRecord} (hr : s.trip.record = some r) :
    s.targetsAligned = true ↔ s.alignedAt .a r.target.a = true ∧ s.alignedAt .b r.target.b = true := by
  rw [State.targetsAligned, hr, Bool.and_eq_true]

/-- A move ended without having moved: SB_REL de-energised and the release over. -/
def releaseEnded (s : State) : State := { setSb false s with trip := { s.trip with moveRelease := false } }

theorem moveEnding_released {k : StopKind} (s : State) (hk : k = .none ∨ k = .hold) : moveEnding k s = releaseEnded s := by
  rcases hk with rfl | rfl <;> simp [moveEnding, releaseEnded]

/-- What a move that ends without having moved leaves (R85, R88). -/
structure ReleaseOutcome (r : TripRecord) (s t : State) : Prop where
  sup : t.sup = (setSb false s).sup
  stop : t.trip.stop = .none
  holdCause : t.trip.holdCause = none
  released : t.trip.moveRelease = false
  berthed : s.rope.certainty = .known ∧ s.alignedAt .a r.target.a = true ∧ s.alignedAt .b r.target.b = true →
    t.trip.line = .parked ∧ t.trip.parkedBerth = some r.target.a ∧ t.trip.record = some { r with ending := some .berthed }
  idle : ¬(s.rope.certainty = .known ∧ s.alignedAt .a r.target.a = true ∧ s.alignedAt .b r.target.b = true) →
    t.trip.line = .recovery false ∧ t.trip.parkedBerth = none ∧ t.trip.record = some { r with ending := some .idle }
  rope : t.rope = s.rope
  tables : t.tables = s.tables
  track : t.track = s.track
  sched : t.sched = s.sched
  number : t.trip.number = s.trip.number
  offsets : t.trip.offsets = s.trip.offsets

theorem endMove_released {k : StopKind} {s : State} {r : TripRecord} (hk : k = .none ∨ k = .hold) (hr : s.trip.record = some r)
    (hlive : r.ending = none) : ReleaseOutcome r s (endMove k s) := by
  have hend := endMove_outcome k hr
  rw [moveEnding_released s hk] at hend
  have hr' : (releaseEnded s).trip.record = some r := hr
  have haligned : (releaseEnded s).targetsAligned = true ↔ s.alignedAt .a r.target.a = true ∧ s.alignedAt .b r.target.b = true := by
    have hcongr (x : Car) (b : Berth) : (releaseEnded s).alignedAt x b = s.alignedAt x b :=
      State.alignedAt_congr (by simp [releaseEnded]) (by simp [releaseEnded]) x b
    rw [State.targetsAligned_iff hr', hcongr, hcongr]
  have hcert : (releaseEnded s).rope.certainty = s.rope.certainty := by simp [releaseEnded]
  have hservice : k ≠ .service := by rcases hk with rfl | rfl <;> decide
  simp only [haligned, hcert] at hend
  by_cases hberthed : s.rope.certainty = .known ∧ s.alignedAt .a r.target.a = true ∧ s.alignedAt .b r.target.b = true
  · rw [if_pos ⟨hservice, hberthed⟩] at hend
    rw [hend]
    constructor <;> simp [berth_trip hr' hlive, hberthed] <;> simp [releaseEnded]
  · rw [if_neg fun h => hberthed h.2] at hend
    rw [hend]
    constructor <;> simp [moveIdled_trip hr' hlive, hberthed] <;> simp [releaseEnded]

/-! ### HOLD (R78, R87, R88) -/

theorem holdMove_eq (c : HoldCause) (s : State) :
    holdMove c s =
      if s.trip.moveRelease then endMove .hold { s with trip := { s.trip with stop := .hold, holdCause := some c } }
      else { s with trip := { s.trip with stop := .hold, holdCause := some c } } :=
  rfl

theorem hold_permitted (p : Port) : Request.hold.permitted p = true := by cases p <;> rfl

/-- The end of a move leaves a line state that stands still. -/
theorem ReleaseOutcome.still {r : TripRecord} {s t : State} (h : ReleaseOutcome r s t) : t.trip.line.still = true := by
  by_cases hb : s.rope.certainty = .known ∧ s.alignedAt .a r.target.a = true ∧ s.alignedAt .b r.target.b = true
  · rw [(h.berthed hb).1]; rfl
  · rw [(h.idle hb).1]; rfl

/-- Settles O19: the hold of a trip, of a move, and of a move release. -/
theorem holdStopsTheTripOrMove : Obligations.HoldStopsTheTripOrMove := by
  intro p s hfree held
  have taken {t : State} (hserve : reqHold p [] s = (t, ⟨.accepted, .none⟩)) :=
    exec_taken (r := .hold) hfree (hold_permitted p) rfl hserve rfl
  refine ⟨fun ph hline hph => ?_, fun hline hstop hrelease => ?_, fun r hline hstop hrelease hr hlive => ?_⟩
  · have hserve := reqHold_running p hline hph
    rw [holdTrip_eq _ hline] at hserve
    exact taken hserve
  · have hserve := reqHold_moving p hline hstop
    rw [holdMove_eq, if_neg (by simp [hrelease])] at hserve
    exact taken hserve
  · have hserve := reqHold_moving p hline hstop
    rw [holdMove_eq, if_pos hrelease] at hserve
    have hout : ReleaseOutcome r { s with trip := held } (endMove .hold { s with trip := held }) :=
      endMove_released (.inr rfl) hr hlive
    have haligned (x : Car) (b : Berth) : State.alignedAt { s with trip := held } x b = s.alignedAt x b :=
      State.alignedAt_congr (by rfl) (by rfl) x b
    have hsup : (setSb false { s with trip := held }).sup = (setSb false s).sup := by rw [setSb_off_withTrip _ s (by rfl)]
    have hexec := taken hserve
    rw [settle_still _ _ hout.still] at hexec
    have hberthed := hout.berthed
    have hidle := hout.idle
    simp only [haligned] at hberthed hidle
    exact ⟨_, hexec, hout.sup.trans hsup, hout.stop, hout.holdCause, hout.released, hberthed, hidle, hout.rope, hout.tables, hout.track,
      hout.sched, hout.number, hout.offsets⟩

end Sys2Proof.Machine
end

section
/-! PROOFS. RESUME and RECOVERY MOVE, and their releases (O20). -/

namespace Sys2Proof.Machine

/-! ### The interlocks of RESUME and RECOVERY MOVE (R83, R84) -/

theorem State.anyRailApplied_iff (s : State) : s.anyRailApplied = true ↔ ∃ x k, (s.track.cars.get x).block = some k ∧ k.railApplied = true := by
  rw [State.anyRailApplied, Bool.or_eq_true, CarLink.railApplied_iff, CarLink.railApplied_iff]
  constructor
  · rintro (h | h)
    exacts [⟨.a, h⟩, ⟨.b, h⟩]
  · rintro ⟨x, h⟩
    cases x
    exacts [.inl h, .inr h]

theorem State.resumeHolds_iff (s : State) : s.resumeHolds = true ↔
    CarsReady s ∧ s.rope.certainty ≠ .unknown ∧ s.sup.causes = [] ∧ ¬∃ x, AlarmReported s x := by
  have hready := carsReady_iff s
  rw [State.resumeHolds]
  generalize (s.linksComplete && s.bothSecure && !s.anyGrant) = ready at hready ⊢
  simp only [Bool.and_eq_true, hready, bne_iff_ne, List.isEmpty_iff, Bool.not_eq_true', ← Bool.not_eq_true s.anyAlarm, State.anyAlarm_iff,
    and_assoc]

theorem State.moveHolds_iff (s : State) : s.moveHolds = true ↔
    CarsReady s ∧ (∀ b, BoardingShut s b) ∧ (¬∃ x k, (s.track.cars.get x).block = some k ∧ k.railApplied = true) ∧ s.sup.ebFb = true := by
  have hready := carsReady_iff s
  rw [State.moveHolds]
  generalize (s.linksComplete && s.bothSecure && !s.anyGrant) = ready at hready ⊢
  simp only [Bool.and_eq_true, hready, State.allShut_iff, Bool.not_eq_true', ← Bool.not_eq_true s.anyRailApplied, State.anyRailApplied_iff,
    and_assoc]

/-! ### Their refusals -/

theorem reqResume_held {s : State} (p : Port) (body : List Byte) (hline : s.trip.line = .held) :
    reqResume p body s =
      if body ≠ [] then refuse .badArgument s else if s.trip.resumeRelease then refuse .busy s
      else if !s.resumeHolds then refuse .interlock s
      else (setSb true { s with trip := { s.trip with resumeRelease := true } }, ⟨.accepted, .none⟩) :=
  if_neg fun h => h hline

/-- The line states in which RECOVERY MOVE is taken (R44). -/
def MoveOpen (s : State) : Prop :=
  s.trip.line = .recovery false ∨ s.trip.line = .held ∨ s.trip.line = .parked ∧ s.misaligned = true

theorem moveRefusal_none {s : State} (h : MoveOpen s) : s.moveRefusal = none := by
  rcases h with h | h | ⟨h, hm⟩
  · simp only [State.moveRefusal, h]
  · simp only [State.moveRefusal, h]
  · simp [State.moveRefusal, h, hm]

theorem State.misaligned_iff (s : State) : s.misaligned = true ↔ ∃ x, (s.doors.get x).alignment = .misaligned := by
  simp only [State.misaligned, Bool.or_eq_true, beq_iff_eq]
  constructor
  · rintro (h | h)
    exacts [⟨.a, h⟩, ⟨.b, h⟩]
  · rintro ⟨x, h⟩
    cases x
    exacts [.inl h, .inr h]

theorem reqRecoveryMove_berth {s : State} {x : Byte} {b : Berth} (p : Port) (hopen : MoveOpen s) (hx : Berth.ofCode x.toNat = some b) :
    reqRecoveryMove p [x] s = moveTo b s := by
  simp only [reqRecoveryMove, moveRefusal_none hopen, hx]

theorem berth_ofCode_idx (b : Berth) : Berth.ofCode (byteOf b.idx).toNat = some b := by cases b <;> rfl

theorem berth_ofCode_eq_some {n : Nat} {b : Berth} (h : Berth.ofCode n = some b) : n = b.idx := by
  unfold Berth.ofCode at h
  split at h <;> cases h <;> rfl

/-- A byte that names a berth is its code. -/
theorem byte_eq_of_ofCode {x : Byte} {b : Berth} (h : Berth.ofCode x.toNat = some b) : x = byteOf b.idx := by
  rw [← berth_ofCode_eq_some h, byteOf, BitVec.ofNat_toNat, BitVec.setWidth_eq]

theorem reqRecoveryMove_badBody {s : State} {body : List Byte} (p : Port) (hopen : MoveOpen s) (h : ∀ b : Berth, body ≠ [byteOf b.idx]) :
    reqRecoveryMove p body s = refuse .badArgument s := by
  simp only [reqRecoveryMove, moveRefusal_none hopen]
  split
  next x =>
    split
    next b hb => exact absurd (congrArg (fun y => [y]) (byte_eq_of_ofCode hb)) (h b)
    next => rfl
  next => rfl

theorem not_isTerminus_iff (b : Berth) : (!b.isTerminus) = true ↔ b = .b1 ∨ b = .b2 := by cases b <;> decide

theorem State.nearBerth_iff (s : State) (b : Berth) :
    s.nearBerth b = true ↔ ∃ e, s.berthEntry b = some e ∧ |(e.position : Int) - s.pos .a| ≤ 150 := by
  unfold State.nearBerth distance
  cases s.berthEntry b with
  | none => simp
  | some e => simp only [decide_eq_true_eq, Option.some.injEq, exists_eq_left', Int.abs_eq_natAbs]; omega

theorem moveTo_bad {s : State} {b : Berth} (h : s.rope.certainty = .unknown ∧ (b = .b1 ∨ b = .b2) ∨
      s.rope.certainty ≠ .unknown ∧ ∃ e, s.berthEntry b = some e ∧ |(e.position : Int) - s.pos .a| ≤ 150) :
    moveTo b s = refuse .badArgument s := by
  simp only [moveTo, not_isTerminus_iff, State.nearBerth_iff]
  rcases h with h | h
  · rw [if_pos h]
  · rw [if_neg fun k => h.1 k.1, if_pos h]

theorem moveTo_good {s : State} {b : Berth} (hblind : ¬(s.rope.certainty = .unknown ∧ (b = .b1 ∨ b = .b2)))
    (hnear : ¬(s.rope.certainty ≠ .unknown ∧ ∃ e, s.berthEntry b = some e ∧ |(e.position : Int) - s.pos .a| ≤ 150)) :
    moveTo b s =
      if s.trip.line = .held ∧ s.trip.resumeRelease then refuse .busy s
      else if !s.moveHolds then refuse .interlock s
      else (acceptMove b s, ⟨.accepted, .none⟩) := by
  simp only [moveTo, not_isTerminus_iff, State.nearBerth_iff]
  rw [if_neg hblind, if_neg hnear]

/-! ### The acceptance of RECOVERY MOVE (R85) -/

/-- The record that an accepted RECOVERY MOVE forms. -/
def moveRecord (b : Berth) (s : State) : TripRecord :=
  { number := s.trip.number, kind := .recovery, dir := s.moveDir b, speed := s.vCr, start := s.trip.parkedBerth,
    target := ⟨b, b.mirror⟩, halt := haltOf b, ending := none }

theorem acceptMove_trip (b : Berth) (s : State) : (acceptMove b s).trip = { s.trip with
    line := .recovery true, slot := none, stop := .none, holdCause := none, moveRelease := true, parkedBerth := none
    moveStart := if s.rope.certainty = .unknown then s.rope.chans.ch1.count else s.trip.moveStart
    record := some (moveRecord b s) } := by
  simp [acceptMove, moveRecord, LineState.keepsBerth, LineState.clearsConsent]

theorem acceptMove_berths (b k : Berth) (s : State) : (acceptMove b s).board.berths.get k = (s.board.berths.get k).depart := by
  simp [acceptMove, LineState.departs]

theorem acceptMove_doors (b : Berth) (s : State) :
    (acceptMove b s).doors = ⟨{ s.doors.a with alignment := .none }, { s.doors.b with alignment := .none }⟩ := by
  simp [acceptMove, LineState.clearsAlignment]

theorem acceptMove_links {s : State} (b : Berth) (h : MoveOpen s) :
    (acceptMove b s).links = s.links.map (fun q => { q with flags := q.flags ||| Notice.lineState.bit }) := by
  have hnoticed : s.trip.line.noticed (.recovery true) = true := by rcases h with h | h | h <;> simp [h, LineState.noticed]
  simp [acceptMove, hnoticed, PortState.raise]

/-! ### The releases (R83, R85) -/

theorem settleInterlock_held {v : Bool} {s : State} (hline : s.trip.line = .held) (hrelease : s.trip.resumeRelease = true) :
    settleInterlock v s = if s.resumeHolds then s else setSb false { s with trip := { s.trip with resumeRelease := false } } := by
  cases h : s.resumeHolds <;> simp [settleInterlock, hline, hrelease, h]

theorem settleInterlock_moving {v : Bool} {s : State} (hline : s.trip.line = .recovery true) (hrelease : s.trip.moveRelease = true) :
    settleInterlock v s = if s.moveHolds then s else endMove .none s := by
  cases h : s.moveHolds <;> simp [settleInterlock, hline, hrelease, h]

theorem Released.held {s : State} (h : s.trip.line = .held) : Released s := ⟨by simp [h, LineState.isTest], by simp [h, LineState.inMotion]⟩

theorem settleReleased_held {s : State} (hline : s.trip.line = .held) (hrelease : s.trip.resumeRelease = true) (hholds : s.resumeHolds = true)
    (hsb : s.sup.sbRel = true) (hfb : s.sup.sbFb = true) : settleReleased s = restartTrip s := by
  simp [settleReleased, hsb, hfb, hline, hrelease, hholds]

theorem settleReleased_moving {s : State} (hline : s.trip.line = .recovery true) (hrelease : s.trip.moveRelease = true)
    (hholds : s.moveHolds = true) (hsb : s.sup.sbRel = true) (hfb : s.sup.sbFb = true) : settleReleased s = startMove s := by
  simp [settleReleased, hsb, hfb, hline, hrelease, hholds]

theorem still_notTest {l : LineState} (h : l.still = true) : l.isTest = false := by
  cases l <;> simp [LineState.still] at h <;> rfl

/-- The held trip restarted with the slot's remainder of it (R83). -/
theorem restartTrip_eq {s : State} {h : HoldSlot} (hline : s.trip.line = .held) (hslot : s.trip.slot = some h) (hdrv : s.sup.drvEn = false) :
    restartTrip s = raiseAll .lineState { s with
      trip := { s.trip with
        line := .running .accel, slot := none, resumeRelease := false, stop := .none, holdCause := none, held := 0, forming := 0
        stepping := true, distances := false, parkedBerth := none
        record := s.trip.record.map fun r => { r with dir := h.dir, target := h.target, speed := h.runCap } }
      sup := { s.sup with drvEn := true }
      doors := ⟨{ s.doors.a with alignment := .none }, { s.doors.b with alignment := .none }⟩
      board := { s.board with berths := s.board.berths.map fun v => if v.state = .sealed then { v with state := .closed } else v } } := by
  have hmap : BerthBoard.depart = fun v => if v.state = .sealed then { v with state := .closed } else v := funext depart_eq
  have hstart : restartTrip s = setDrv true (trippedOn h s) := by simp only [restartTrip, hslot, trippedOn]
  rw [hstart]
  refine State.eq_of_blocks ?_ ?_ ?_ ?_ ?_ ?_ ?_ ?_ ?_ ?_ <;>
    simp [trippedOn, setDrv_on_trip, hline, hdrv, hmap, LineState.noticed, LineState.keepsBerth, LineState.clearsConsent,
      LineState.clearsAlignment, LineState.departs, LineState.supervised, LineState.inMotion]

theorem startMove_eq {s : State} (hline : s.trip.line = .recovery true) (hstop : s.trip.stop = .none) (hdrv : s.sup.drvEn = false) :
    startMove s = { s with
      trip := { s.trip with moveRelease := false, holdCause := none, held := 0, forming := 0, stepping := true, distances := false }
      sup := { s.sup with drvEn := true } } := by
  refine State.eq_of_blocks ?_ ?_ ?_ ?_ ?_ ?_ ?_ ?_ ?_ ?_ <;>
    simp [startMove, setDrv_on_trip, hline, hdrv, hstop, LineState.supervised, LineState.inMotion]

/-- Settles O20: the interlocks, the refusals, the acceptances and the two releases. -/
theorem releasesBegin : Obligations.ReleasesBegin := by
  refine ⟨fun s => ⟨?resumeHolds, ?moveHolds⟩, fun s hfree => ?refused, fun s hfree hline hrelease hholds => ?resume,
    fun x b s hfree hx hopen hterm hfar hholds => ?move, fun before s hline hrelease => ?resumed,
    fun before s hline hrelease hstop => ?moved⟩
  case resumeHolds =>
    rw [s.resumeHolds_iff]
    rfl
  case moveHolds => exact s.moveHolds_iff
  case refused =>
    intro refused busy
    refine ⟨fun hline => ⟨fun body hbody => ?_, fun hbusy => ?_, fun hbusy hholds => ?_⟩, fun hopen => ?_⟩
    · exact exec_refuse (r := .resume) hfree ((reqResume_held .d body hline).trans (if_pos hbody)) rfl rfl
    · have hserve := reqResume_held .d [] hline
      rw [if_neg (by simp), if_pos hbusy.2] at hserve
      exact exec_refuse (r := .resume) hfree hserve rfl rfl
    · have hserve := reqResume_held .d [] hline
      rw [if_neg (by simp), if_neg fun h => hbusy ⟨hline, h⟩, if_pos (by simp [hholds])] at hserve
      exact exec_refuse (r := .resume) hfree hserve rfl rfl
    · have hopen : MoveOpen s := hopen.imp_right (Or.imp_right (And.imp_right s.misaligned_iff.mpr))
      refine ⟨fun body hbody => exec_refuse (r := .recoveryMove) hfree (reqRecoveryMove_badBody .d hopen hbody) rfl rfl, fun b => ?_⟩
      have hserve := reqRecoveryMove_berth .d hopen (berth_ofCode_idx b)
      refine ⟨fun hbad => ?_, fun hblind hnear hbusy => ?_, fun hblind hnear hbusy hholds => ?_⟩
      · exact exec_refuse (r := .recoveryMove) hfree (hserve.trans (moveTo_bad hbad)) rfl rfl
      · rw [moveTo_good hblind hnear, if_pos hbusy] at hserve
        exact exec_refuse (r := .recoveryMove) hfree hserve rfl rfl
      · rw [moveTo_good hblind hnear, if_neg hbusy, if_pos (by simp [hholds])] at hserve
        exact exec_refuse (r := .recoveryMove) hfree hserve rfl rfl
  case resume =>
    have hserve := reqResume_held .d [] hline
    rw [if_neg (by simp), if_neg (by simp [hrelease]), if_neg (by simp [hholds])] at hserve
    exact exec_taken (r := .resume) hfree rfl rfl hserve rfl
  case move =>
    have hmove : MoveOpen s := hopen.imp_right (Or.imp_left (·.1))
    have hserve := reqRecoveryMove_berth .d hmove hx
    have hblind : ¬(s.rope.certainty = .unknown ∧ (b = .b1 ∨ b = .b2)) := by
      rintro ⟨hu, hb⟩
      rcases hterm hu with rfl | rfl <;> simp at hb
    have hnear : ¬(s.rope.certainty ≠ .unknown ∧ ∃ e, s.berthEntry b = some e ∧ |(e.position : Int) - s.pos .a| ≤ 150) := by
      rintro ⟨hk, e, he, hle⟩
      obtain ⟨e', he', hlt⟩ := hfar hk
      obtain rfl : e' = e := Option.some.inj (he'.symm.trans he)
      rw [Int.abs_eq_natAbs] at hle
      simp only [distance] at hlt
      omega
    have hidle : ¬(s.trip.line = .held ∧ s.trip.resumeRelease = true) := by
      rintro ⟨hl, hr⟩
      rcases hopen with h | ⟨-, h⟩ | ⟨h, -⟩ <;> simp_all
    rw [moveTo_good hblind hnear, if_neg hidle, if_neg (by simp [hholds])] at hserve
    refine ⟨acceptMove b s, exec_taken (r := .recoveryMove) hfree rfl rfl hserve rfl, ?_, ?_, ?_, ?_, ?_,
      fun k => (acceptMove_berths b k s).trans (depart_eq _), acceptMove_doors b s, acceptMove_links b hmove, ?_, ?_, ?_, ?_, ?_⟩
    · rw [acceptMove_trip, moveRecord, haltOf_eq]
    all_goals simp [acceptMove, LineState.departs]
  case resumed =>
    refine ⟨fun hfails => ?_, fun hholds hsb => ?_, fun h hholds hsb hfb hdrv hslot => ?_⟩
    · have hnext := settleInterlock_held (v := before.trip.line == .dispatch && before.departureParts != s.departureParts) hline hrelease
      rw [if_neg (by simp [hfails])] at hnext
      rw [settle, settleWith_released hnext (.held (by simp [hline])), settleReleased_same (.inl (by simp))]
    all_goals
      have hnext := settleInterlock_held (v := before.trip.line == .dispatch && before.departureParts != s.departureParts) hline hrelease
      rw [if_pos hholds] at hnext
      rw [settle, settleWith_released hnext (.held hline)]
    · exact settleReleased_same hsb
    · rw [settleReleased_held hline hrelease hholds hsb hfb, restartTrip_eq hline hslot hdrv]
  case moved =>
    have hrel : Released s := ⟨by simp [hline, LineState.isTest], fun _ => hstop⟩
    refine ⟨fun hholds hsb => ?_, fun hholds hsb hfb hdrv => ?_, fun r hfails hr hlive => ?_⟩
    · have hnext := settleInterlock_moving (v := before.trip.line == .dispatch && before.departureParts != s.departureParts) hline hrelease
      rw [if_pos hholds] at hnext
      rw [settle, settleWith_released hnext hrel, settleReleased_same hsb]
    · have hnext := settleInterlock_moving (v := before.trip.line == .dispatch && before.departureParts != s.departureParts) hline hrelease
      rw [if_pos hholds] at hnext
      rw [settle, settleWith_released hnext hrel, settleReleased_moving hline hrelease hholds hsb hfb, startMove_eq hline hstop hdrv]
    · have hnext := settleInterlock_moving (v := before.trip.line == .dispatch && before.departureParts != s.departureParts) hline hrelease
      rw [if_neg (by simp [hfails])] at hnext
      have hout : ReleaseOutcome r s (endMove .none s) := endMove_released (.inl rfl) hr hlive
      have hended : settle before s = endMove .none s := by
        rw [settle, settleWith_released hnext ⟨still_notTest hout.still, fun _ => hout.stop⟩,
          settleReleased_same (.inl (by rw [hout.sup]; simp))]
      rw [hended]
      exact ⟨hout.sup, hout.released, hout.offsets, hout.berthed, hout.idle⟩

end Sys2Proof.Machine
end

section
/-! PROOFS. The completion of a stop (O21). -/

namespace Sys2Proof.Machine

/-! ### What a stop in motion waits for (R74, R75, R78) -/

/-- A trip or move whose stop has dropped SB_REL. -/
structure Stopping (s : State) : Prop where
  motion : s.trip.line.inMotion = true
  released : s.trip.moveRelease = false
  stop : s.trip.stop ≠ .none
  sb : s.sup.sbRel = false

theorem Stopping.notTest {s : State} (h : Stopping s) : s.trip.line.isTest = false := by
  have hm := h.motion
  cases hl : s.trip.line <;> simp [hl, LineState.inMotion] at hm <;> rfl

theorem settleInterlock_stopping {v : Bool} {s : State} (h : Stopping s) : settleInterlock v s = s := by
  have hm := h.motion
  unfold settleInterlock
  split
  next hl => simp [hl, LineState.inMotion] at hm
  next hl => simp [hl, LineState.inMotion] at hm
  next => simp [h.released]
  next => rfl

theorem setSb_same {v : Bool} {s : State} (h : s.sup.sbRel = v) : setSb v s = s := if_pos h

theorem setDrv_same {v : Bool} {s : State} (h : s.sup.drvEn = v) : setDrv v s = s := if_pos h

theorem settleHold_down {s : State} (h : s.sup.sbRel = false) : settleHold s = s := by
  rw [settleHold, setSb_same h, ite_self]

/-- With SB_REL down a stop waits for its brake and for standstill alone. -/
theorem settle_stopping {before s : State} (h : Stopping s) : settle before s = settleTest (settleComplete (settleApplied s)) := by
  rw [settle, settleWith, settleInterlock_stopping h, settleHold_down h.sb, settleEbApplied_same h.notTest, settleReleased_same (.inl h.sb)]

/-- SB reporting applied during a stop de-energises DRV_EN. -/
theorem settleApplied_stopping {s : State} (h : Stopping s) : settleApplied s = if s.sup.sbFb = false then setDrv false s else s := by
  have hstop := h.stop
  simp [settleApplied, h.motion, h.sb, hstop]

theorem settleComplete_stopping {s : State} (h : Stopping s) :
    settleComplete s = if s.sup.drvEn = false ∧ s.rope.flag = true then completeStop s else s := by
  have hstop := h.stop
  simp [settleComplete, h.motion, h.sb, hstop]

theorem Stopping.setDrv_off {s : State} (h : Stopping s) : Stopping (setDrv false s) where
  motion := by simpa [setDrv_off_trip_eq, -setDrv_off_trip] using h.motion
  released := by simpa [setDrv_off_trip_eq, -setDrv_off_trip] using h.released
  stop := by simpa [setDrv_off_trip_eq, -setDrv_off_trip] using h.stop
  sb := by rw [← h.sb]; simp

/-! ### The completion (R75, R80, R81, R88) -/

/-- Whether the stop's offsets are learned: at every profile stop, and at a trip's hold that stopped at its berths. -/
def State.stopLearns (s : State) : Bool :=
  s.trip.stop == .profile || (s.trip.line != .recovery true && s.trip.stop == .hold && s.targetsAligned)

/-- Whether the stop berths the line. -/
def State.stopBerths (s : State) : Bool :=
  if s.trip.line = .recovery true then s.trip.stop != .service && s.rope.certainty == .known && s.targetsAligned
  else s.trip.stop == .profile || (s.trip.stop == .hold && s.targetsAligned)

/-- The offsets learned, or certainty lowered, before the stop is judged. -/
def stopLearnt (s : State) : State :=
  if s.stopLearns then learnStops s
  else if s.trip.line = .recovery true ∧ s.trip.stop = .service then lowerCertainty s
  else s

theorem learnStops_trip (s : State) : (learnStops s).trip = { s.trip with offsets := (learnStops s).trip.offsets } := by
  unfold learnStops learnCar
  split <;> rfl

theorem stopLearnt_trip (s : State) : (stopLearnt s).trip = { s.trip with offsets := (stopLearnt s).trip.offsets } := by
  unfold stopLearnt
  split
  · exact learnStops_trip s
  · split <;> simp

@[simp] theorem stopLearnt_frame (s : State) :
    (stopLearnt s).tables = s.tables ∧ (stopLearnt s).sup = s.sup ∧ (stopLearnt s).sched = s.sched ∧ (stopLearnt s).track = s.track ∧
    (stopLearnt s).doors = s.doors ∧ (stopLearnt s).board = s.board := by
  unfold stopLearnt
  split
  · simp
  · split <;> simp

theorem State.targetsAligned_congr {s t : State} (hrecord : t.trip.record = s.trip.record) (htables : t.tables = s.tables)
    (hrope : t.rope = s.rope) : t.targetsAligned = s.targetsAligned := by
  simp only [State.targetsAligned, hrecord, State.alignedAt_congr htables hrope]

/-- The end of a move's stop, its release long over. -/
theorem moveEnding_stopping {s : State} (h : Stopping s) (hline : s.trip.line = .recovery true) :
    moveEnding s.trip.stop s = stopLearnt s := by
  have hsame : ({ setSb false s with trip := { (setSb false s).trip with moveRelease := false } } : State) = s := by
    rw [setSb_same h.sb, ← h.released]
  unfold moveEnding stopLearnt
  dsimp only
  rw [hsame]
  cases hk : s.trip.stop <;> simp [State.stopLearns, hline, hk]

/-- The outcome of a stop: a berthing, the idle end of a move, or a trip held. -/
theorem completeStop_outcome {s : State} {r : TripRecord} (h : Stopping s) (hr : s.trip.record = some r) :
    completeStop s =
      if s.stopBerths then berth (stopLearnt s)
      else if s.trip.line = .recovery true then moveIdled r (stopLearnt s)
      else enterHeld s := by
  have hlearnt : (learnStops s).targetsAligned = s.targetsAligned :=
    State.targetsAligned_congr (by rw [learnStops_trip]) (by simp) (by simp)
  have hm := h.motion
  have hstop := h.stop
  cases hl : s.trip.line <;> simp [hl, LineState.inMotion] at hm
  case running ph =>
    cases hk : s.trip.stop
    case none => exact absurd hk hstop
    case profile => simp [completeStop, State.stopBerths, stopLearnt, State.stopLearns, hl, hk]
    case hold => cases ha : s.targetsAligned <;> simp [completeStop, State.stopBerths, stopLearnt, State.stopLearns, hl, hk, ha]
    case service => simp [completeStop, State.stopBerths, hl, hk]
  case recovery m =>
    obtain rfl : m = true := by
      cases m
      · simp at hm
      · rfl
    have hmove := moveEnding_stopping h hl
    have hend : completeStop s = endMove s.trip.stop s := by simp only [completeStop, hl]
    have hrope : s.trip.stop ≠ .service → (stopLearnt s).rope = s.rope := by
      intro hk
      rw [stopLearnt]
      split
      · simp
      · rw [if_neg fun k => hk k.2]
    rw [hend, endMove_outcome _ hr, hmove]
    by_cases hk : s.trip.stop = .service
    · simp [State.stopBerths, hl, hk]
    · have haligned : (stopLearnt s).targetsAligned = s.targetsAligned :=
        State.targetsAligned_congr (by rw [stopLearnt_trip]) (by simp) (hrope hk)
      simp [State.stopBerths, hl, hk, hrope hk, haligned]

theorem enterHeld_trip {s : State} {r : TripRecord} (hr : s.trip.record = some r) :
    (enterHeld s).trip = { s.trip with
      line := .held, stop := .none, parkedBerth := none
      slot := some ⟨s.trip.number, r.dir, r.target, s.runCap r, s.trip.holdCause.getD .service⟩ } := by
  simp [enterHeld, hr, LineState.keepsBerth, LineState.clearsConsent]

theorem enterHeld_links {s : State} {r : TripRecord} (hr : s.trip.record = some r) (hline : s.trip.line.noticed .held = true) :
    (enterHeld s).links = s.links.map fun q => { q with flags := q.flags ||| Notice.lineState.bit } := by
  simp [enterHeld, hr, hline, PortState.raise]

theorem enterHeld_doors {s : State} {r : TripRecord} (hr : s.trip.record = some r) (x : Car) :
    ((enterHeld s).doors.get x).grants = (s.doors.get x).grants := by
  simp only [enterHeld, hr]
  exact enterLine_grants _ _ x

theorem enterHeld_board (s : State) : (enterHeld s).board = s.board := by
  unfold enterHeld
  split <;> simp [LineState.departs]

theorem moveIdled_grants (r : TripRecord) (s : State) (x : Car) : ((moveIdled r s).doors.get x).grants = (s.doors.get x).grants := by
  refine (enterLine_grants _ _ x).trans ?_
  cases x <;> rfl

/-- The stop completed leaves no test in hand. -/
theorem completeStop_notTest {s : State} {r : TripRecord} (h : Stopping s) (hr : s.trip.record = some r) (hlive : r.ending = none) :
    (completeStop s).trip.line.isTest = false := by
  have hr' : (stopLearnt s).trip.record = some r := by rw [stopLearnt_trip]; exact hr
  rw [completeStop_outcome h hr]
  split
  · rw [berth_trip hr' hlive]; rfl
  · split
    · rw [moveIdled_trip hr' hlive]; rfl
    · rw [enterHeld_trip hr]; rfl

theorem completeStop_sup {s : State} {r : TripRecord} (h : Stopping s) (hr : s.trip.record = some r) : (completeStop s).sup = s.sup := by
  rw [completeStop_outcome h hr]
  split
  · simp
  · split <;> simp

theorem completeStop_board {s : State} {r : TripRecord} (h : Stopping s) (hr : s.trip.record = some r) : (completeStop s).board = s.board := by
  have hr' : (stopLearnt s).trip.record = some r := by rw [stopLearnt_trip]; exact hr
  rw [completeStop_outcome h hr]
  split
  · rw [berth_board hr']; simp
  · split
    · simp
    · exact enterHeld_board s

/-! ### What is learned (R76) -/

theorem learnCar_offsets (t : PerBerth BerthEntry) (c : Course) (y : Car) (s : State) (x : Car) (b : Berth) :
    ((learnCar t c y s).trip.offsets.get x).get b =
      let l := (s.trip.offsets.get x).get b
      if x = y ∧ b = c.target.get y then
        if c.dir.ascends y then { l with ascending := learned l.ascending (s.pos y - (t.get b).position) }
        else { l with descending := learned l.descending ((t.get b).position - s.pos y) }
      else l := by
  by_cases hx : x = y
  · subst hx
    by_cases hb : b = c.target.get x
    · subst hb
      simp [learnCar]
    · simp [learnCar, hb, PerBerth.get_set_ne _ _ _ _ hb]
  · simp [learnCar, hx, PerCar.get_set_ne _ _ _ _ hx]

theorem learnCar_pos (t : PerBerth BerthEntry) (c : Course) (y x : Car) (s : State) : (learnCar t c y s).pos x = s.pos x := rfl

/-- Each car learns at its own target, for its own direction of arrival. -/
theorem learnStops_offsets {s : State} {t : PerBerth BerthEntry} {c : Course} (ht : s.tables.berths = some t) (hc : s.course = some c)
    (x : Car) (b : Berth) :
    ((learnStops s).trip.offsets.get x).get b =
      let l := (s.trip.offsets.get x).get b
      if b = c.target.get x then
        if c.dir.ascends x then { l with ascending := learned l.ascending (s.pos x - (t.get b).position) }
        else { l with descending := learned l.descending ((t.get b).position - s.pos x) }
      else l := by
  have hlearn : learnStops s = learnCar t c .b (learnCar t c .a s) := by simp only [learnStops, ht, hc]
  rw [hlearn, learnCar_offsets, learnCar_offsets, learnCar_pos]
  cases x <;> simp

theorem course_inMotion {s : State} {r : TripRecord} (h : s.trip.line.inMotion = true) (hr : s.trip.record = some r) :
    s.course = some ⟨r.dir, r.target⟩ := by
  unfold State.course
  split
  next hl => simp [hl, LineState.inMotion] at h
  next hl => simp [hl, LineState.inMotion] at h
  next => simp [hr]

theorem learned_eq (l e : Int) : learned l e = max (-300) (min 300 (l + e.tdiv 2)) := rfl

/-! ### Automatic release (R168) -/

/-- One side of a car: its grant, its close order and its marks. -/
def CarDoors.side (c : CarDoors) (d : Side) : Option Grant × Bool × Byte := (c.grants.get d, c.close.get d, c.marks.get d)

/-- Every condition of automatic release for a car and a side at a berth. -/
def AutoDue (s : State) (x : Car) (b : Berth) (e : BerthEntry) (d : Side) : Prop :=
  e.autoRelease = 1 ∧ e.sides.getLsbD d.bit = true ∧ (s.doors.get x).alignment = .aligned ∧ s.alignedAt x b = true ∧ s.rope.flag = true ∧
    s.sup.sbFb = false ∧ (s.track.cars.get x).link = .complete ∧ s.grantSet x e d ≠ 0

theorem ite_some_eq_none_iff {α : Type} {c : Prop} [Decidable c] {v : α} {o : Option α} :
    (if c then some v else o) = none ↔ ¬c ∧ o = none := by
  split <;> simp [*]

theorem releaseFault_none_iff (s : State) (x : Car) (b : Berth) (e : BerthEntry) (d : Side) :
    s.releaseFault x b e d = none ↔
      (s.doors.get x).alignment = .aligned ∧ s.alignedAt x b = true ∧ s.rope.flag = true ∧ s.sup.sbFb = false ∧
        e.sides.getLsbD d.bit = true ∧ (s.track.cars.get x).link = .complete ∧ s.grantSet x e d ≠ 0 := by
  simp only [State.releaseFault, memberAt, ite_some_eq_none_iff, Bool.or_eq_true, bne_iff_ne, not_or, not_not, Bool.not_eq_true',
    Bool.not_eq_true, Bool.not_eq_false, and_assoc, and_true, ne_eq]

theorem autoRelease_condition_iff (s : State) (x : Car) (b : Berth) (e : BerthEntry) (d : Side) :
    (decide (e.autoRelease = 1) && memberAt e.sides d.bit && (s.releaseFault x b e d).isNone) = true ↔ AutoDue s x b e d := by
  simp only [Bool.and_eq_true, decide_eq_true_eq, Option.isNone_iff_eq_none, releaseFault_none_iff, AutoDue, memberAt]
  tauto

theorem autoReleaseSide_due {s : State} {x : Car} {b : Berth} {e : BerthEntry} {d : Side} (he : s.berthEntry b = some e)
    (hdue : AutoDue s x b e d) : autoReleaseSide x b d s = makeGrant x d ⟨b, s.grantSet x e d, s.trip.number, .auto⟩ s := by
  simp only [autoReleaseSide, he]
  exact if_pos ((autoRelease_condition_iff s x b e d).mpr hdue)

theorem autoReleaseSide_notDue {s : State} {x : Car} {b : Berth} {e : BerthEntry} {d : Side} (he : s.berthEntry b = some e)
    (hdue : ¬AutoDue s x b e d) : autoReleaseSide x b d s = s := by
  simp only [autoReleaseSide, he]
  exact if_neg fun h => hdue ((autoRelease_condition_iff s x b e d).mp h)

/-- What automatic release judges by stands as it was. -/
structure ReleaseSame (s t : State) : Prop where
  tables : t.tables = s.tables
  rope : t.rope = s.rope
  sup : t.sup = s.sup
  track : t.track = s.track
  number : t.trip.number = s.trip.number
  alignment : ∀ x, (t.doors.get x).alignment = (s.doors.get x).alignment
  leaves : ∀ x, (t.doors.get x).leaves = (s.doors.get x).leaves

theorem ReleaseSame.refl (s : State) : ReleaseSame s s := ⟨rfl, rfl, rfl, rfl, rfl, fun _ => rfl, fun _ => rfl⟩

theorem ReleaseSame.trans {s t u : State} (h : ReleaseSame s t) (k : ReleaseSame t u) : ReleaseSame s u where
  tables := k.tables.trans h.tables
  rope := k.rope.trans h.rope
  sup := k.sup.trans h.sup
  track := k.track.trans h.track
  number := k.number.trans h.number
  alignment x := (k.alignment x).trans (h.alignment x)
  leaves x := (k.leaves x).trans (h.leaves x)

theorem ReleaseSame.grantSet {s t : State} (h : ReleaseSame s t) (x : Car) (e : BerthEntry) (d : Side) :
    t.grantSet x e d = s.grantSet x e d := by
  rw [State.grantSet, State.present_congr (congrArg Track.cars h.track), State.grantSet]

theorem ReleaseSame.autoDue {s t : State} (h : ReleaseSame s t) (x : Car) (b : Berth) (e : BerthEntry) (d : Side) :
    AutoDue t x b e d ↔ AutoDue s x b e d := by
  simp only [AutoDue, h.alignment, State.alignedAt_congr h.tables h.rope, h.rope, h.sup, h.track, h.grantSet]

theorem makeGrant_doors (x : Car) (d : Side) (g : Grant) (s : State) :
    (makeGrant x d g s).doors = s.doors.set x { s.doors.get x with
      grants := (s.doors.get x).grants.set d (some g)
      close := (s.doors.get x).close.set d false
      marks := (s.doors.get x).marks.set d ((s.doors.get x).marks.get d &&& ~~~g.set) } := rfl

/-- A grant is made on its own side alone (R167). -/
theorem makeGrant_side_other {x y : Car} {d c : Side} (g : Grant) (s : State) (h : y ≠ x ∨ c ≠ d) :
    ((makeGrant x d g s).doors.get y).side c = (s.doors.get y).side c := by
  rw [makeGrant_doors]
  by_cases hy : y = x
  · subst hy
    have hc : c ≠ d := h.resolve_left fun k => k rfl
    simp [CarDoors.side, PerSide.get_set_ne _ _ _ _ hc]
  · rw [PerCar.get_set_ne _ _ _ _ hy]

theorem makeGrant_side_same (x : Car) (d : Side) (g : Grant) (s : State) :
    ((makeGrant x d g s).doors.get x).side d = (some g, false, (s.doors.get x).marks.get d &&& ~~~g.set) := by
  simp [makeGrant_doors, CarDoors.side]

theorem makeGrant_same (x : Car) (d : Side) (g : Grant) (s : State) : ReleaseSame s (makeGrant x d g s) where
  tables := rfl
  rope := rfl
  sup := rfl
  track := rfl
  number := rfl
  alignment y := by cases x <;> cases y <;> rfl
  leaves y := by cases x <;> cases y <;> rfl

theorem autoReleaseSide_same (x : Car) (b : Berth) (d : Side) (s : State) : ReleaseSame s (autoReleaseSide x b d s) := by
  unfold autoReleaseSide
  split
  · split
    · exact makeGrant_same _ _ _ s
    · exact .refl s
  · exact .refl s

theorem autoReleaseSide_other {x y : Car} {d c : Side} (b : Berth) (s : State) (h : y ≠ x ∨ c ≠ d) :
    ((autoReleaseSide x b d s).doors.get y).side c = (s.doors.get y).side c := by
  unfold autoReleaseSide
  split
  · split
    · exact makeGrant_side_other _ s h
    · rfl
  · rfl

theorem autoRelease_same (k : Berth) (s : State) : ReleaseSame s (autoRelease k s) :=
  (((autoReleaseSide_same .a k .left s).trans (autoReleaseSide_same .a k .right _)).trans
    (autoReleaseSide_same .b k.mirror .left _)).trans (autoReleaseSide_same .b k.mirror .right _)

/-- The berth of a car where car A stands at berth `k`. -/
def pairBerth (k : Berth) : Car → Berth
  | .a => k
  | .b => k.mirror

/-- Each side is judged once, by figures that the other sides' judgements leave as they are. -/
theorem autoRelease_side (k : Berth) (s : State) (x : Car) (d : Side) : ∃ u, ReleaseSame s u ∧
    (u.doors.get x).side d = (s.doors.get x).side d ∧
    ((autoRelease k s).doors.get x).side d =
      ((autoReleaseSide x (pairBerth k x) d u).doors.get x).side d := by
  have same_al := autoReleaseSide_same .a k .left s
  have same_ar := same_al.trans (autoReleaseSide_same .a k .right _)
  have same_bl := same_ar.trans (autoReleaseSide_same .b k.mirror .left _)
  have other {x y : Car} {d c : Side} (h : y ≠ x ∨ c ≠ d) (b : Berth) (s : State) := autoReleaseSide_other b s h
  cases x <;> cases d
  · refine ⟨s, .refl s, rfl, ?_⟩
    rw [autoRelease, other (.inl (by decide)), other (.inl (by decide)), other (.inr (by decide)), pairBerth]
  · refine ⟨_, same_al, other (.inr (by decide)) _ _, ?_⟩
    rw [autoRelease, other (.inl (by decide)), other (.inl (by decide)), pairBerth]
  · refine ⟨_, same_ar, ?_, ?_⟩
    · rw [other (.inl (by decide)), other (.inl (by decide))]
    · rw [autoRelease, other (.inr (by decide)), pairBerth]
  · refine ⟨_, same_bl, ?_, rfl⟩
    rw [other (.inr (by decide)), other (.inl (by decide)), other (.inl (by decide))]

/-- What automatic release leaves of a side: a grant of origin AUTO where it is due, and otherwise what was there. -/
theorem autoRelease_due {k : Berth} {s : State} {x : Car} {d : Side} {b : Berth} {e : BerthEntry} (hb : b = pairBerth k x)
    (he : s.berthEntry b = some e) :
    (AutoDue s x b e d → ((autoRelease k s).doors.get x).side d =
      (some ⟨b, s.grantSet x e d, s.trip.number, .auto⟩, false, (s.doors.get x).marks.get d &&& ~~~s.grantSet x e d)) ∧
    (¬AutoDue s x b e d → ((autoRelease k s).doors.get x).side d = (s.doors.get x).side d) := by
  obtain ⟨u, hsame, hside, hauto⟩ := autoRelease_side k s x d
  rw [← hb] at hauto
  have he' : u.berthEntry b = some e := by rw [State.berthEntry, hsame.tables]; exact he
  have hmarks : (u.doors.get x).marks.get d = (s.doors.get x).marks.get d := congrArg (fun v => v.2.2) hside
  refine ⟨fun hdue => ?_, fun hdue => ?_⟩
  · rw [hauto, autoReleaseSide_due he' ((hsame.autoDue x b e d).mpr hdue), makeGrant_side_same, hmarks, hsame.grantSet, hsame.number]
  · rw [hauto, autoReleaseSide_notDue he' fun h => hdue ((hsame.autoDue x b e d).mp h), hside]

/-! ### The statement -/

theorem State.stopBerths_iff {s : State} {r : TripRecord} (hr : s.trip.record = some r) :
    s.stopBerths = true ↔ if s.trip.line = .recovery true
      then s.trip.stop ≠ .service ∧ s.rope.certainty = .known ∧ s.alignedAt .a r.target.a = true ∧ s.alignedAt .b r.target.b = true
      else s.trip.stop = .profile ∨ s.trip.stop = .hold ∧ s.alignedAt .a r.target.a = true ∧ s.alignedAt .b r.target.b = true := by
  unfold State.stopBerths
  split <;> simp [State.targetsAligned_iff hr, and_assoc]

theorem State.stopLearns_iff {s : State} {r : TripRecord} (hr : s.trip.record = some r) :
    s.stopLearns = true ↔ s.trip.stop = .profile ∨ s.trip.line ≠ .recovery true ∧ s.trip.stop = .hold ∧
      s.alignedAt .a r.target.a = true ∧ s.alignedAt .b r.target.b = true := by
  simp [State.stopLearns, State.targetsAligned_iff hr, and_assoc]

/-- A stop that berths lowers no certainty. -/
theorem stopLearnt_berths {s : State} (h : s.stopBerths = true) : (stopLearnt s).rope = s.rope ∧ (stopLearnt s).links = s.links := by
  rw [stopLearnt]
  split
  · simp
  · rw [if_neg]
    · exact ⟨rfl, rfl⟩
    · rintro ⟨hl, hk⟩
      simp [State.stopBerths, hl, hk] at h

theorem lowerCertainty_certainty (s : State) :
    (lowerCertainty s).rope.certainty = if s.rope.certainty = .known then .uncertain else s.rope.certainty := by
  unfold lowerCertainty setCertainty
  cases hc : s.rope.certainty <;> simp [hc]

/-- A service stop of a move lowers certainty, and nothing else does (R88). -/
theorem stopLearnt_certainty {s : State} (hline : s.trip.line = .recovery true) :
    (stopLearnt s).rope.certainty =
      if s.trip.stop = .service ∧ s.rope.certainty = .known then .uncertain else s.rope.certainty := by
  cases hk : s.trip.stop <;> simp [stopLearnt, State.stopLearns, hline, hk, lowerCertainty_certainty]

theorem Stopping.noticed {s : State} (h : Stopping s) : s.trip.line.noticed .parked = true ∧ s.trip.line.noticed .held = true := by
  have hm := h.motion
  cases hl : s.trip.line <;> simp [hl, LineState.inMotion] at hm <;> exact ⟨rfl, rfl⟩

/-- Both lines down and the flag set, the stop is complete. -/
theorem settle_completes {before s : State} {r : TripRecord} (h : Stopping s) (hr : s.trip.record = some r) (hlive : r.ending = none)
    (hflag : s.rope.flag = true) (hdrv : s.sup.drvEn = false) : settle before s = completeStop s := by
  rw [settle_stopping h, settleApplied_stopping h, setDrv_same hdrv, ite_self, settleComplete_stopping h, if_pos ⟨hdrv, hflag⟩,
    settleTest_same (completeStop_notTest h hr hlive)]

theorem settle_dropsDrv {before s : State} {r : TripRecord} (h : Stopping s) (hr : s.trip.record = some r) (hlive : r.ending = none)
    (hfb : s.sup.sbFb = false) : (settle before s).sup.drvEn = false := by
  have h1 := h.setDrv_off
  have hr1 : (setDrv false s).trip.record = some r := by simpa [setDrv_off_trip_eq, -setDrv_off_trip] using hr
  have hdrv1 : (setDrv false s).sup.drvEn = false := by simp
  rw [settle_stopping h, settleApplied_stopping h, if_pos hfb, settleComplete_stopping h1]
  split
  · rw [settleTest_same (completeStop_notTest h1 hr1 hlive), completeStop_sup h1 hr1, hdrv1]
  · rw [settleTest_same h1.notTest, hdrv1]

theorem settle_waits {before s : State} (h : Stopping s) (hfb : s.sup.sbFb = true) (hwait : s.rope.flag = false ∨ s.sup.drvEn = true) :
    settle before s = s := by
  rw [settle_stopping h, settleApplied_stopping h, if_neg (by simp [hfb]), settleComplete_stopping h,
    if_neg (by rcases hwait with k | k <;> simp [k]), settleTest_same h.notTest]

theorem alignmentOf_eq_aligned (v : Bool) : alignmentOf v = .aligned ↔ v = true := by cases v <;> simp [alignmentOf]

theorem berthedAt_alignment (r : TripRecord) (s : State) (x : Car) :
    ((berthedAt r s).doors.get x).alignment = alignmentOf (s.alignedAt x (r.target.get x)) := by
  have hcongr (y : Car) (b : Berth) : (clearStop s).alignedAt y b = s.alignedAt y b := State.alignedAt_congr (by simp) (by simp) y b
  cases x <;> simp [berthedAt, judgeAt, setAlignments, PerCar.get, hcongr]

theorem berthedAt_side (r : TripRecord) (s : State) (x : Car) (d : Side) :
    ((berthedAt r s).doors.get x).side d = (s.doors.get x).side d ∧ ((berthedAt r s).doors.get x).leaves = (s.doors.get x).leaves := by
  cases x <;> simp [berthedAt, judgeAt, setAlignments, PerCar.get, CarDoors.side]

/-- A berthing's offsets are those of the stop, in every outcome. -/
theorem completeStop_offsets {s : State} {r : TripRecord} (h : Stopping s) (hr : s.trip.record = some r) (hlive : r.ending = none) :
    (completeStop s).trip.offsets = (stopLearnt s).trip.offsets := by
  have hr' : (stopLearnt s).trip.record = some r := by rw [stopLearnt_trip]; exact hr
  rw [completeStop_outcome h hr]
  split
  · rw [berth_trip hr' hlive]
  · rename_i hb
    split
    · rw [moveIdled_trip hr' hlive]
    · rename_i hl
      have hlearns : ¬s.stopLearns = true := by
        rw [State.stopBerths_iff hr, if_neg hl] at hb
        rw [State.stopLearns_iff hr]
        exact fun k => hb (k.imp_right And.right)
      rw [enterHeld_trip hr, stopLearnt, if_neg hlearns, if_neg fun k => hl k.1]

/-- Settles O21: the brake's report, and each outcome block by block. -/
theorem stopsComplete : Obligations.StopsComplete := by
  intro before s r entries h hmotion hrelease hstop hsb hr hlive hmirror hentries hheader t k aligned judged move
  have hs : Stopping s := ⟨hmotion, hrelease, hstop, hsb⟩
  refine ⟨settle_dropsDrv hs hr hlive, settle_waits hs, fun hflag hdrv => ?_⟩
  intro berthed learns
  have hcomplete : t = completeStop s := settle_completes hs hr hlive hflag hdrv
  have hberths : berthed ↔ s.stopBerths = true := (State.stopBerths_iff hr).symm
  have hlearns : learns ↔ s.stopLearns = true := (State.stopLearns_iff hr).symm
  have hr' : (stopLearnt s).trip.record = some r := by rw [stopLearnt_trip]; exact hr
  have hout := completeStop_outcome hs hr
  rw [← hcomplete] at hout
  have hheld : ¬berthed → ¬move → t = enterHeld s := fun hb hm => by
    rw [hout, if_neg fun q => hb (hberths.mpr q), if_neg hm]
  have hidle : ¬berthed → move → t = moveIdled r (stopLearnt s) := fun hb hm => by
    rw [hout, if_neg fun q => hb (hberths.mpr q), if_pos hm]
  refine ⟨fun hb => ?berthed, fun hb hm => ?held, fun hb hm => ?idle, fun hb x => ?grants, fun x b => ?offsets,
    (congrArg State.sup hcomplete).trans (completeStop_sup hs hr), ?board, ?tables, ?sched, ?track⟩
  case berthed =>
    have ht : t = berth (stopLearnt s) := by rw [hout, if_pos (hberths.mp hb)]
    have htrip := berth_trip hr' hlive
    rw [← ht, stopLearnt_trip] at htrip
    obtain ⟨hrope, hlinks⟩ := stopLearnt_berths (hberths.mp hb)
    have hauto : t = autoRelease r.target.a (berthedAt r (stopLearnt s)) := by rw [ht, berth_eq hr']
    have hsame : ReleaseSame (berthedAt r (stopLearnt s)) t := by rw [hauto]; exact autoRelease_same _ _
    have hjudged (x : Car) : ((berthedAt r (stopLearnt s)).doors.get x).alignment = judged x := by
      rw [berthedAt_alignment, State.alignedAt_congr (by simp) hrope]; rfl
    refine ⟨by rw [htrip], by rw [htrip], by rw [htrip], by rw [htrip], by rw [htrip], by rw [htrip], by rw [htrip], by rw [htrip],
      fun x => (hsame.alignment x).trans (hjudged x), fun x d => ?_, ?_⟩
    · intro e set due old new
      have hentry : (berthedAt r (stopLearnt s)).berthEntry (r.target.get x) = some e := by
        simp [State.berthEntry, berthedAt, hentries, e]
      have hplace : r.target.get x = pairBerth r.target.a x := by
        cases x
        · rfl
        · exact hmirror
      have hset : (berthedAt r (stopLearnt s)).grantSet x e d = set := by
        rw [State.grantSet, State.present_congr (by simp [berthedAt]) (s := s)]; rfl
      have hside := berthedAt_side r (stopLearnt s) x d
      have hdoors : (stopLearnt s).doors = s.doors := by simp
      rw [hdoors] at hside
      have hmarks : ((berthedAt r (stopLearnt s)).doors.get x).marks.get d = old.marks.get d := congrArg (fun v => v.2.2) hside.1
      have hdue : AutoDue (berthedAt r (stopLearnt s)) x (r.target.get x) e d ↔ due := by
        have haligned : (berthedAt r (stopLearnt s)).alignedAt x (r.target.get x) = s.alignedAt x (r.target.get x) :=
          State.alignedAt_congr (by simp [berthedAt]) (by simp [berthedAt, hrope]) _ _
        have hjudge : judged x = .aligned ↔ s.alignedAt x (r.target.get x) = true := alignmentOf_eq_aligned _
        have hfigures : (berthedAt r (stopLearnt s)).rope.flag = true ∧ (berthedAt r (stopLearnt s)).sup = s.sup ∧
            (berthedAt r (stopLearnt s)).track = s.track := by simp [berthedAt, hrope, hflag]
        rw [AutoDue, hjudged, haligned, ← hjudge, hset, hfigures.2.1, hfigures.2.2]
        exact ⟨fun ⟨ha, hd, hj, _, _, hf, hl, hz⟩ => ⟨ha, hd, hj, hf, hl, hz⟩,
          fun ⟨ha, hd, hj, hf, hl, hz⟩ => ⟨ha, hd, hj, hj, hfigures.1, hf, hl, hz⟩⟩
      have hnumber : (berthedAt r (stopLearnt s)).trip.number = s.trip.number := by
        have hkept : (berthedAt r (stopLearnt s)).trip.number = (stopLearnt s).trip.number := by simp [berthedAt]
        rw [hkept, stopLearnt_trip]
      obtain ⟨hyes, hno⟩ := autoRelease_due hplace hentry (d := d)
      rw [← hauto, hdue, hset, hmarks, hnumber] at hyes
      rw [← hauto, hdue, hside.1] at hno
      refine ⟨fun h => ?_, fun h => ?_, (hsame.leaves x).trans hside.2⟩
      · have hnew := hyes h
        simp only [CarDoors.side, Prod.mk.injEq] at hnew
        exact hnew
      · have hnew := hno h
        simp only [CarDoors.side, Prod.mk.injEq] at hnew
        exact hnew
    · rw [ht, berth_links hr' (by rw [stopLearnt_trip]; exact hs.noticed.1), hlinks]
  case held =>
    have htrip := enterHeld_trip hr
    have hlinks := enterHeld_links hr hs.noticed.2
    rw [← hheld hb hm] at htrip hlinks
    refine ⟨by rw [htrip], by rw [htrip], by rw [htrip], by rw [htrip], ?_, ?_, hlinks⟩
    · rw [htrip]
      simp [State.runCap, hheader]
    · rw [hheld hb hm]; simp
  case idle =>
    have htrip := moveIdled_trip hr' hlive
    rw [← hidle hb hm, stopLearnt_trip] at htrip
    refine ⟨by rw [htrip], by rw [htrip], by rw [htrip], by rw [htrip], ?_⟩
    rw [hidle hb hm, (moveIdled_frame r (stopLearnt s)).2.1, stopLearnt_certainty hm]
  case grants =>
    by_cases hm : move
    · rw [hidle hb hm, moveIdled_grants]; simp
    · rw [hheld hb hm, enterHeld_doors hr]
  case offsets =>
    rw [hcomplete, completeStop_offsets hs hr hlive]
    by_cases hl : learns
    · rw [stopLearnt, if_pos (hlearns.mp hl), learnStops_offsets hentries (course_inMotion hmotion hr)]
      by_cases hx : b = r.target.get x
      · simp only [hl, hx, true_and, if_true, learned_eq, neg_sub]
      · simp only [hx, and_false, if_false]
    · have hkept : (stopLearnt s).trip.offsets = s.trip.offsets := by
        rw [stopLearnt, if_neg fun q => hl (hlearns.mpr q)]
        split <;> simp
      simp only [hkept, hl, false_and, if_false]
  all_goals rw [hcomplete]
  case board => exact completeStop_board hs hr
  all_goals simp

end Sys2Proof.Machine
end

section
/-! PROOFS. DOOR RELEASE and DOOR CLOSE (O42). -/

namespace Sys2Proof.Machine

/-! ### Compartment sets (R165) -/

theorem getLsbD_one_shiftLeft (i : Nat) {j : Nat} (hj : j < 8) : (1#8 <<< i).getLsbD j = decide (j = i) := by
  rw [BitVec.getLsbD_shiftLeft, BitVec.getLsbD_one]
  simp only [hj, decide_true, Bool.true_and]
  rcases Nat.lt_trichotomy j i with h | h | h
  · simp [h, h.ne]
  · simp [h]
  · simp [Nat.not_lt.mpr h.le, h.ne', Nat.sub_ne_zero_of_lt h]

/-- A set built member by member holds its members. -/
theorem foldl_members (l : List Nat) (set : Byte) {j : Nat} (hj : j < 8) :
    (l.foldl (fun s k => s ||| (1#8 <<< k)) set).getLsbD j = (set.getLsbD j || decide (j ∈ l)) := by
  induction l generalizing set with
  | nil => simp
  | cons i l ih =>
    rw [List.foldl_cons, ih, BitVec.getLsbD_or, getLsbD_one_shiftLeft i hj]
    simp [List.mem_cons, Bool.or_assoc, Bool.decide_or]

theorem BerthEntry_range_iff (e : BerthEntry) {k : Nat} (hk : k < 8) :
    e.range.getLsbD k = true ↔ k < 6 ∧ e.first ≤ k + 1 ∧ k + 1 ≤ e.last := by
  rw [BerthEntry.range, foldl_members _ _ hk]
  simp [-BitVec.getLsbD_eq_getElem]

theorem State.present_iff (s : State) (x : Car) (d : Side) (k : Nat) :
    (s.present x d).getLsbD k = true ↔ ∃ r, (s.track.cars.get x).ability = some r ∧ (r.leaves d).getLsbD k = true := by
  unfold State.present
  cases (s.track.cars.get x).ability <;> simp

theorem State.grantSet_iff (s : State) (x : Car) (e : BerthEntry) (d : Side) {k : Nat} (hk : k < 8) :
    (s.grantSet x e d).getLsbD k = true ↔
      k < 6 ∧ e.first ≤ k + 1 ∧ k + 1 ≤ e.last ∧ ∃ r, (s.track.cars.get x).ability = some r ∧ (r.leaves d).getLsbD k = true := by
  rw [State.grantSet, BitVec.getLsbD_and, Bool.and_eq_true, BerthEntry_range_iff e hk, State.present_iff, and_assoc, and_assoc]

/-! ### Arguments (R209) -/

theorem berthArg_serves {p : Port} {b : Berth} (h : b.station = p) : berthArg p (byteOf b.idx) = .ok b := by
  simp [berthArg, berth_ofCode_idx, h]

theorem berthArg_other {p : Port} {b : Berth} (h : b.station ≠ p) : berthArg p (byteOf b.idx) = .error .notServing := by
  simp [berthArg, berth_ofCode_idx, h]

theorem berthArg_bad (p : Port) {y : Byte} (h : 3 < y.toNat) : berthArg p y = .error .badArgument := by
  have hnone : Berth.ofCode y.toNat = none := by
    obtain ⟨k, hk⟩ : ∃ k, y.toNat = k + 4 := ⟨y.toNat - 4, by omega⟩
    rw [hk]
    rfl
  simp only [berthArg, hnone]

/-- A side's byte in a body. -/
def sideByte : Side → Byte
  | .left => 1
  | .right => 2

theorem sideArg_sideByte (d : Side) : sideArg (sideByte d) = some d := by cases d <;> rfl

theorem sideArg_eq_none {z : Byte} (h : z ≠ 1 ∧ z ≠ 2) : sideArg z = none := by
  rw [sideArg, if_neg h.1, if_neg h.2]

/-! ### DOOR RELEASE (R166, R167) -/

theorem reqDoorRelease_at {p : Port} {b : Berth} {s : State} (d : Side) (hline : s.trip.line = .parked) (hb : b.station = p) :
    reqDoorRelease p [byteOf b.idx, sideByte d] s = doorReleaseAt p b d s := by
  simp [reqDoorRelease, hline, sideArg_sideByte, berthArg_serves hb]

theorem reqDoorRelease_notServing {p : Port} {b : Berth} {s : State} (d : Side) (hline : s.trip.line = .parked) (hb : b.station ≠ p) :
    reqDoorRelease p [byteOf b.idx, sideByte d] s = refuse .notServing s := by
  simp [reqDoorRelease, hline, sideArg_sideByte, berthArg_other hb]

theorem reqDoorRelease_badBody {l : List Byte} {s : State} (p : Port) (hline : s.trip.line = .parked)
    (h : ∀ y z, l = [y, z] → 3 < y.toNat ∨ z ≠ 1 ∧ z ≠ 2) : reqDoorRelease p l s = refuse .badArgument s := by
  unfold reqDoorRelease
  rw [if_neg fun k => k hline]
  split
  next y z =>
    rcases h y z rfl with hy | hz
    · cases sideArg z with
      | none => rfl
      | some d => simp only [berthArg_bad p hy]
    · simp only [sideArg_eq_none hz]
  next => rfl

theorem doorReleaseAt_noCar {p : Port} {b : Berth} {s : State} (d : Side) (h : ∀ x, ¬StandsAt s x b) :
    doorReleaseAt p b d s = (s, ⟨.interlock, .doorReason .noCar⟩) := by
  have hnone : s.carAt b = none := Option.eq_none_iff_forall_ne_some.mpr fun x hx => h x ((s.carAt_iff x b).mp hx)
  simp [doorReleaseAt, hnone, answerWith]

theorem doorReleaseAt_fault {p : Port} {b : Berth} {s : State} {x : Car} {e : BerthEntry} {d : Side} {r : DoorReason}
    (hx : s.carAt b = some x) (he : s.berthEntry b = some e) (hr : s.releaseFault x b e d = some r) :
    doorReleaseAt p b d s = (s, ⟨.interlock, .doorReason r⟩) := by
  simp [doorReleaseAt, hx, he, hr, answerWith]

theorem doorReleaseAt_free {p : Port} {b : Berth} {s : State} {x : Car} {e : BerthEntry} {d : Side} (hx : s.carAt b = some x)
    (he : s.berthEntry b = some e) (hr : s.releaseFault x b e d = none) :
    doorReleaseAt p b d s =
      match (s.doors.get x).grants.get d with
      | some g => (s, ⟨.done, .grant x d g.set⟩)
      | none => (makeGrant x d ⟨b, s.grantSet x e d, s.trip.number, .request p⟩ s, ⟨.done, .grant x d (s.grantSet x e d)⟩) := by
  cases hg : (s.doors.get x).grants.get d <;> simp [doorReleaseAt, hx, he, hr, answerWith, hg]

/-- Standing aligned at a berth: the judgement, the level switch and the distance. -/
theorem State.alignedAt_iff {s : State} {x : Car} {b : Berth} {e : BerthEntry} (he : s.berthEntry b = some e) :
    s.alignedAt x b = true ↔ s.rope.switches.get b = true ∧ |s.pos x - e.position| ≤ 150 := by
  have hsame : s.alignedAt x b = (s.rope.switches.get b && decide (distance (s.pos x) e.position ≤ 150)) := by
    simp only [State.alignedAt, he]
  rw [hsame, Bool.and_eq_true, decide_eq_true_eq, distance, Int.abs_eq_natAbs]
  exact and_congr_right fun _ => by omega

section
variable {s : State} {x : Car} {b : Berth} {e : BerthEntry} {d : Side}

theorem releaseFault_alignment (h : ¬((s.doors.get x).alignment = .aligned ∧ s.alignedAt x b = true)) :
    s.releaseFault x b e d = some .alignment := by
  rw [State.releaseFault, if_pos]
  by_cases ha : (s.doors.get x).alignment = .aligned
  · have hnot : s.alignedAt x b = false := by simpa [ha] using h
    simp [hnot]
  · simp [ha]

theorem releaseFault_aligned (h : (s.doors.get x).alignment = .aligned ∧ s.alignedAt x b = true) :
    s.releaseFault x b e d =
      if !s.rope.flag then some .standstill
      else if s.sup.sbFb then some .brake
      else if !memberAt e.sides d.bit then some .noPlatform
      else if (s.track.cars.get x).link != .complete then some .link
      else if s.grantSet x e d = 0 then some .noLeaf
      else none := by
  rw [State.releaseFault, if_neg (by simp [h.1, h.2])]

end

/-! ### DOOR CLOSE (R171) -/

/-- What closing some sides leaves: each of them with no grant and a close order where it had a grant or has a leaf, and the berths of
withdrawn grants moved out. -/
structure SidesClosed (closed : Car → Side → Bool) (s t : State) : Prop where
  closes : ∀ x d, closed x d = true → (t.doors.get x).grants.get d = none ∧ (t.doors.get x).close.get d =
    ((s.doors.get x).close.get d || ((s.doors.get x).grants.get d).isSome || s.present x d != 0)
  leavesOut : ∀ x d, closed x d = false → (t.doors.get x).grants.get d = (s.doors.get x).grants.get d ∧
    (t.doors.get x).close.get d = (s.doors.get x).close.get d
  keeps : ∀ x, (t.doors.get x).leaves = (s.doors.get x).leaves ∧ (t.doors.get x).marks = (s.doors.get x).marks ∧
    (t.doors.get x).alignment = (s.doors.get x).alignment
  berths : ∀ k, t.board.berths.get k = s.board.berths.get k ∨ t.board.berths.get k = (s.board.berths.get k).moveOut
  cars : t.board.cars = s.board.cars
  frame : { t with doors := s.doors, board := s.board } = s

theorem SidesClosed.refl (s : State) : SidesClosed (fun _ _ => false) s s where
  closes _ _ h := absurd h (by decide)
  leavesOut _ _ _ := ⟨rfl, rfl⟩
  keeps _ := ⟨rfl, rfl, rfl⟩
  berths _ := .inl rfl
  cars := rfl
  frame := rfl

theorem SidesClosed.track {closed : Car → Side → Bool} {s t : State} (h : SidesClosed closed s t) : t.track = s.track := by
  have htrack := congrArg State.track h.frame
  exact htrack

theorem SidesClosed.trans {f g : Car → Side → Bool} {s t u : State} (h : SidesClosed f s t) (k : SidesClosed g t u) :
    SidesClosed (fun x d => f x d || g x d) s u where
  closes x d hx := by
    have hpresent : t.present x d = s.present x d := State.present_congr (congrArg Track.cars h.track)
    by_cases hg : g x d = true
    · obtain ⟨hnone, hclose⟩ := k.closes x d hg
      refine ⟨hnone, hclose.trans ?_⟩
      by_cases hf : f x d = true
      · obtain ⟨hnone', hclose'⟩ := h.closes x d hf
        rw [hnone', hclose', hpresent]
        simp
      · obtain ⟨hgrant, hsame⟩ := h.leavesOut x d (by simpa using hf)
        rw [hgrant, hsame, hpresent]
    · obtain ⟨hgrant, hsame⟩ := k.leavesOut x d (by simpa using hg)
      rw [hgrant, hsame]
      exact h.closes x d (by simpa [hg] using hx)
  leavesOut x d hx := by
    rw [Bool.or_eq_false_iff] at hx
    obtain ⟨hgrant, hclose⟩ := k.leavesOut x d hx.2
    obtain ⟨hgrant', hclose'⟩ := h.leavesOut x d hx.1
    exact ⟨hgrant.trans hgrant', hclose.trans hclose'⟩
  keeps x := ⟨(k.keeps x).1.trans (h.keeps x).1, (k.keeps x).2.1.trans (h.keeps x).2.1, (k.keeps x).2.2.trans (h.keeps x).2.2⟩
  berths b := by rcases k.berths b with e | e <;> rcases h.berths b with e' | e' <;> simp [e, e']
  cars := k.cars.trans h.cars
  frame := by
    have hblocks := congrArg (fun v : State => { v with doors := s.doors, board := s.board }) k.frame
    exact hblocks.trans h.frame

/-- One side of one car. -/
def oneSide (x : Car) (d : Side) (y : Car) (c : Side) : Bool := decide (y = x ∧ c = d)

theorem withdraw_closed {x : Car} {d : Side} {s : State} {g : Grant} (hg : (s.doors.get x).grants.get d = some g) :
    SidesClosed (oneSide x d) s (withdraw x d s) where
  closes y c h := by
    obtain ⟨rfl, rfl⟩ := of_decide_eq_true h
    simp [withdraw_doors, dropGrant_none, dropGrant_close, hg]
  leavesOut y c h := by
    rw [withdraw_doors]
    by_cases hy : y = x
    · subst hy
      have hc : c ≠ d := fun hc => by simp [oneSide, hc] at h
      rw [PerCar.get_set_same]
      exact dropGrant_other _ _ _ hc
    · rw [PerCar.get_set_ne _ _ _ _ hy]
      exact ⟨rfl, rfl⟩
  keeps y := by
    rw [withdraw_doors]
    by_cases hy : y = x
    · subst hy; simp
    · rw [PerCar.get_set_ne _ _ _ _ hy]
      exact ⟨rfl, rfl, rfl⟩
  berths := (withdraw_board x d s).2
  cars := (withdraw_board x d s).1
  frame := by
    simp only [withdraw, hg]
    split <;> rfl

/-- A close order on one side. -/
def orderSide (x : Car) (d : Side) (s : State) : State :=
  s.setDoors x { s.doors.get x with close := (s.doors.get x).close.set d true }

theorem orderSide_closed {x : Car} {d : Side} {s : State} (hg : (s.doors.get x).grants.get d = none) (hp : s.present x d ≠ 0) :
    SidesClosed (oneSide x d) s (orderSide x d s) where
  closes y c h := by
    obtain ⟨rfl, rfl⟩ := of_decide_eq_true h
    have hleaf : (s.present y c != 0) = true := bne_iff_ne.mpr hp
    simp only [orderSide, State.setDoors_doors, PerCar.get_set_same, PerSide.get_set_same, hleaf, Bool.or_true, hg, and_self]
  leavesOut y c h := by
    by_cases hy : y = x
    · subst hy
      have hc : c ≠ d := fun hc => by simp [oneSide, hc] at h
      simp [orderSide, PerSide.get_set_ne _ _ _ _ hc]
    · simp [orderSide, PerCar.get_set_ne _ _ _ _ hy]
  keeps y := by
    by_cases hy : y = x
    · subst hy; simp [orderSide]
    · simp [orderSide, PerCar.get_set_ne _ _ _ _ hy]
  berths _ := .inl rfl
  cars := rfl
  frame := rfl

theorem SidesClosed.of_nothing {x : Car} {d : Side} {s : State} (hg : (s.doors.get x).grants.get d = none) (hp : s.present x d = 0) :
    SidesClosed (oneSide x d) s s where
  closes y c h := by
    obtain ⟨rfl, rfl⟩ := of_decide_eq_true h
    simp [hg, hp]
  leavesOut _ _ _ := ⟨rfl, rfl⟩
  keeps _ := ⟨rfl, rfl, rfl⟩
  berths _ := .inl rfl
  cars := rfl
  frame := rfl

theorem closeSide_closed (x : Car) (d : Side) (s : State) : SidesClosed (oneSide x d) s (closeSide x d s) := by
  unfold closeSide
  split
  next g hg => exact withdraw_closed hg
  next hg =>
    split
    · exact .of_nothing hg ‹_›
    · exact orderSide_closed hg ‹_›

theorem foldl_closeSide_closed (x : Car) (l : List Side) (s : State) :
    SidesClosed (fun y c => decide (y = x ∧ c ∈ l)) s (l.foldl (fun t d => closeSide x d t) s) := by
  induction l generalizing s with
  | nil => simpa using SidesClosed.refl s
  | cons d l ih =>
    have hboth := (closeSide_closed x d s).trans (ih (closeSide x d s))
    have hsame : (fun y c => oneSide x d y c || decide (y = x ∧ c ∈ l)) = fun y c => decide (y = x ∧ c ∈ d :: l) := by
      funext y c
      simp only [oneSide, List.mem_cons, ← Bool.decide_or, ← and_or_left]
    rw [hsame] at hboth
    exact hboth

/-- The sides of a set, of the cars named. -/
def sidesOfCars (set : Byte) (cars : Car → Bool) (y : Car) (c : Side) : Bool := cars y && set.getLsbD c.bit

theorem mem_sidesOf (set : Byte) (d : Side) : d ∈ sidesOf set ↔ set.getLsbD d.bit = true := by
  cases d <;> simp [sidesOf, sideList, -BitVec.getLsbD_eq_getElem]

theorem closeSides_closed (x : Car) (set : Byte) (s : State) :
    SidesClosed (sidesOfCars set fun y => decide (y = x)) s (closeSides x set s) := by
  have h := foldl_closeSide_closed x (sidesOf set) s
  simp only [mem_sidesOf, Bool.decide_and, Bool.decide_eq_true] at h
  exact h

/-- The doors after DOOR CLOSE at a berth: those of the car there, or of both cars. -/
def doorsClosed (b : Berth) (set : Byte) (s : State) : State :=
  match s.carAt b with
  | some x => closeSides x set s
  | none => closeSides .b set (closeSides .a set s)

theorem doorsClosed_closed (b : Berth) (set : Byte) (s : State) :
    SidesClosed (sidesOfCars set fun x => decide (s.carAt b = some x ∨ s.carAt b = none)) s (doorsClosed b set s) := by
  unfold doorsClosed
  split
  next x hx =>
    have hcars : (fun y => decide (s.carAt b = some y ∨ s.carAt b = none)) = fun y => decide (y = x) := by
      funext y
      simp [hx, eq_comm]
    rw [hcars]
    exact closeSides_closed x set s
  next hx =>
    have hboth := (closeSides_closed .a set s).trans (closeSides_closed .b set (closeSides .a set s))
    have hcars : (fun x d => sidesOfCars set (fun y => decide (y = .a)) x d || sidesOfCars set (fun y => decide (y = .b)) x d) =
        sidesOfCars set fun x => decide (s.carAt b = some x ∨ s.carAt b = none) := by
      funext y c
      cases y <;> simp [sidesOfCars, hx]
    rw [hcars] at hboth
    exact hboth

theorem reqDoorClose_at {p : Port} {b : Berth} {set : Byte} (s : State) (hb : b.station = p) (hlo : 1 ≤ set.toNat) (hhi : set.toNat ≤ 3) :
    reqDoorClose p [byteOf b.idx, set] s =
      (doorsClosed b set s, ⟨.done, .closeOrders ((doorsClosed b set s).doors.map fun c => c.close)⟩) := by
  have hset : ¬(set.toNat < 1 ∨ 3 < set.toNat) := by omega
  simp only [reqDoorClose, if_neg hset, berthArg_serves hb]
  rfl

theorem reqDoorClose_notServing {p : Port} {b : Berth} {set : Byte} (s : State) (hb : b.station ≠ p) (hlo : 1 ≤ set.toNat)
    (hhi : set.toNat ≤ 3) : reqDoorClose p [byteOf b.idx, set] s = refuse .notServing s := by
  have hset : ¬(set.toNat < 1 ∨ 3 < set.toNat) := by omega
  simp only [reqDoorClose, if_neg hset, berthArg_other hb]

theorem reqDoorClose_badBody {l : List Byte} (p : Port) (s : State) (h : ∀ y z, l = [y, z] → 3 < y.toNat ∨ z = 0 ∨ 3 < z.toNat) :
    reqDoorClose p l s = refuse .badArgument s := by
  unfold reqDoorClose
  split
  next y z =>
    rcases h y z rfl with hy | hz
    · rw [berthArg_bad p hy]
      exact ite_self _
    · refine if_pos (hz.imp_left ?_)
      rintro rfl
      decide
  next => rfl

theorem station_permits {b : Berth} {p : Port} (hb : b.station = p) : p ≠ .d := by
  rintro rfl
  cases b <;> simp [Berth.station] at hb

/-- Settles O42: the reasons, the sets, the refusals, the grant and the closing. -/
theorem doorsAreReleasedAndClosed : Obligations.DoorsAreReleasedAndClosed := by
  refine ⟨rfl, fun x e d s k hk => s.grantSet_iff x e d hk, fun p b d s hp hfree => ?refused,
    fun p b x d e s hfree hline hb hx he halign hat hflag hsb hside hlink hset => ?grant, fun p b set s hfree hb hlo hhi => ?close⟩
  case refused =>
    intro refused body reason
    have hrelease : Request.doorRelease.permitted p = true := by simpa [Request.permitted] using hp
    have hclose : Request.doorClose.permitted p = true := by simpa [Request.permitted] using hp
    have hbody : body = [byteOf b.idx, sideByte d] := by cases d <;> rfl
    refine ⟨fun set hlo hhi hb => exec_refuse (r := .doorClose) hfree (reqDoorClose_notServing s hb hlo hhi) rfl hclose,
      fun l hl => exec_refuse (r := .doorClose) hfree (reqDoorClose_badBody p s hl) rfl hclose, fun hline => ?_⟩
    refine ⟨fun l hl => exec_refuse (r := .doorRelease) hfree (reqDoorRelease_badBody p hline hl) rfl hrelease, fun hb => ?_,
      fun hb hnone => ?_, fun x e hb hx he => ?_⟩
    · rw [hbody]
      exact exec_refuse (r := .doorRelease) hfree (reqDoorRelease_notServing d hline hb) rfl hrelease
    all_goals
      have hserve := reqDoorRelease_at d hline hb
      rw [← hbody] at hserve
    · exact exec_refused (r := .doorRelease) hfree hrelease (hserve.trans (doorReleaseAt_noCar d hnone)) rfl
    · intro aligned
      have hfault {r : DoorReason} (hr : s.releaseFault x b e d = some r) : reason r :=
        exec_refused (r := .doorRelease) hfree hrelease
          (hserve.trans (doorReleaseAt_fault ((s.carAt_iff x b).mpr hx) he hr)) rfl
      have haligned : aligned ↔ (s.doors.get x).alignment = .aligned ∧ s.alignedAt x b = true := by
        rw [State.alignedAt_iff he]
      refine ⟨fun h => hfault (releaseFault_alignment fun k => h (haligned.mpr k)), fun h hflag => hfault ?_, fun h hflag hsb => hfault ?_,
        fun h hflag hsb => ⟨fun hside => hfault ?_, fun hside hlink => hfault ?_, fun hside hlink hset => hfault ?_⟩⟩
      all_goals rw [releaseFault_aligned (haligned.mp h)]
      · simp [hflag]
      · simp [hflag, hsb]
      · simp [hflag, hsb, memberAt, hside, -BitVec.getLsbD_eq_getElem]
      · simp [hflag, hsb, memberAt, hside, hlink, -BitVec.getLsbD_eq_getElem]
      · simp [hflag, hsb, memberAt, hside, hlink, hset, -BitVec.getLsbD_eq_getElem]
  case grant =>
    intro body c
    have hbody : body = [byteOf b.idx, sideByte d] := by cases d <;> rfl
    have hrelease : Request.doorRelease.permitted p = true := by simpa [Request.permitted] using station_permits hb
    have hnone : s.releaseFault x b e d = none :=
      (releaseFault_none_iff s x b e d).mpr ⟨halign, hat, hflag, hsb, hside, hlink, hset⟩
    have hserve := (reqDoorRelease_at d hline hb).trans (doorReleaseAt_free hx he hnone)
    rw [← hbody] at hserve
    refine ⟨fun hg => ?_, fun g hg => ?_⟩
    · simp only [show (s.doors.get x).grants.get d = none from hg] at hserve
      exact exec_taken_still (r := .doorRelease) hfree hrelease hserve (by simp [hline, LineState.still])
    · simp only [show (s.doors.get x).grants.get d = some g from hg] at hserve
      exact exec_taken_still (r := .doorRelease) hfree hrelease hserve (by simp [hline, LineState.still])
  case close =>
    have hclose : Request.doorClose.permitted p = true := by simpa [Request.permitted] using station_permits hb
    have hsides := doorsClosed_closed b set s
    refine ⟨doorsClosed b set s, exec_taken (r := .doorClose) hfree hclose rfl (reqDoorClose_at s hb hlo hhi) rfl, fun x d => ?_, hsides.keeps,
      hsides.berths, hsides.cars, hsides.frame⟩
    intro c v
    have hmember : sidesOfCars set (fun y => decide (s.carAt b = some y ∨ s.carAt b = none)) x d = true ↔
        memberAt set d.bit = true ∧ (s.carAt b = some x ∨ s.carAt b = none) := by
      rw [sidesOfCars, Bool.and_eq_true, decide_eq_true_eq, and_comm, memberAt]
    split
    next h => exact hsides.closes x d (hmember.mpr h)
    next h => exact hsides.leavesOut x d (by rw [← Bool.not_eq_true, hmember]; exact h)

end Sys2Proof.Machine
end

section
/-! PROOFS. BOARDING OPEN and BOARDING CLOSE (O43), ADMIT (O45), PASSAGE (O46) and STATION CLEAR (O47). -/

namespace Sys2Proof.Machine

/-! ### The quota (R186) -/

theorem State.carAt_eq_none {s : State} {b : Berth} : s.carAt b = none ↔ ∀ x, ¬StandsAt s x b := by
  simp only [Option.eq_none_iff_forall_ne_some, ne_eq, State.carAt_iff]

theorem State.quota_at {s : State} {x : Car} {b : Berth} (hx : s.carAt b = some x) :
    s.quota b = if (s.board.cars.get x).uncertain then 0
      else s.capacity x - (s.board.cars.get x).onboard - (s.board.berths.get b).pen - (s.board.berths.get b).reserved := by
  simp only [State.quota, hx]

theorem State.quota_none {s : State} {b : Berth} (h : s.carAt b = none) : s.quota b = 0 := by
  simp only [State.quota, h]

/-- The quota reads a berth's pen and its pending list alone. -/
theorem State.quota_setBoard {s : State} {b : Berth} {v : BerthBoard} (hpen : v.pen = (s.board.berths.get b).pen)
    (hpending : v.pending = (s.board.berths.get b).pending) : (s.setBoard b v).quota b = s.quota b := by
  have hat : (s.setBoard b v).carAt b = s.carAt b := rfl
  cases hx : s.carAt b with
  | none => rw [State.quota_none hx, State.quota_none (hat.trans hx)]
  | some x =>
    rw [State.quota_at hx, State.quota_at (hat.trans hx)]
    simp [hpen, BerthBoard.reserved, hpending, State.capacity]

/-! ### BOARDING OPEN and BOARDING CLOSE (R180, R183) -/

theorem reqBoardingOpen_at {p : Port} {b : Berth} {s : State} (hline : s.trip.line = .parked) (hb : b.station = p) :
    reqBoardingOpen p [byteOf b.idx] s = boardingOpenAt b s := by
  simp [reqBoardingOpen, hline, berthArg_serves hb]

theorem reqBoardingOpen_notServing {p : Port} {b : Berth} {s : State} (hline : s.trip.line = .parked) (hb : b.station ≠ p) :
    reqBoardingOpen p [byteOf b.idx] s = refuse .notServing s := by
  simp [reqBoardingOpen, hline, berthArg_other hb]

theorem reqBoardingOpen_badBody {l : List Byte} {s : State} (p : Port) (hline : s.trip.line = .parked) (h : ∀ y, l = [y] → 3 < y.toNat) :
    reqBoardingOpen p l s = refuse .badArgument s := by
  unfold reqBoardingOpen
  rw [if_neg fun k => k hline]
  split
  next y => rw [berthArg_bad p (h y rfl)]
  next => rfl

theorem reqBoardingClose_badBody {l : List Byte} (p : Port) (s : State) (h : ∀ y, l = [y] → 3 < y.toNat) :
    reqBoardingClose p l s = refuse .badArgument s := by
  unfold reqBoardingClose
  split
  next y => rw [berthArg_bad p (h y rfl)]
  next => rfl

theorem reqBoardingClose_notServing {p : Port} {b : Berth} (s : State) (hb : b.station ≠ p) :
    reqBoardingClose p [byteOf b.idx] s = refuse .notServing s := by
  simp only [reqBoardingClose, berthArg_other hb]

theorem reqBoardingClose_at {p : Port} {b : Berth} (s : State) (hb : b.station = p) :
    reqBoardingClose p [byteOf b.idx] s = (moveBerth b s, ⟨.done, .boardingState (s.board.berths.get b).moveOut.state⟩) := by
  simp only [reqBoardingClose, berthArg_serves hb, moveBerth_get_same, answerWith]

theorem moveOut_eq (v : BerthBoard) : v.moveOut = { v with state := match v.state with
    | .open => if v.pending = [] then BoardingState.sealed else .closing
    | .armed => .closed
    | st => st } := by
  obtain ⟨state, pen, alighting, pending, refused, late, excess⟩ := v
  cases state <;> simp [BerthBoard.moveOut]

theorem boardingOpenAt_restricted {b : Berth} {s : State} (hmode : s.trip.mode ≠ .inspection) (h : s.restricted = true) :
    boardingOpenAt b s = refuse .restricted s := by
  rw [boardingOpenAt, if_neg hmode, if_pos h]

theorem boardingOpenAt_noGrant {b : Berth} {s : State} (hmode : s.trip.mode ≠ .inspection) (h : ¬s.restricted = true)
    (hgrant : ∀ x, s.carAt b = some x → (s.doors.get x).anyGrant = false) : boardingOpenAt b s = refuse .interlock s := by
  rw [boardingOpenAt, if_neg hmode, if_neg h]
  cases hx : s.carAt b with
  | none => rfl
  | some x => exact if_pos (by simp [hgrant x hx])

theorem boardingOpenAt_open {b : Berth} {s : State} {x : Car} (hmode : s.trip.mode ≠ .inspection) (h : ¬s.restricted = true)
    (hx : s.carAt b = some x) (hgrant : (s.doors.get x).anyGrant = true) :
    boardingOpenAt b s = match (s.board.berths.get b).state with
      | .closing => refuse .busy s
      | .open => answerWith .done (.boarding .open (s.quota b)) s
      | .armed => answerWith .done (.boarding .armed (s.quota b)) s
      | _ =>
        let v := { s.board.berths.get b with state := .armed }.openIfClear s.alightAllow
        answerWith .done (.boarding v.state ((s.setBoard b v).quota b)) (s.setBoard b v) := by
  rw [boardingOpenAt, if_neg hmode, if_neg h, hx]
  exact if_neg (by simp [hgrant])

theorem openIfClear_armed (allow : Nat) (v : BerthBoard) :
    { v with state := .armed }.openIfClear allow = { v with state := if v.alighting ≤ allow then .open else .armed } := by
  unfold BerthBoard.openIfClear
  by_cases h : v.alighting ≤ allow <;> simp [h]

theorem CarDoors.anyGrant_iff (c : CarDoors) : c.anyGrant = true ↔ ∃ d, c.grants.get d ≠ none := by
  rw [← Bool.not_eq_false, CarDoors.anyGrant_eq_false, not_forall]

theorem not_restricted {s : State} (h : ∀ k, (s.sched.obligations.get k).debt ≠ 3) : ¬s.restricted = true := by
  rw [State.restricted_iff, not_exists]
  exact h

/-- Settles O43: the refusals in their order, the states that BOARDING OPEN finds, and BOARDING CLOSE. -/
theorem boardingOpensAndCloses : Obligations.BoardingOpensAndCloses := by
  refine ⟨fun p b s hp hfree => ?refused, fun p b s hfree hb => ?taken⟩
  case refused =>
    intro refused body restricted
    have hopen : Request.boardingOpen.permitted p = true := by simpa [Request.permitted] using hp
    have hclose : Request.boardingClose.permitted p = true := by simpa [Request.permitted] using hp
    have opens {l : List Byte} {c : Result} (hserve : reqBoardingOpen p l s = refuse c s) (hc : c.refuses = true) : refused .boardingOpen l c :=
      exec_refuse (r := .boardingOpen) hfree hserve hc hopen
    have closes {l : List Byte} {c : Result} (hserve : reqBoardingClose p l s = refuse c s) (hc : c.refuses = true) :
        refused .boardingClose l c := exec_refuse (r := .boardingClose) hfree hserve hc hclose
    refine ⟨fun l hl => ⟨closes (reqBoardingClose_badBody p s hl) rfl, fun hline => opens (reqBoardingOpen_badBody p hline hl) rfl⟩,
      fun hb => ⟨closes (reqBoardingClose_notServing s hb) rfl, fun hline => opens (reqBoardingOpen_notServing hline hb) rfl⟩,
      fun hb hline => ⟨fun hmode => ?_, fun hmode hr => ?_, fun hmode hr hnone => ?_⟩⟩
    all_goals have hserve := reqBoardingOpen_at hline hb
    · exact opens (hserve.trans (if_pos hmode)) rfl
    · exact opens (hserve.trans (boardingOpenAt_restricted hmode (s.restricted_iff.mpr hr))) rfl
    · refine opens (hserve.trans (boardingOpenAt_noGrant hmode (fun k => hr (s.restricted_iff.mp k)) fun x hx => ?_)) rfl
      exact (CarDoors.anyGrant_eq_false _).mpr (hnone x ((s.carAt_iff x b).mp hx))
  case taken =>
    have hopen : Request.boardingOpen.permitted p = true := by simpa [Request.permitted] using station_permits hb
    have hclose : Request.boardingClose.permitted p = true := by simpa [Request.permitted] using station_permits hb
    intro v body
    refine ⟨fun x hline hmode hdebt hx hgrant => ?_, ?_⟩
    · have hserve := (reqBoardingOpen_at hline hb).trans
        (boardingOpenAt_open hmode (not_restricted hdebt) hx ((CarDoors.anyGrant_iff _).mpr hgrant))
      have hstill : s.trip.line.still = true := by rw [hline]; rfl
      refine ⟨fun hv => ?_, fun hv => ?_, fun hv => ?_⟩
      · intro n
        have hbody : reqBoardingOpen p body s = (s.setBoard b { v with state := n }, ⟨.done, .boarding n (s.quota b)⟩) := by
          have hquota : (s.setBoard b { v with state := n }).quota b = s.quota b := State.quota_setBoard rfl rfl
          rw [show body = [byteOf b.idx] from rfl, hserve]
          rcases hv with hv | hv <;>
            simp only [show (s.board.berths.get b).state = _ from hv, openIfClear_armed, answerWith] <;> rw [← hquota]
        exact exec_taken_still (r := .boardingOpen) hfree hopen hbody hstill
      · have hbody : reqBoardingOpen p body s = (s, ⟨.done, .boarding v.state (s.quota b)⟩) := by
          rw [show body = [byteOf b.idx] from rfl, hserve]
          rcases hv with hv | hv <;> simp only [show (s.board.berths.get b).state = _ from hv, hv, answerWith]
        exact exec_taken_still (r := .boardingOpen) hfree hopen hbody hstill
      · simp only [show (s.board.berths.get b).state = .closing from hv] at hserve
        exact exec_refuse (r := .boardingOpen) hfree hserve rfl hopen
    · intro n
      have hserve := reqBoardingClose_at s hb
      have hmoved : moveBerth b s = s.setBoard b { v with state := n } := congrArg (s.setBoard b) (moveOut_eq v)
      have hstate : (s.board.berths.get b).moveOut.state = n := congrArg BerthBoard.state (moveOut_eq v)
      rw [hmoved, hstate] at hserve
      exact exec_taken (r := .boardingClose) hfree hclose rfl hserve rfl

end Sys2Proof.Machine
end

section
/-! PROOFS. ADMIT (O45), PASSAGE (O46) and STATION CLEAR (O47). -/

namespace Sys2Proof.Machine

/-! ### ADMIT (R189, R190) -/

theorem byteOf_toNat {n : Nat} (h : n < 256) : (byteOf n).toNat = n := by
  rw [byteOf, BitVec.toNat_ofNat, Nat.mod_eq_of_lt h]

theorem reqAdmit_kind {g group : Nat} {s : State} (p : Port) (code : Byte) (hg : g ≤ 7) (hlo : 1 ≤ group) (hhi : group ≤ 8)
    (h : (s.gate p g).kind ≠ 1) : reqAdmit p [byteOf g, code, byteOf group] s = refuse .badArgument s := by
  have hrange : ¬(7 < g ∨ group < 1 ∨ 8 < group) := by omega
  simp only [reqAdmit, byteOf_toNat (show g < 256 by omega), byteOf_toNat (show group < 256 by omega), if_neg hrange, if_pos h]

theorem reqAdmit_at {g group : Nat} {b : Berth} {s : State} (p : Port) (code : Byte) (hg : g ≤ 7) (hlo : 1 ≤ group) (hhi : group ≤ 8)
    (h : (s.gate p g).kind = 1) (hb : Berth.ofCode (s.gate p g).berth = some b) :
    reqAdmit p [byteOf g, code, byteOf group] s = admitAt p g code group b s := by
  have hrange : ¬(7 < g ∨ group < 1 ∨ 8 < group) := by omega
  simp only [reqAdmit, byteOf_toNat (show g < 256 by omega), byteOf_toNat (show group < 256 by omega), if_neg hrange,
    if_neg (not_not_intro h), hb]

/-- A gate's record is pending at some berth. -/
theorem State.holder_isSome_iff (s : State) (i : Nat) :
    (s.holder i).isSome = true ↔ ∃ k, ∃ r ∈ (s.board.berths.get k).pending, r.gate = i := by
  rw [State.holder, List.find?_isSome]
  simp only [List.any_eq_true, beq_iff_eq]
  exact ⟨fun ⟨k, _, h⟩ => ⟨k, h⟩, fun ⟨k, h⟩ => ⟨k, mem_berthList k, h⟩⟩

/-- The quota falls by the group granted. -/
theorem quota_grantAdmission (i group : Nat) (b : Berth) (s : State) : (grantAdmission i group b s).quota b = s.quota b - group := by
  have hat : (grantAdmission i group b s).carAt b = s.carAt b := rfl
  cases hx : s.carAt b with
  | none => rw [State.quota_none hx, State.quota_none (hat.trans hx), Nat.zero_sub]
  | some x =>
    have hreserved : ((grantAdmission i group b s).board.berths.get b).reserved = (s.board.berths.get b).reserved + group := by
      simp [grantAdmission, BerthBoard.reserved]
    have hpen : ((grantAdmission i group b s).board.berths.get b).pen = (s.board.berths.get b).pen := by simp [grantAdmission]
    have hcars : (grantAdmission i group b s).board.cars = s.board.cars := rfl
    have hcapacity : (grantAdmission i group b s).capacity x = s.capacity x := rfl
    rw [State.quota_at (hat.trans hx), State.quota_at hx, hreserved, hpen, hcars, hcapacity]
    split <;> omega

theorem raiseOnBoth_station {p : Port} (n : Notice) (s : State) (hp : p ≠ .d) : raiseOnBoth n p s = raiseOn n .d (raiseOn n p s) :=
  if_neg hp

theorem capacity_eq (s : State) (x : Car) : s.capacity x = match (s.track.cars.get x).ability with
    | some r => (r.capacities.toList.map BitVec.toNat).sum
    | none => 0 := rfl

/-- Settles O45: the quota as a figure, and the five checks of ADMIT in their order. -/
theorem admissionIsWithinTheQuota : Obligations.AdmissionIsWithinTheQuota := by
  refine ⟨fun b s => ?quota, fun p g code group s hp hfree hg hlo hhi => ?admission⟩
  case quota =>
    refine ⟨fun x => s.carAt_iff x b, fun x hx => ?_, fun h => State.quota_none (State.carAt_eq_none.mpr h)⟩
    intro c capacity
    have hquota := State.quota_at ((s.carAt_iff x b).mpr hx)
    refine ⟨fun hcertain => ?_, fun huncertain => ?_⟩
    · rw [if_neg (by simp [show (s.board.cars.get x).uncertain = false from hcertain])] at hquota
      have hcapacity : (s.capacity x : Int) = capacity := by
        simp only [capacity, capacity_eq]
        cases (s.track.cars.get x).ability <;> rfl
      rw [hquota, ← hcapacity, BerthBoard.reserved]
      simp only [c]
      omega
    · rw [hquota, if_pos huncertain]
  case admission =>
    intro body i held refused
    have hadmit : Request.admission.permitted p = true := by simpa [Request.permitted] using hp
    have by_owner {c : Result} (hserve : reqAdmit p body s = refuse c s) : refused c :=
      exec_inert (r := .admission) hfree hadmit rfl hserve
    refine ⟨fun hkind => by_owner (reqAdmit_kind p code hg hlo hhi hkind), fun b hkind hb => ?_⟩
    intro v
    have hserve : reqAdmit p body s = _ := reqAdmit_at p code hg hlo hhi hkind hb
    have hheld : (s.holder (gateIndex p g)).isSome = true ↔ held := s.holder_isSome_iff (gateIndex p g)
    refine ⟨fun hv => by_owner (hserve.trans (if_pos hv)), fun hv hpending => ?_, fun hv hpending hrule => ?_,
      fun hv hpending hrule hquota => ?_, fun hv hpending hrule hquota => ?_⟩
    all_goals rw [admitAt, if_neg (not_not_intro hv)] at hserve
    · exact by_owner (hserve.trans (if_pos (hheld.mpr hpending)))
    all_goals rw [if_neg fun k => hpending (hheld.mp k)] at hserve
    · exact by_owner (hserve.trans (if_pos (by simp [hrule])))
    all_goals rw [if_neg (by simp [hrule])] at hserve
    · rw [if_pos hquota, refuseQuota, raiseOnBoth_station _ _ hp] at hserve
      exact exec_inert (r := .admission) hfree hadmit rfl hserve
    · rw [if_neg (Nat.not_lt.mpr hquota)] at hserve
      simp only [quota_grantAdmission] at hserve
      exact exec_inert (r := .admission) hfree hadmit rfl hserve

/-! ### PASSAGE and the passage window (R191 to R194) -/

theorem settle_berth_eq (v : BerthBoard) :
    v.settle = if v.state = .closing ∧ v.pending = [] then { v with state := .sealed } else v := by
  obtain ⟨state, pen, alighting, pending, refused, late, excess⟩ := v
  cases state <;> cases pending <;> simp [BerthBoard.settle]

theorem settle_berth_pen (v : BerthBoard) : v.settle.pen = v.pen := by
  rw [settle_berth_eq]
  split <;> rfl

theorem reqPassage_entry {g n : Nat} {b : Berth} {s : State} (p : Port) (hg : g ≤ 7) (hn : n ≤ 8) (h : (s.gate p g).kind = 1)
    (hb : Berth.ofCode (s.gate p g).berth = some b) : reqPassage p [byteOf g, byteOf n] s = passEntry p g n b s := by
  have hrange : ¬(7 < g ∨ 8 < n) := by omega
  simp only [reqPassage, byteOf_toNat (show g < 256 by omega), byteOf_toNat (show n < 256 by omega), if_neg hrange, h, hb]

theorem reqPassage_exit {g n : Nat} {b : Berth} {s : State} (p : Port) (hg : g ≤ 7) (hn : n ≤ 8) (h : (s.gate p g).kind = 2)
    (hb : Berth.ofCode (s.gate p g).berth = some b) : reqPassage p [byteOf g, byteOf n] s = passExit n b s := by
  have hrange : ¬(7 < g ∨ 8 < n) := by omega
  simp only [reqPassage, byteOf_toNat (show g < 256 by omega), byteOf_toNat (show n < 256 by omega), if_neg hrange, h, hb]

/-- The passed people join a pen count, which stops at 255. -/
theorem addPen_berth (b : Berth) (n : Nat) (s : State) (c : Berth) :
    (addPen b n s).board.berths.get c =
      if c = b then { s.board.berths.get c with pen := min 255 ((s.board.berths.get c).pen + n) } else s.board.berths.get c := by
  by_cases h : c = b
  · subst h
    simp [addPen, satAdd]
  · simp [addPen, h, PerBerth.get_set_ne _ _ _ _ h]

/-- The state after a passage that a pending record awaited. -/
def passageSettled (i n : Nat) (b k : Berth) (s : State) : State := addPen b n (s.setBoard k ((s.board.berths.get k).dropGate i))

theorem dropGate_pen (i : Nat) (v : BerthBoard) : (v.dropGate i).pen = v.pen := settle_berth_pen _

theorem passageSettled_berth (i n : Nat) (b k : Berth) (s : State) (c : Berth) :
    (passageSettled i n b k s).board.berths.get c =
      let w := if c = k then (s.board.berths.get c).dropGate i else s.board.berths.get c
      if c = b then { w with pen := min 255 ((s.board.berths.get c).pen + n) } else w := by
  have hdropped : (s.setBoard k ((s.board.berths.get k).dropGate i)).board.berths.get c =
      if c = k then (s.board.berths.get c).dropGate i else s.board.berths.get c := by
    by_cases h : c = k
    · subst h; simp
    · simp [h, PerBerth.get_set_ne _ _ _ _ h]
  have hpen : (if c = k then (s.board.berths.get c).dropGate i else s.board.berths.get c).pen = (s.board.berths.get c).pen := by
    split
    · exact dropGate_pen i _
    · rfl
  rw [passageSettled, addPen_berth, hdropped, hpen]

theorem passEntry_held {p : Port} {g n : Nat} {b k : Berth} {s : State} (h : s.holder (gateIndex p g) = some k) :
    passEntry p g n b s = (passageSettled (gateIndex p g) n b k s,
      ⟨.done, .counted b ((passageSettled (gateIndex p g) n b k s).board.berths.get b).pen⟩) := by
  simp only [passEntry, h]
  rfl

theorem passEntry_late {p : Port} {g n : Nat} {b : Berth} {s : State} (hp : p ≠ .d) (h : s.holder (gateIndex p g) = none) :
    let v := s.board.berths.get b
    passEntry p g n b s = (raiseOn .latePassage .d (raiseOn .latePassage p (s.setBoard b { v with
      pen := min 255 (v.pen + n), late := min 255 (v.late + 1) })), ⟨.late, .counted b (min 255 (v.pen + n))⟩) := by
  simp [passEntry, h, raiseOnBoth_station _ _ hp, addPen, satAdd, answerWith, State.setBoard]

theorem openIfClear_eq (allow : Nat) (v : BerthBoard) :
    v.openIfClear allow = { v with state := if v.state = .armed ∧ v.alighting ≤ allow then .open else v.state } := by
  unfold BerthBoard.openIfClear
  split <;> rfl

theorem passExit_eq (n : Nat) (b : Berth) (s : State) :
    let v := s.board.berths.get b
    let a := v.alighting - n
    passExit n b s = (s.setBoard b { v with alighting := a, state := if v.state = .armed ∧ a ≤ s.alightAllow then .open else v.state },
      ⟨.done, .counted b a⟩) := by
  simp [passExit, openIfClear_eq, answerWith]

/-- Settles O46: the three kinds of passage, and the end of a passage window. -/
theorem passagesAreCounted : Obligations.PassagesAreCounted := by
  unfold Obligations.PassagesAreCounted
  intro settled
  refine ⟨fun p g n b s hp hfree hg hn hb => ?passage, fun b s => ⟨fun h => if_pos h, fun h => ?window⟩⟩
  case passage =>
    intro body i v without pen
    have hpass : Request.passage.permitted p = true := by simpa [Request.permitted] using hp
    refine ⟨fun hkind k hk => ?_, fun hkind hnone => ?_, fun hkind => ?_⟩
    · have hserve := (reqPassage_entry p hg hn hkind hb).trans (passEntry_held hk)
      have hberth := passageSettled_berth (gateIndex p g) n b k s
      have hpen : ((passageSettled (gateIndex p g) n b k s).board.berths.get b).pen = pen := by
        rw [hberth]; exact congrArg BerthBoard.pen (if_pos rfl)
      rw [hpen] at hserve
      refine ⟨_, exec_taken (r := .passage) hfree hpass rfl hserve rfl, rfl, rfl, fun c => ?_⟩
      rw [hberth]
      have hwithout : (s.board.berths.get c).dropGate (gateIndex p g) = without (s.board.berths.get c) := settle_berth_eq _
      rw [hwithout]
      by_cases hc : c = b
      · subst hc; rfl
      · simp only [if_neg hc]
    · have hserve := (reqPassage_entry p hg hn hkind hb).trans (passEntry_late hp hnone)
      exact exec_taken (r := .passage) hfree hpass rfl hserve rfl
    · have hserve := (reqPassage_exit p hg hn hkind hb).trans (passExit_eq n b s)
      exact exec_taken (r := .passage) hfree hpass rfl hserve rfl
  case window =>
    change execPassageWindowExpiry b s = _
    rw [execPassageWindowExpiry, if_neg h, BerthBoard.dropOldest, settle_berth_eq]

/-! ### STATION CLEAR (R198) -/

theorem clear_berth_eq (v : BerthBoard) :
    v.clear = { v with pen := 0, alighting := 0, pending := [], state := if v.state = .closing then .sealed else v.state } := by
  obtain ⟨state, pen, alighting, pending, refused, late, excess⟩ := v
  cases state <;> simp [BerthBoard.clear, BerthBoard.settle]

theorem reqStationClear_at {p : Port} {b : Berth} (empty : Bool) (s : State) (hb : b.station = p) :
    reqStationClear p [byteOf b.idx, boolByte empty] s = stationClearAt b empty s := by
  have hempty : ¬1 < (boolByte empty).toNat ∧ decide (boolByte empty = 1) = empty := by cases empty <;> decide
  simp only [reqStationClear, if_neg hempty.1, berthArg_serves hb, hempty.2]

/-- Settles O47: the conditions in their order, and what is cleared. -/
theorem stationIsCleared : Obligations.StationIsCleared := by
  intro p b s hfree hb v body cleared refused taken
  have hclear : Request.stationClear.permitted p = true := by simpa [Request.permitted] using station_permits hb
  have hempty (c : Result) (hserve : stationClearAt b true s = refuse c s) (hc : c.refuses = true) : refused 1 c :=
    exec_refuse (r := .stationClear) hfree ((reqStationClear_at true s hb).trans hserve) hc hclear
  have hboard : s.setBoard b (s.board.berths.get b).clear = cleared := congrArg (s.setBoard b) (clear_berth_eq v)
  have hterminus : b = .b0 ∨ b = .b3 → (true && !b.isTerminus) = false := by rintro (rfl | rfl) <;> rfl
  refine ⟨fun hmid => hempty _ (if_pos ?_) rfl, fun hv => ?_, fun hterm hv => hempty _ ?_ rfl, fun hopen harmed => ?_,
    fun hterm hopen harmed => ⟨fun hnone => hempty _ ?_ rfl, fun x hx => ⟨fun hgrant => hempty _ ?_ rfl, fun hgrant => ?_⟩⟩⟩
  · rcases hmid with rfl | rfl <;> rfl
  · have hserve : stationClearAt b false s = refuse .interlock s := by
      rw [stationClearAt, if_neg (by simp), if_pos hv]
    exact exec_refuse (r := .stationClear) hfree ((reqStationClear_at false s hb).trans hserve) rfl hclear
  · rw [stationClearAt, if_neg (by simp [hterminus hterm]), if_pos hv]
  · have hserve : stationClearAt b false s = clearStation b none s := by
      rw [stationClearAt, if_neg (by simp), if_neg (not_or_intro hopen harmed)]
      rfl
    rw [clearStation, hboard] at hserve
    exact exec_taken (r := .stationClear) hfree hclear rfl ((reqStationClear_at false s hb).trans hserve) rfl
  all_goals
    have hcase : stationClearAt b true s = match s.carAt b with
        | some x => if (s.doors.get x).anyGrant then clearStation b (some x) s else refuse .interlock s
        | none => refuse .interlock s := by
      rw [stationClearAt, if_neg (by simp [hterminus hterm]), if_neg (not_or_intro hopen harmed)]
      rfl
  · simp only [hnone] at hcase
    exact hcase
  · simp only [hx, hgrant] at hcase
    exact hcase
  · simp only [hx, hgrant] at hcase
    have hserve : stationClearAt b true s = clearStation b (some x) s := hcase
    rw [clearStation, hboard] at hserve
    exact exec_taken (r := .stationClear) hfree hclear rfl ((reqStationClear_at true s hb).trans hserve) rfl

end Sys2Proof.Machine
end

section
/-! PROOFS. The brake feedback watch (O25) and the taking of a trip cause (O26). -/

namespace Sys2Proof.Machine

/-! ### The brake feedback watch (R93) -/

/-- Settles O25: the change and the expiry by their brake, SB's release with the grants that R169 withdraws. -/
theorem brakeFeedbackIsWatched : Obligations.BrakeFeedbackIsWatched := by
  have hxor : ∀ v c : Bool, (v != c) = decide (v ≠ c) := by decide
  intro v s
  refine ⟨fun h => ?_, fun h => ?_, fun h => ?_, fun h => ?_, fun h => ?_, fun h => ?_, fun h => ?_, fun h => ?_⟩
  · exact if_pos h
  · exact if_pos h
  · show execBrakeFeedbackChange .eb v s = _
    simp [execBrakeFeedbackChange, State.feedback, h, takeFeedback, hxor]
  · intro t
    show execBrakeFeedbackChange .sb v s = _
    simp [execBrakeFeedbackChange, State.feedback, h, takeFeedback, hxor, t]
  all_goals
    show execBrakeFeedbackLimitExpiry _ s = _
    simp [execBrakeFeedbackLimitExpiry, State.feedbackLimit, h, stopFeedbackLimit]

/-! ### What a cause leaves (R109 to R111, R122) -/

theorem clearTestOrder_of_trip {x : Car} {s : State} (h : s.sup.railOrder.get x = .trip) : clearTestOrder x s = s := by
  simp [clearTestOrder, h]

/-- Orders of TRIP stand at the end of the test in hand (R111, R122). -/
theorem endTestAtTrip_orders {s : State} (h : s.sup.railOrder = ⟨.trip, .trip⟩) : (endTestAtTrip s).sup = s.sup := by
  have horder : ∀ t : State, t.sup = s.sup → clearTestOrder .b (clearTestOrder .a t) = t := fun t ht => by
    have hget : ∀ x, t.sup.railOrder.get x = .trip := fun x => by rw [ht, h]; cases x <;> rfl
    rw [clearTestOrder_of_trip (hget .a), clearTestOrder_of_trip (hget .b)]
  unfold endTestAtTrip
  split
  next k g _ =>
    dsimp only
    split <;> rw [horder] <;> simp [stopTestLimits, writeTest]
  next => rfl

theorem tripLine_orders {e : CauseEntry} {s : State} (h : s.sup.railOrder = ⟨.trip, .trip⟩) :
    (tripLine e s).sup.railOrder = ⟨.trip, .trip⟩ := by
  have hdown : (tripController (forceZero (setDrv false (setSb false (setEb false s))))).sup.railOrder = ⟨.trip, .trip⟩ := by
    simpa using h
  simp [tripLine, restartFeedback, endTestAtTrip_orders hdown]; exact h

theorem endTestAtTrip_sched (s : State) :
    (endTestAtTrip s).sched.test = none ∧ (endTestAtTrip s).sched.obligations = s.sched.obligations ∧
    (∀ k g, s.sched.test = some (k, g) → g ≠ .ending →
      (endTestAtTrip s).sched.lastTest = some ⟨k, .aborted, s.sched.largest, (s.sched.obligations.get k).debt⟩) := by
  unfold endTestAtTrip
  split
  next k g htest => by_cases hg : g = .ending <;> simp_all [stopTestLimits, writeTest]
  next htest => simp [htest]

/-- An undecided test is aborted at a trip (R122). -/
theorem tripLine_lastTest (e : CauseEntry) (s : State) : ∀ k g, s.sched.test = some (k, g) → g ≠ .ending →
    (tripLine e s).sched.lastTest = some ⟨k, .aborted, s.sched.largest, (s.sched.obligations.get k).debt⟩ := by
  intro k g htest hg
  have hlast := (endTestAtTrip_sched (tripController (forceZero (setDrv false (setSb false (setEb false s)))))).2.2 k g (by simpa using htest) hg
  simpa [tripLine] using hlast

/-- The line record after a trip (R52, R89, R109). -/
theorem tripLine_record (e : CauseEntry) (s : State) :
    (tripLine e s).trip.forming = 0 ∧ (tripLine e s).trip.frame.speed = 0 ∧
    (tripLine e s).trip.frame.count = (s.trip.frameCount + 1) % 256 ∧ (tripLine e s).trip.stop = .none ∧
    (tripLine e s).trip.parkedBerth = none ∧ (tripLine e s).trip.origin = (if s.trip.line = .closed then .closed else .open) ∧
    (tripLine e s).trip.record = s.trip.record.map (fun r => if r.ending = none then { r with ending := some .tripped } else r) := by
  simp [tripLine, tripController, setDrv_off_trip_eq, -setDrv_off_trip, LineState.keepsBerth]

theorem endTestAtTrip_flags (s : State) (q : Port) (k : Nat) (h : (s.links.get q).flags.getLsbD k = true) :
    ((endTestAtTrip s).links.get q).flags.getLsbD k = true := by
  have horder : ∀ (x : Car) (t : State), (clearTestOrder x t).links = t.links := fun x t => by
    unfold clearTestOrder
    split
    · split <;> rfl
    · rfl
  unfold endTestAtTrip
  split
  · dsimp only
    rw [horder, horder]
    split
    · exact h
    · simpa [stopTestLimits, writeTest] using raise_keeps _ .testDone k h
  · exact h

/-- TRIP and the line's change to TRIPPED are noticed (R42, R109). -/
theorem tripLine_flags (e : CauseEntry) (s : State) (hline : s.trip.line ≠ .tripped) (q : Port) :
    ((tripLine e s).links.get q).flags.getLsbD 10 = true ∧ ((tripLine e s).links.get q).flags.getLsbD 0 = true := by
  have hnoticed : s.trip.line.noticed .tripped = true := by cases h : s.trip.line <;> simp_all [LineState.noticed]
  have hlinks : ∃ u : State, ((tripLine e s).links.get q) = ((u.links.get q).raise .lineState).raise .trip := by
    refine ⟨endTestAtTrip (tripController (forceZero (setDrv false (setSb false (setEb false s))))), ?_⟩
    simp [tripLine, restartFeedback, setDrv_off_trip_eq, -setDrv_off_trip, tripController, hnoticed]
  obtain ⟨u, hu⟩ := hlinks
  rw [hu]
  exact ⟨raise_sets _ .trip, raise_keeps _ _ _ (raise_sets _ .lineState)⟩

/-- A cause taken with some listed already, by its three forms (R110). -/
theorem listCause_cases (e : CauseEntry) (s : State) :
    ((∃ f ∈ s.sup.causes, f.cause = e.cause) → listCause e s = s) ∧
    ((∀ f ∈ s.sup.causes, f.cause ≠ e.cause) →
      (s.sup.causes.length < 4 → listCause e s = raiseAll .trip { s with sup := { s.sup with causes := s.sup.causes ++ [e] } }) ∧
      (4 ≤ s.sup.causes.length → s.sup.overflow = true → listCause e s = s) ∧
      (4 ≤ s.sup.causes.length → s.sup.overflow = false →
        listCause e s = raiseAll .trip { s with sup := { s.sup with overflow := true } })) := by
  refine ⟨fun h => ?_, fun h => ⟨fun hl => ?_, fun hl ho => ?_, fun hl ho => ?_⟩⟩
  · exact if_pos (by simpa using h)
  all_goals
    have hnew : ¬(s.sup.causes.any fun f => f.cause == e.cause) = true := by simpa using h
    rw [listCause, if_neg hnew]
  · exact if_pos hl
  · rw [if_neg (by omega), if_pos ho]
  · rw [if_neg (by omega), if_neg (by simp [ho])]

theorem listCause_keeps (e : CauseEntry) (s : State) :
    (listCause e s).sup.railOrder = s.sup.railOrder ∧ (listCause e s).sup.tripCount = s.sup.tripCount := by
  unfold listCause
  split
  · simp
  · split
    · simp
    · split <;> simp

/-- The withdrawal and the close orders after a cause leave every block but doors and berths (R169, R170). -/
theorem takeCause_blocks (c : Cause) (p : Option Port) (s : State) :
    (takeCause c p s).trip = (causeListed ⟨c, p⟩ (causeOrders c s)).trip ∧
    (takeCause c p s).sup = (causeListed ⟨c, p⟩ (causeOrders c s)).sup ∧
    (takeCause c p s).sched = (causeListed ⟨c, p⟩ (causeOrders c s)).sched ∧
    (takeCause c p s).links = (causeListed ⟨c, p⟩ (causeOrders c s)).links := by
  simp [takeCause_eq]

theorem closeAll_close {s : State} {x : Car} {d : Side} (h : s.present x d ≠ 0) : ((closeAll s).doors.get x).close.get d = true := by
  have hpresent : ¬s.present x d = 0#8 := h
  cases x <;> cases d <;> simp [PerCar.get, PerSide.get, hpresent]

theorem takeCause_close (c : Cause) (p : Option Port) {s : State} {x : Car} {d : Side} (h : s.present x d ≠ 0) :
    ((takeCause c p s).doors.get x).close.get d = true := by
  rw [takeCause_eq]
  refine closeAll_close ?_
  rw [State.present_congr (s := s) (by unfold causeListed; split <;> simp)]
  exact h

theorem setsOrders_iff (c : Cause) : c.setsOrders = true ↔ c = .encoderDisagree ∨ c = .absoluteOverspeed ∨ c = .carOverspeed := by
  cases c <;> simp [Cause.setsOrders]

theorem causeListed_orders {e : CauseEntry} {s : State} (h : s.sup.railOrder = ⟨.trip, .trip⟩) :
    (causeListed e s).sup.railOrder = ⟨.trip, .trip⟩ := by
  unfold causeListed
  split
  · exact tripLine_orders h
  · rw [(listCause_keeps e s).1, h]

theorem takeCause_orders {c : Cause} (p : Option Port) (s : State) (h : c.setsOrders = true) :
    (takeCause c p s).sup.railOrder = ⟨.trip, .trip⟩ := by
  rw [(takeCause_blocks c p s).2.1]
  exact causeListed_orders (by simp [causeOrders, h, orderTrip])

theorem causeOrders_sup (c : Cause) (s : State) :
    (causeOrders c s).sup.ebRel = s.sup.ebRel ∧ (causeOrders c s).sup.sbRel = s.sup.sbRel ∧
    (causeOrders c s).sup.ebFb = s.sup.ebFb ∧ (causeOrders c s).sup.sbFb = s.sup.sbFb ∧
    (causeOrders c s).sup.tripCount = s.sup.tripCount ∧ (causeOrders c s).sup.overflow = s.sup.overflow ∧
    (c.setsOrders = false → causeOrders c s = s) := by
  cases h : c.setsOrders <;> simp [causeOrders, h, orderTrip]

/-- A cause leaves every obligation and every car's counts. -/
theorem takeCause_keeps (c : Cause) (p : Option Port) (s : State) :
    (takeCause c p s).sched.obligations = s.sched.obligations ∧ (takeCause c p s).board.cars = s.board.cars := by
  have hboard : (takeCause c p s).board.cars = (causeListed ⟨c, p⟩ (causeOrders c s)).board.cars :=
    (withdrawAll_board _).1
  rw [(takeCause_blocks c p s).2.2.1, hboard]
  unfold causeListed
  split
  · rw [tripLine_board]
    simp [tripLine, (endTestAtTrip_sched _).2.1]
  · simp

theorem takeCause_first {c : Cause} {s : State} (p : Option Port) (h : s.sup.causes = []) :
    takeCause c p s = closeAll (withdrawAll (tripLine ⟨c, p⟩ (causeOrders c s))) := by
  rw [takeCause_eq, causeListed, if_pos (by simp [h])]

theorem takeCause_further {c : Cause} {s : State} (p : Option Port) (h : s.sup.causes ≠ []) :
    takeCause c p s = closeAll (withdrawAll (listCause ⟨c, p⟩ (causeOrders c s))) := by
  rw [takeCause_eq, causeListed, if_neg (by simp [h])]

theorem takeCause_further_blocks {c : Cause} {s : State} (p : Option Port) (h : s.sup.causes ≠ []) :
    (takeCause c p s).trip = s.trip ∧ (takeCause c p s).sup = (listCause ⟨c, p⟩ (causeOrders c s)).sup ∧
    (takeCause c p s).links = (listCause ⟨c, p⟩ (causeOrders c s)).links := by
  simp [takeCause_further p h]

/-- At the first cause every berth moves out, whether a grant of it is withdrawn or not (R182). -/
theorem takeCause_first_berth {c : Cause} {s : State} (p : Option Port) (h : s.sup.causes = []) (b : Berth) :
    (takeCause c p s).board.berths.get b = (s.board.berths.get b).moveOut := by
  have hout : (tripLine ⟨c, p⟩ (causeOrders c s)).board.berths.get b = (s.board.berths.get b).moveOut := by simp [tripLine_board]
  rw [takeCause_first p h]
  rcases (withdrawAll_board (tripLine ⟨c, p⟩ (causeOrders c s))).2 b with e | e <;> simp [e, hout]

/-- Settles O26: the first cause by the trip of the line, a further one by the three forms of its listing. -/
theorem tripCauseIsTaken : Obligations.TripCauseIsTaken := by
  intro c p s t orders
  obtain ⟨hobligations, hcars⟩ := takeCause_keeps c p s
  refine ⟨takeCause_anyGrant c p s, fun x d h => takeCause_close c p h,
    fun h => takeCause_orders p s ((setsOrders_iff c).mpr h), by simp [t], by simp [t], by simp [t], by simp [t], by simp [t],
    hobligations, hcars, fun hnone hline => ?first, fun hsome => ?further⟩
  case first =>
    have ht : t = closeAll (withdrawAll (tripLine ⟨c, p⟩ (causeOrders c s))) := takeCause_first p hnone
    obtain ⟨htripped, hheld, hslot, -⟩ := tripLine_trip ⟨c, p⟩ (causeOrders c s)
    obtain ⟨hforming, hspeed, hcount, hstop, hparked, horigin, hrecord⟩ := tripLine_record ⟨c, p⟩ (causeOrders c s)
    have hsched : t.sched = (tripLine ⟨c, p⟩ (causeOrders c s)).sched := by simp [ht]
    have hlast := tripLine_lastTest ⟨c, p⟩ (causeOrders c s)
    obtain ⟨htest, -⟩ := tripLine_sched ⟨c, p⟩ (causeOrders c s)
    have hflags := tripLine_flags ⟨c, p⟩ (causeOrders c s) (by simpa using hline)
    have hberth : ∀ b, t.board.berths.get b = (s.board.berths.get b).moveOut := takeCause_first_berth p hnone
    refine ⟨?_, ?_, ?_, ?_, ?_, ?_, ?_, ?_, ?_, ?_, ?_, ?_, ?_, ?_, ?_, ?_, ?_, ?_, ?lastTest, hberth, ?_⟩
    case lastTest => rw [hsched]; simpa using hlast
    all_goals simp_all [causeOrders_sup]
  case further =>
    obtain ⟨htrip, hsup, hlinks⟩ := takeCause_further_blocks p hsome
    obtain ⟨heb, hsb, hdrv⟩ := listCause_outputs ⟨c, p⟩ (causeOrders c s)
    obtain ⟨horder, hcount⟩ := listCause_keeps ⟨c, p⟩ (causeOrders c s)
    obtain ⟨hebs, hsbs, -, -, hcounts, hoverflow, hnone⟩ := causeOrders_sup c s
    have hcauses : (causeOrders c s).sup.causes = s.sup.causes := by simp
    obtain ⟨hrepeat, hnew⟩ := listCause_cases ⟨c, p⟩ (causeOrders c s)
    rw [hcauses] at hrepeat hnew
    have hraised : ∀ (u : State) (q : Port), ((raiseAll .trip u).links.get q).flags.getLsbD 10 = true := fun u q => by
      rw [raiseAll_links, PerPort.get_map]
      exact raise_sets _ .trip
    refine ⟨htrip, ?_, ?_, ?_, ?_, fun h => ?_, fun h => ?_, fun h => ⟨fun hl => ?_, fun hl => ?_⟩⟩
    · rw [hsup, heb, hebs]
    · rw [hsup, hsb, hsbs]
    · rw [hsup, hdrv]; simp
    · rw [hsup, hcount, hcounts]
    · rw [hsup, horder, hnone (Bool.eq_false_iff.mpr (h ∘ (setsOrders_iff c).mp))]
    · rw [hsup, hlinks, hrepeat h]
      simp [causeOrders_sup]
    · obtain ⟨happended, -⟩ := hnew h
      rw [hsup, hlinks, happended hl]
      exact ⟨by simp, by simp [causeOrders_sup], hraised _⟩
    · obtain ⟨-, hflagged, hsets⟩ := hnew h
      rw [hsup, hlinks]
      cases ho : s.sup.overflow with
      | true =>
        rw [hflagged hl (by rw [hoverflow, ho])]
        simp [causeOrders_sup, ho]
      | false =>
        rw [hsets hl (by rw [hoverflow, ho])]
        exact ⟨by simp, by simp, fun _ => hraised _, fun h => by simp at h⟩

end Sys2Proof.Machine
end

section
/-! PROOFS. TRIP RESET (O28). -/

namespace Sys2Proof.Machine

/-! ### What TRIP RESET clears and takes again (R27, R112) -/

theorem clearTripOrder_orders (x y : Car) (s : State) : (clearTripOrder x s).sup.railOrder.get y =
    if x = y ∧ s.sup.railOrder.get y = .trip then .none else s.sup.railOrder.get y := by
  unfold clearTripOrder
  by_cases hxy : x = y
  · subst hxy
    split <;> simp_all
  · split <;> simp [hxy, PerCar.get_set_ne _ _ _ _ (Ne.symm hxy)]

theorem clearTripOrder_sup (x : Car) (s : State) :
    (clearTripOrder x s).sup.overflow = s.sup.overflow ∧ (clearTripOrder x s).sup.lastTrip = s.sup.lastTrip ∧
    (clearTripOrder x s).sup.rollaway = s.sup.rollaway := by
  unfold clearTripOrder
  split <;> simp

theorem realign_figures (s : State) :
    (realign s).coord = s.coord ∧ (realign s).coord2 = s.coord ∧ (realign s).rope.disagree = 0 ∧
    (realign s).rope.certainty = if s.rope.certainty = .known then .uncertain else s.rope.certainty := by
  refine ⟨?_, ?_, ?_, ?_⟩
  · exact State.coord_congr (by simp) (realign_rope s).1 (by rw [(realign_rope s).2.1])
  · have hlow : ∀ t : State, (lowerCertainty t).coord2 = t.coord2 := fun t => by
      obtain ⟨c, hrope⟩ := lowerCertainty_rope t
      simp [State.coord2, hrope]
    rw [realign, hlow]
    cases h : s.tables.header <;> simp [State.coord2, State.coord, coordOf, h]
    omega
  · obtain ⟨c, hrope⟩ := lowerCertainty_rope { s with rope := { s.rope with base2 := s.rope.base2 + (s.coord - s.coord2), disagree := 0 } }
    rw [realign, hrope]
  · exact lowerCertainty_certainty _

theorem tripCleared_sup (s : State) :
    (tripCleared s).sup.overflow = false ∧ (tripCleared s).sup.lastTrip = some ⟨s.trip.number, s.sup.causes, s.sup.overflow⟩ ∧
    (∀ x, (tripCleared s).sup.railOrder.get x = if s.sup.railOrder.get x = .trip then .none else s.sup.railOrder.get x) ∧
    (tripCleared s).sup.rollaway = s.sup.rollaway.map (fun _ => s.rope.sRef) ∧
    (tripCleared s).sup.ebRel = s.sup.ebRel ∧ (tripCleared s).sup.sbRel = s.sup.sbRel := by
  refine ⟨?_, ?_, fun x => ?_, ?_, ?_, ?_⟩
  case refine_3 => cases x <;> simp [tripCleared, reanchor, clearTripOrder_orders, listToRecord]
  all_goals simp [tripCleared, reanchor, clearTripOrder_sup, listToRecord, realign_rope]

theorem tripCleared_figures (s : State) :
    (tripCleared s).coord = s.coord ∧ (tripCleared s).coord2 = s.coord ∧ (tripCleared s).rope.disagree = 0 ∧
    (tripCleared s).rope.certainty = if s.rope.certainty = .known then .uncertain else s.rope.certainty := by
  have hsame : (clearTripOrder .b (clearTripOrder .a (listToRecord s))).coord = s.coord :=
    State.coord_congr (by simp [listToRecord]) (by simp [listToRecord]) (by simp [listToRecord])
  obtain ⟨h1, h2, h3, h4⟩ := realign_figures (clearTripOrder .b (clearTripOrder .a (listToRecord s)))
  exact ⟨h1.trans hsame, h2.trans hsame, h3, h4.trans (by simp [listToRecord])⟩

/-! ### The line state that it enters (R52) -/

theorem resetChoice_closed {s : State} (h : s.trip.origin = .closed) : s.resetChoice = (.closed, none) := by
  simp only [State.resetChoice, h]

theorem resetChoice_berthed {s : State} {b : Berth} (h : s.trip.origin ≠ .closed) (hcert : s.rope.certainty = .known)
    (hb : s.berthedPair = some b) : s.resetChoice = (.parked, some b) := by
  cases ho : s.trip.origin with
  | closed => exact absurd ho h
  | _ => simp [State.resetChoice, ho, hcert, hb]

theorem resetChoice_idle {s : State} (h : s.trip.origin ≠ .closed) (hnone : s.rope.certainty ≠ .known ∨ s.berthedPair = none) :
    s.resetChoice = (.recovery false, none) := by
  have hpair : (if s.rope.certainty = .known then s.berthedPair else none) = none := by
    rcases hnone with h | h <;> simp [h]
  cases ho : s.trip.origin with
  | closed => exact absurd ho h
  | _ => simp [State.resetChoice, ho, hpair]

/-- The three ways out of TRIPPED (R52). -/
theorem resetChoice_cases (s : State) : s.resetChoice = (.closed, none) ∨ (∃ b, s.resetChoice = (.parked, some b)) ∨
    s.resetChoice = (.recovery false, none) := by
  unfold State.resetChoice
  split
  · exact .inl rfl
  · split
    · exact .inr (.inl ⟨_, rfl⟩)
    · exact .inr (.inr rfl)

/-- What entering the chosen line state leaves. -/
theorem enterChosen_keeps {c : LineState × Option Berth} (s : State) (hc : c = (.closed, none) ∨ (∃ b, c = (.parked, some b)) ∨ c = (.recovery false, none)) :
    (enterChosen c s).tables = s.tables ∧ (enterChosen c s).rope = s.rope ∧ (enterChosen c s).sched = s.sched ∧
    (enterChosen c s).track = s.track ∧ (enterChosen c s).board = s.board ∧ (enterChosen c s).trip.origin = s.trip.origin ∧
    (enterChosen c s).trip.number = s.trip.number ∧ (enterChosen c s).trip.record = s.trip.record ∧
    ((enterChosen c s).sup = s.sup ∨ (enterChosen c s).sup = s.sup.withEb true) ∧ (enterChosen c s).trip.line.still = true := by
  rcases hc with rfl | ⟨b, rfl⟩ | rfl <;>
    simp [enterChosen, enterAligned, setAlignments, LineState.departs, LineState.still]

/-- Settles O28: the list and the figures by what is cleared, the line state by the three choices of R52. -/
theorem tripResetLeavesTripped : Obligations.TripResetLeavesTripped := by
  intro s hfree hline
  refine ⟨fun hflag => exec_refuse (r := .tripReset) hfree ?_ rfl rfl, fun hflag => ?_⟩
  · simp [Request.serve, reqTripReset, hline, hflag]
  obtain ⟨htables, hrope, hsched, htrack, hboard, horigin, hnumber, hrecord, hsup, hstill⟩ :=
    enterChosen_keeps (tripCleared s) (resetChoice_cases s)
  rw [← resetTrip_eq] at htables hrope hsched htrack hboard horigin hnumber hrecord hsup hstill
  obtain ⟨hoverflow, hlast, horders, hrollaway, heb, hsb⟩ := tripCleared_sup s
  obtain ⟨hcoord, hcoord2, hdisagree, hcert⟩ := tripCleared_figures s
  refine ⟨resetTrip s, exec_taken_still (r := .tripReset) hfree rfl ?_ hstill, ?_⟩
  · simp [Request.serve, reqTripReset, hline, hflag, answerWith]
  have hkeeps : (resetTrip s).sup.causes = [] ∧ (resetTrip s).sup.overflow = false ∧
      (resetTrip s).sup.lastTrip = some ⟨s.trip.number, s.sup.causes, s.sup.overflow⟩ ∧
      (∀ x, (resetTrip s).sup.railOrder.get x = if s.sup.railOrder.get x = .trip then .none else s.sup.railOrder.get x) ∧
      (resetTrip s).sup.rollaway = s.sup.rollaway.map (fun _ => s.rope.sRef) ∧ (resetTrip s).sup.sbRel = s.sup.sbRel ∧
      (resetTrip s).sup.drvEn = s.sup.drvEn := by
    rcases hsup with h | h <;> simp [h, hoverflow, hlast, horders, hrollaway, hsb]
  obtain ⟨hcauses, hoverflow', hlast', horders', hrollaway', hsb', hdrv⟩ := hkeeps
  refine ⟨hcauses, hoverflow', hlast', horders', hrollaway', ?_, ?_, by rw [hrope, hdisagree], by rw [hrope, hcert], by simp [horigin],
    by simp [hnumber], by simp [hrecord], hsb', hdrv, fun ho => ?_, fun b ho hk hb => ?_, fun ho hnone => ?_, by simp [htables],
    by simp [hsched], by simp [htrack], by simp [hboard]⟩
  · rw [State.coord2, hrope, htables]; exact hcoord2
  · rw [State.coord, hrope, htables]; exact hcoord
  · simp [resetTrip_eq, resetChoice_closed ho, enterChosen, heb]
  · simp [resetTrip_eq, resetChoice_berthed ho hk hb, enterChosen, enterAligned, setAlignments]
  · simp [resetTrip_eq, resetChoice_idle ho hnone, enterChosen, LineState.keepsBerth]

end Sys2Proof.Machine
end

section
/-! PROOFS. The obligation minute (O31) and the decisions of tests (O30). -/

namespace Sys2Proof.Machine

/-! ### The obligation minute (R117, R118, R120) -/

theorem State.cold_iff (s : State) :
    s.cold = true ↔ s.trip.weather.stale = true ∨ s.trip.weather.temp = none ∨
      ∃ c, s.trip.weather.temp = some c ∧ c < (match s.tables.header with | some h => h.coldLimit | none => 3) := by
  rw [State.cold, Bool.or_eq_true]
  cases s.trip.weather.temp <;> cases s.tables.header <;> simp
  rfl

/-- The three obligations after a minute. -/
def State.minuteObligations (s : State) : PerTest Obligation :=
  ⟨s.sched.obligations.eb.minute (s.effectiveInterval .eb), s.sched.obligations.railA.minute (s.effectiveInterval .railA),
    s.sched.obligations.railB.minute (s.effectiveInterval .railB)⟩

theorem State.minuteObligations_get (s : State) (k : TestKind) :
    s.minuteObligations.get k = (s.sched.obligations.get k).minute (s.effectiveInterval k) := by
  cases k <;> rfl

theorem Obligation.minute_effective (o : Obligation) (eff : Nat) : (o.minute eff).effective = eff := by
  unfold Obligation.minute
  split <;> rfl

theorem anyObligation_iff (f : Obligation → Obligation → Bool) (t t' : PerTest Obligation) :
    anyObligation f t t' = true ↔ ∃ k, f (t.get k) (t'.get k) = true := by
  rw [anyObligation, Bool.or_eq_true, Bool.or_eq_true]
  constructor
  · rintro ((h | h) | h)
    · exact ⟨.eb, h⟩
    · exact ⟨.railA, h⟩
    · exact ⟨.railB, h⟩
  · rintro ⟨k, h⟩
    cases k
    · exact .inl (.inl h)
    · exact .inl (.inr h)
    · exact .inr h

/-- What the minute leaves before the steps that wait are taken: the notices and the restriction by the debts that rose. -/
def State.minuted (s : State) : State :=
  let s1 := { s with sched := { s.sched with obligations := s.minuteObligations } }
  let s2 := if anyObligation dueFrom s.sched.obligations s.minuteObligations then raiseAll .obligationDue s1 else s1
  if anyObligation reached3 s.sched.obligations s.minuteObligations then restrict s2 else s2

theorem exec_obligationMinute (s : State) : exec .obligationMinute s = .next (settle s s.minuted) := rfl

theorem minuted_keeps (s : State) :
    s.minuted.sched.obligations = s.minuteObligations ∧ s.minuted.tables = s.tables ∧ s.minuted.track = s.track ∧
    s.minuted.board.cars = s.board.cars ∧ s.minuted.sup = s.sup := by
  unfold State.minuted
  dsimp only
  split <;> split <;> simp [restrict]

/-- A notice's flag after another or the same is raised. -/
theorem raiseAll_flag (n : Notice) (s : State) (q : Port) (k : Nat) : ((raiseAll n s).links.get q).flags.getLsbD k = true ↔
    (s.links.get q).flags.getLsbD k = true ∨ k = n.code := by
  rw [raiseAll_links, PerPort.get_map]
  by_cases hk : k = n.code
  · simp only [hk, or_true, iff_true]
    exact raise_sets _ n
  · rw [raise_flags, BitVec.getLsbD_or, notice_bit_other hk, Bool.or_false]
    simp only [hk, or_false]

theorem minuted_due (s : State) (q : Port) : (s.minuted.links.get q).flags.getLsbD 4 = true ↔
    (s.links.get q).flags.getLsbD 4 = true ∨ ∃ k, dueFrom (s.sched.obligations.get k) (s.minuteObligations.get k) = true := by
  rw [← anyObligation_iff]
  unfold State.minuted
  dsimp only
  split <;> split <;> simp [restrict, raiseAll_flag, Notice.code, -BitVec.getLsbD_eq_getElem, -raiseAll_links, *]

theorem minuted_restricted (s : State) (q : Port) : (s.minuted.links.get q).flags.getLsbD 13 = true ↔
    (s.links.get q).flags.getLsbD 13 = true ∨ ∃ k, reached3 (s.sched.obligations.get k) (s.minuteObligations.get k) = true := by
  rw [← anyObligation_iff]
  unfold State.minuted
  dsimp only
  split <;> split <;> simp [restrict, raiseAll_flag, Notice.code, -BitVec.getLsbD_eq_getElem, -raiseAll_links, *]

theorem minuted_berths {s : State} (h : anyObligation reached3 s.sched.obligations s.minuteObligations = true) (b : Berth) :
    (s.minuted.board.berths.get b).state ≠ .open ∧ (s.minuted.board.berths.get b).state ≠ .armed := by
  unfold State.minuted
  dsimp only
  rw [if_pos h]
  split <;> simp [restrict, moveOut_not_open]

/-- A debt raised at a minute that is then at least 1 (R118), and one that reaches 3 (R120). -/
theorem dueFrom_iff (o o' : Obligation) : dueFrom o o' = true ↔ o.debt < o'.debt ∧ 1 ≤ o'.debt := by simp [dueFrom]

theorem reached3_iff (o o' : Obligation) : reached3 o o' = true ↔ o.debt < 3 ∧ o'.debt = 3 := by simp [reached3]

/-- Settles O31: the entries by the minute's two forms, the notices and the restriction by the entries that rose. -/
theorem obligationMinuteCounts : Obligations.ObligationMinuteCounts := by
  intro s
  have hframe := settle_seqFrame s s.minuted
  obtain ⟨hobligations, htables, htrack, hcars, hsup⟩ := minuted_keeps s
  have hnow : (settle s s.minuted).sched.obligations = s.minuteObligations := by rw [hframe.sched]; exact hobligations
  refine ⟨settle s s.minuted, exec_obligationMinute s, ?_⟩
  intro cold base was now
  have hget : ∀ k, now k = (was k).minute (s.effectiveInterval k) := fun k =>
    (congrArg (·.get k) hnow).trans (s.minuteObligations_get k)
  have heff : ∀ k, (now k).effective = s.effectiveInterval k := fun k => by rw [hget, Obligation.minute_effective]
  have hbase : ∀ k, s.baseInterval k = base k := fun k => by
    simp only [base]
    unfold State.baseInterval
    cases s.tables.header <;> cases k <;> rfl
  refine ⟨fun k => ⟨fun hc => ?_, fun hc => ?_, fun h => ?_, fun h => ?_⟩, fun q => ?_, fun q => ?_, fun h b => ?_,
    hframe.tables.trans htables, hframe.track.trans htrack, hframe.cars.trans hcars, ?_⟩
  · rw [heff, State.effectiveInterval, if_pos (s.cold_iff.mpr hc), hbase]
  · rw [heff, State.effectiveInterval, if_neg (hc ∘ s.cold_iff.mp), hbase]
  · rw [heff] at h
    simp [hget, Obligation.minute, h]
  · rw [heff] at h
    simp [hget, Obligation.minute, Nat.not_le.mpr h]
  · rw [hframe.quiet q 4 rfl, minuted_due]
    simp only [dueFrom_iff, was, now, hnow]
  · rw [hframe.quiet q 13 rfl, minuted_restricted]
    simp only [reached3_iff, was, now, hnow]
  · have hany : anyObligation reached3 s.sched.obligations s.minuteObligations = true :=
      (anyObligation_iff _ _ _).mpr (by simpa only [reached3_iff, was, now, hnow] using h)
    obtain ⟨hopen, harmed⟩ := minuted_berths hany b
    rcases hframe.shut b with e | e <;> simp [e, hopen, harmed]
  · rw [hframe.sup]
    show s.minuted.sup.causes = s.sup.causes
    rw [hsup]

/-! ### Decisions (R119 to R121) -/

theorem debtAfter_restricts {r : TestResult} (d : Int) (h : r ≠ .aborted) :
    (debtAfter r d = 3 && decide (d < 3)) = decide (r = .fail ∧ d < 3) := by
  cases r with
  | aborted => exact absurd rfl h
  | fail => simp [debtAfter]
  | pass =>
    have : debtAfter .pass d ≠ 3 := by
      unfold debtAfter
      dsimp only
      split <;> omega
    simp [this]

/-- The state after a decision, part by part (R121). -/
theorem decideTest_sched (k : TestKind) (r : TestResult) (n : Nat) (s : State) :
    (decideTest k r n s).sched = { s.sched with
      obligations := s.sched.obligations.set k { s.sched.obligations.get k with debt := debtAfter r (s.sched.obligations.get k).debt }
      lastTest := some ⟨k, r, n, debtAfter r (s.sched.obligations.get k).debt⟩
      test := some (k, .ending), windowLimit := false, creepLimit := false, brakeLimit := false } := by
  have hget : (s.sched.obligations.set k { s.sched.obligations.get k with debt := debtAfter r (s.sched.obligations.get k).debt }).get k =
      { s.sched.obligations.get k with debt := debtAfter r (s.sched.obligations.get k).debt } := by cases k <;> rfl
  unfold decideTest
  dsimp only
  split <;> split <;> simp [restrict, writeTest, stopTestLimits, setStage, hget]

theorem decideTest_cars (k : TestKind) (r : TestResult) (n : Nat) (s : State) : (decideTest k r n s).board.cars = s.board.cars := by
  unfold decideTest
  dsimp only
  split <;> split <;> simp [restrict]

theorem decideTest_flags {r : TestResult} (h : r ≠ .aborted) (k : TestKind) (n : Nat) (s : State) (q : Port) :
    ((decideTest k r n s).links.get q).flags = (s.links.get q).flags ||| Notice.testDone.bit |||
      (if r = .fail then Notice.testFailed.bit else 0) |||
      (if r = .fail ∧ (s.sched.obligations.get k).debt < 3 then Notice.restricted.bit else 0) := by
  unfold decideTest
  dsimp only
  rw [debtAfter_restricts _ h]
  simp only [decide_eq_true_eq]
  split <;> split <;> simp [restrict, writeTest, stopTestLimits, setStage]

theorem decideTest_berths {r : TestResult} (h : r ≠ .aborted) (k : TestKind) (n : Nat) (s : State) (b : Berth) :
    (decideTest k r n s).board.berths.get b =
      if r = .fail ∧ (s.sched.obligations.get k).debt < 3 then (s.board.berths.get b).moveOut else s.board.berths.get b := by
  unfold decideTest
  dsimp only
  rw [debtAfter_restricts _ h]
  simp only [decide_eq_true_eq]
  split <;> split <;> simp [restrict, writeTest, stopTestLimits, setStage]

/-! ### The steps due with SB_REL down and no test applying -/

/-- SB_REL down, the last test record as it stands, and no emergency brake test in stage APPLYING. -/
def TestEnded (l : Option TestRecord) (s : State) : Prop :=
  s.sup.sbRel = false ∧ s.sched.lastTest = l ∧ s.sched.test ≠ some (.eb, .applying)

theorem endMove_sbRel (k : StopKind) {s : State} (h : s.sup.sbRel = false) : (endMove k s).sup.sbRel = false := by
  unfold endMove
  split
  · dsimp only
    split <;> split <;> simp
  · exact h

theorem completeStop_sbRel {s : State} (h : s.sup.sbRel = false) : (completeStop s).sup.sbRel = false := by
  unfold completeStop
  split
  · simpa using h
  · split <;> simpa using h
  · simpa using h
  · exact endMove_sbRel _ h
  · exact h

section
variable {l : Option TestRecord}

theorem TestEnded.interlock {s : State} (h : TestEnded l s) : TestEnded l (settleInterlock false s) := by
  obtain ⟨hsb, hlast, htest⟩ := h
  have hdown : ∀ v : Trip, TestEnded l (setSb false { s with trip := v }) := fun v => ⟨by simp, by simpa using hlast, by simpa using htest⟩
  unfold settleInterlock
  split
  · split
    · rw [Bool.false_and, if_neg nofun]; exact ⟨hsb, hlast, htest⟩
    · split
      · exact ⟨hsb, hlast, htest⟩
      · exact hdown _
    · exact ⟨hsb, hlast, htest⟩
  · split
    · exact hdown _
    · exact ⟨hsb, hlast, htest⟩
  · split
    · exact ⟨endMove_sbRel _ hsb, by simpa using hlast, by simpa using htest⟩
    · exact ⟨hsb, hlast, htest⟩
  · exact ⟨hsb, hlast, htest⟩

theorem TestEnded.hold {s : State} (h : TestEnded l s) : TestEnded l (settleHold s) := by
  unfold settleHold
  split
  · exact ⟨by simp, by simpa using h.2.1, by simpa using h.2.2⟩
  · exact h

theorem TestEnded.ebApplied {s : State} (h : TestEnded l s) : settleEbApplied s = s := by
  unfold settleEbApplied
  split
  · exact absurd ‹_› h.2.2
  · rfl

theorem TestEnded.released {s : State} (h : TestEnded l s) : settleReleased s = s := by
  rw [settleReleased, h.1, Bool.false_and, if_neg nofun]

theorem TestEnded.applied {s : State} (h : TestEnded l s) : TestEnded l (settleApplied s) := by
  unfold settleApplied
  split
  · exact ⟨by simpa using h.1, by simpa using h.2.1, by simpa using h.2.2⟩
  · exact h

theorem TestEnded.complete {s : State} (h : TestEnded l s) : TestEnded l (settleComplete s) := by
  unfold settleComplete
  split
  · exact ⟨completeStop_sbRel h.1, by simpa using h.2.1, by simpa using h.2.2⟩
  · exact h

theorem TestEnded.test {s : State} (h : TestEnded l s) : (settleTest s).sup.sbRel = false ∧ (settleTest s).sched.lastTest = l := by
  obtain ⟨hsb, hlast, -⟩ := h
  unfold settleTest
  split
  · split
    · unfold endEbTest
      split
      · exact ⟨by simpa using hsb, by simpa using hlast⟩
      · exact ⟨hsb, hlast⟩
    · exact ⟨hsb, hlast⟩
  · split
    · unfold endRailTest
      dsimp only
      split <;> exact ⟨by simpa using hsb, by simpa using hlast⟩
    · exact ⟨hsb, hlast⟩
  · exact ⟨hsb, hlast⟩

/-- An event that changes no part of the departure interlock leaves SB_REL down and the record of the test. -/
theorem TestEnded.settled {b s : State} (h : TestEnded l s) (hparts : b.departureParts = s.departureParts) :
    (settle b s).sup.sbRel = false ∧ (settle b s).sched.lastTest = l := by
  have heval : (b.trip.line == .dispatch && b.departureParts != s.departureParts) = false := by simp [hparts]
  have hheld := h.interlock.hold
  rw [settle, heval, settleWith, hheld.ebApplied, hheld.released]
  exact hheld.applied.complete.test

end

/-! ### The standstill in BRAKING (R130) -/

/-- The state in which the standstill is judged: the flag set, s_ref taken, marked orders cleared, the rollaway watch armed (R28). -/
def State.stood (s : State) : State :=
  armRollaway (clearMarkedOrders { s with rope := { s.rope with dwell := false, flag := true, sRef := s.coord } })

theorem exec_standstillDwell {s : State} (h : s.rope.dwell = true) :
    exec .standstillDwellExpiry s = .next (settle s (judgeStandstill s.stood)) := if_pos h

theorem stood_frame (s : State) : s.stood.rope = { s.rope with dwell := false, flag := true, sRef := s.coord } ∧
    s.stood.tables = s.tables ∧ s.stood.trip = s.trip ∧ s.stood.sched = s.sched ∧ s.stood.track = s.track ∧ s.stood.doors = s.doors ∧
    s.stood.board = s.board ∧ s.stood.links = s.links ∧ s.stood.sup.causes = s.sup.causes ∧ s.stood.sup.ebFb = s.sup.ebFb := by
  simp [State.stood, clearMarkedOrders]

theorem perBerth_ext {α : Type} {t u : PerBerth α} (h : ∀ b, t.get b = u.get b) : t = u := by
  obtain ⟨a, b, c, d⟩ := t
  obtain ⟨a', b', c', d'⟩ := u
  have h0 := h .b0
  have h1 := h .b1
  have h2 := h .b2
  have h3 := h .b3
  simp only [PerBerth.get] at h0 h1 h2 h3
  rw [h0, h1, h2, h3]

/-- The parts of the departure interlock read these figures alone (R63). -/
theorem departureParts_congr {s t : State} (htrip : t.trip = s.trip) (htrack : t.track = s.track) (hdoors : t.doors = s.doors)
    (hberths : t.board.berths = s.board.berths) (hfb : t.sup.ebFb = s.sup.ebFb) (hcert : t.rope.certainty = s.rope.certainty)
    (hcauses : t.sup.causes = s.sup.causes) : t.departureParts = s.departureParts := by
  have hsecure : ∀ x, t.secure x = s.secure x := fun x => by
    rw [Bool.eq_iff_iff, State.secure_iff, State.secure_iff, DoorsSecure, DoorsSecure, htrack, hdoors]
  have hgrant : t.anyGrant = s.anyGrant := by rw [State.anyGrant, State.anyGrant, hdoors]
  simp only [State.departureParts, hsecure, hgrant, htrip, htrack, hberths, hfb, hcert, hcauses]

/-- The first standstill in BRAKING passes the test (R130). -/
theorem judgeStandstill_braking {s : State} {k : TestKind} (h : s.sched.test = some (k, .braking)) :
    judgeStandstill s = setSb false (decideTest k .pass (min 65535 (distance s.rope.sRef s.sched.orderAnchor)) s) := by
  simp only [judgeStandstill, h]

theorem standstill_passes {s : State} {k : TestKind} (hdwell : s.rope.dwell = true) (htest : s.sched.test = some (k, .braking)) :
    ∃ u : State, exec .standstillDwellExpiry s = .next u ∧ u.rope.flag = true ∧ u.sup.sbRel = false ∧
      u.sched.lastTest = some ⟨k, .pass, min 65535 (distance s.coord s.sched.orderAnchor), debtAfter .pass (s.sched.obligations.get k).debt⟩ := by
  obtain ⟨hrope, -, htrip, hsched, htrack, hdoors, hboard, -, hcauses, hfb⟩ := stood_frame s
  have hjudged := judgeStandstill_braking (s := s.stood) (k := k) (by rw [hsched, htest])
  rw [hrope, hsched] at hjudged
  generalize hv : setSb false (decideTest k .pass (min 65535 (distance s.coord s.sched.orderAnchor)) s.stood) = v at hjudged
  have hberths : v.board.berths = s.board.berths := by
    rw [← hboard, ← hv]
    refine perBerth_ext fun b => ?_
    simp [decideTest_berths]
  have hended : TestEnded (some ⟨k, .pass, min 65535 (distance s.coord s.sched.orderAnchor), debtAfter .pass (s.sched.obligations.get k).debt⟩) v := by
    subst hv
    exact ⟨by simp, by simp [decideTest_sched, hsched], by simp [decideTest_sched]⟩
  have hparts : s.departureParts = v.departureParts := by
    subst hv
    exact (departureParts_congr (by simp [htrip]) (by simp [htrack]) (by simp [hdoors]) hberths (by simp [hfb]) (by simp [hrope])
      (by simp [hcauses])).symm
  obtain ⟨hsb, hlast⟩ := hended.settled hparts
  refine ⟨settle s v, by rw [exec_standstillDwell hdwell, hjudged], ?_, hsb, hlast⟩
  rw [(settle_seqFrame s v).rope, ← hv]
  simp [hrope]

/-- Settles O30: a decision part by part, the three limits by the stage they decide, the standstill by the steps due after it. -/
theorem testsAreDecided : Obligations.TestsAreDecided := by
  intro k r m s o debt t newly
  have hdebt : debt = debtAfter r o.debt := by cases r <;> rfl
  have hsched : t.sched = _ := decideTest_sched k r m s
  refine ⟨fun hr => ⟨by rw [hsched, hdebt], by rw [hsched, hdebt], by rw [hsched], by rw [hsched], by rw [hsched], by rw [hsched],
    by simp [t], by simp [t], decideTest_cars k r m s, fun q => decideTest_flags hr k m s q,
    fun b => decideTest_berths hr k m s b⟩, ⟨?_, ?_, ?_⟩, fun hw htest => ?_, fun hw htest => ?_, fun hw htest => ?_,
    fun hdwell htest => ?_, fun hw => ?_, fun hw => ?_, fun hw => ?_⟩
  · simp [abortToEnding, writeTest, stopTestLimits, setStage]
  · simp [abortToEnding, writeTest, stopTestLimits, setStage, o]
  · simp [abortToEnding, writeTest, stopTestLimits, setStage]
  · show execEbTestWindowExpiry s = _
    simp only [execEbTestWindowExpiry, hw, htest]
  · show execCreepLimitExpiry s = _
    simp only [execCreepLimitExpiry, hw, htest]
  · show execBrakeLimitExpiry s = _
    simp only [execBrakeLimitExpiry, hw, htest]
  · exact standstill_passes hdwell htest
  · show execEbTestWindowExpiry s = _
    simp [execEbTestWindowExpiry, hw]
  · show execCreepLimitExpiry s = _
    simp [execCreepLimitExpiry, hw]
  · show execBrakeLimitExpiry s = _
    simp [execBrakeLimitExpiry, hw]

end Sys2Proof.Machine
end

section
/-! PROOFS. Brake tests: their interlocks, their acceptance and their stages (O29). -/

namespace Sys2Proof.Machine

/-! ### The interlocks (R123, R127) -/

theorem State.bothSecure_iff (s : State) : s.bothSecure = true ↔ ∀ x, DoorsSecure s x := by
  rw [State.bothSecure, Bool.and_eq_true, State.secure_iff, State.secure_iff]
  exact ⟨fun ⟨ha, hb⟩ x => by cases x <;> assumption, fun h => ⟨h .a, h .b⟩⟩

theorem State.brakeTestHolds_iff (s : State) :
    s.brakeTestHolds = true ↔ CarsReady s ∧ (∃ b, s.trip.parkedBerth = some b ∧ BoardingShut s b ∧ BoardingShut s b.mirror) ∧
      s.rope.flag = true := by
  have hready := carsReady_iff s
  rw [State.brakeTestHolds]
  generalize (s.linksComplete && s.bothSecure && !s.anyGrant) = ready at hready ⊢
  cases s.trip.parkedBerth <;> simp [hready, State.pairShut_iff, and_assoc]

theorem State.railTestHolds_iff (s : State) :
    s.railTestHolds = true ↔ CarsReady s ∧ (∀ x, (s.board.cars.get x).onboard = 0) ∧
      (∀ x k, (s.track.cars.get x).block = some k → k.railApplied = false) ∧ s.rope.flag = true := by
  have hready := carsReady_iff s
  have hempty : (∀ x, (s.board.cars.get x).onboard = 0) ↔ s.board.cars.a.onboard = 0 ∧ s.board.cars.b.onboard = 0 :=
    ⟨fun h => ⟨h .a, h .b⟩, fun ⟨ha, hb⟩ x => by cases x <;> assumption⟩
  have hrail : s.anyRailApplied = false ↔ ∀ x k, (s.track.cars.get x).block = some k → k.railApplied = false := by
    rw [← Bool.not_eq_true, State.anyRailApplied_iff]
    simp
  rw [State.railTestHolds, hempty]
  generalize (s.linksComplete && s.bothSecure && !s.anyGrant) = ready at hready ⊢
  simp only [Bool.and_eq_true, hready, beq_iff_eq, Bool.not_eq_true', hrail, and_assoc]

/-! ### BRAKE TEST and RAIL TEST (R123, R127) -/

theorem acceptBrakeTest_eq {s : State} (hline : s.trip.line = .parked) :
    acceptBrakeTest s = raiseAll .lineState { s with
      trip := { s.trip with line := .testing .eb }
      sched := { s.sched with anchor := s.rope.sRef, largest := 0, test := some (.eb, .applying) }
      sup := { s.sup.withEb false with rollaway := none } } := by
  refine State.eq_of_blocks ?_ ?_ ?_ ?_ ?_ ?_ ?_ ?_ ?_ ?_ <;>
    simp [acceptBrakeTest, hline, LineState.noticed, LineState.keepsBerth, LineState.clearsConsent, LineState.clearsAlignment, LineState.departs]

theorem acceptRailTest_eq {s : State} (x : Car) (hline : s.trip.line = .parked) :
    acceptRailTest x s = setSb true (raiseAll .lineState { s with
      trip := { s.trip with line := .testing (railKind x), stop := .none, holdCause := none }
      sched := { s.sched with test := some (railKind x, .releasing), largest := 0, targets := railTargets x }
      board := { s.board with berths := s.board.berths.map BerthBoard.depart } }) := by
  refine congrArg (setSb true) (State.eq_of_blocks ?_ ?_ ?_ ?_ ?_ ?_ ?_ ?_ ?_ ?_) <;>
    cases x <;>
    simp [hline, railKind, LineState.noticed, LineState.keepsBerth, LineState.clearsConsent, LineState.clearsAlignment, LineState.departs]

/-! ### The steps due in TESTING -/

theorem ebReleased_line (s : State) : (ebReleased s).trip.line = s.trip.line := by
  unfold ebReleased
  split <;> simp [setStage, setDrv_on_line]

theorem railReleased_line (k : TestKind) (s : State) : (railReleased k s).trip.line = s.trip.line := by
  unfold railReleased
  split <;> simp [setStage, setDrv_on_line]

/-- In TESTING the steps due are those of the two feedback reports and of the test's end. -/
theorem settle_testing {k : TestKind} {s : State} (before : State) (hline : s.trip.line = .testing k) :
    settle before s = settleTest (settleReleased (settleEbApplied s)) := by
  have hmotion : ∀ t : State, t.trip.line = .testing k → t.trip.line.inMotion = false := fun t h => by rw [h]; rfl
  have happlied : (settleEbApplied s).trip.line = .testing k := by
    unfold settleEbApplied
    split
    · split <;> simp [hline]
    · exact hline
  have hreleased : (settleReleased (settleEbApplied s)).trip.line = .testing k := by
    generalize settleEbApplied s = t at happlied
    unfold settleReleased
    split
    · rw [happlied]
      cases k <;> dsimp only <;> split <;> simp_all [ebReleased_line, railReleased_line]
    · exact happlied
  have hmot := hmotion _ hline
  have hmot' := hmotion _ hreleased
  rw [settle, settleWith, settleInterlock_same (by simp [hline]) (by simp [hline]) (by simp [hline]),
    settleHold_same (by simp [hmot]), settleApplied_same (by simp [hmot']), settleComplete_same (by simp [hmot'])]

theorem settleEbApplied_other {s : State} (h : s.sched.test ≠ some (.eb, .applying)) : settleEbApplied s = s := by
  unfold settleEbApplied
  split
  · exact absurd ‹_› h
  · rfl

theorem settleEbApplied_up {s : State} (h : s.sup.sbRel = true) : settleEbApplied s = s := by
  unfold settleEbApplied
  split
  · rw [setSb_same h, ite_self]
  · rfl

theorem settleTest_undecided {k : TestKind} {g : TestStage} {s : State} (h : s.sched.test = some (k, g)) (hg : g ≠ .ending) :
    settleTest s = s := by
  unfold settleTest
  split <;> simp_all

theorem settleTest_busy {s : State} (h : s.sup.sbRel = true ∨ s.sup.sbFb = true) : settleTest s = s := by
  unfold settleTest
  rcases h with h | h <;> split <;> simp [h]

theorem settleTest_rail {k : TestKind} {s : State} (hk : k ≠ .eb) (hline : s.trip.line = .testing k)
    (h : s.sched.test = some (k, .ending)) :
    settleTest s = if !s.sup.sbRel && !s.sup.drvEn && !s.sup.sbFb && s.rope.flag then endRailTest k s else s := by
  cases k with
  | eb => exact absurd rfl hk
  | railA => simp only [settleTest, hline, h]
  | railB => simp only [settleTest, hline, h]

/-- The test aborted before its window or its creep waits for SB to report applied (R124, R128). -/
theorem settleTest_aborted {k : TestKind} {s : State} (h : s.sup.sbFb = true) :
    settleTest (abortToEnding k (setSb false s)) = abortToEnding k (setSb false s) :=
  settleTest_busy (.inr (by simp [h]))

theorem settleReleased_eb {s : State} (hline : s.trip.line = .testing .eb) (hsb : s.sup.sbRel = true) (hfb : s.sup.sbFb = true) :
    settleReleased s = if s.sched.test = some (.eb, .applying) then ebReleased s else s := by
  simp only [settleReleased, hsb, hfb, hline, Bool.and_self, if_true]

theorem settleReleased_rail {k : TestKind} {s : State} (hk : k ≠ .eb) (hline : s.trip.line = .testing k) (hsb : s.sup.sbRel = true)
    (hfb : s.sup.sbFb = true) : settleReleased s = if s.sched.test = some (k, .releasing) then railReleased k s else s := by
  cases k with
  | eb => exact absurd rfl hk
  | railA => simp only [settleReleased, hsb, hfb, hline, Bool.and_self, if_true]
  | railB => simp only [settleReleased, hsb, hfb, hline, Bool.and_self, if_true]

theorem settleReleased_ending {k : TestKind} {s : State} (hline : s.trip.line = .testing k) (h : s.sched.test = some (k, .ending)) :
    settleReleased s = s := by
  unfold settleReleased
  split
  · rw [hline]
    cases k <;> simp [h]
  · rfl

theorem ebReleased_secure {s : State} (hline : s.trip.line = .testing .eb) (h : s.bothSecure = true) :
    ebReleased s =
      { s with sup := { s.sup with drvEn := true }, sched := { s.sched with test := some (.eb, .window), windowLimit := true } } := by
  have hsup : s.trip.line.supervised = false := by rw [hline]; rfl
  rw [ebReleased, if_pos h]
  refine State.eq_of_blocks ?_ ?_ ?_ ?_ ?_ ?_ ?_ ?_ ?_ ?_ <;> simp [setStage, setDrv_on_trip, hsup]

theorem railReleased_secure {k : TestKind} {s : State} (hk : k ≠ .eb) (hline : s.trip.line = .testing k) (hdrv : s.sup.drvEn = false)
    (h : s.bothSecure = true) : railReleased k s = { s with
      trip := { s.trip with stepping := true, distances := false, held := 0, forming := 0 }
      sup := { s.sup with drvEn := true }
      sched := { s.sched with test := some (k, .creep), creepStart := s.coord, creepLimit := true } } := by
  have hsup : s.trip.line.supervised = true := by
    rw [hline]
    cases k with
    | eb => exact absurd rfl hk
    | railA | railB => rfl
  rw [railReleased, if_pos h]
  refine State.eq_of_blocks ?_ ?_ ?_ ?_ ?_ ?_ ?_ ?_ ?_ ?_ <;> simp [setStage, setDrv_on_trip, hsup, hdrv]
  exact State.coord_congr (by simp) (by simp) (by simp)

theorem armRollaway_eq {s : State} (hsb : s.sup.sbRel = false) (hline : s.trip.line ≠ .testing .eb) :
    armRollaway s = { s with sup := { s.sup with
      rollaway := if s.sup.rollaway = none ∧ s.rope.flag = true then some s.rope.sRef else s.sup.rollaway } } := by
  by_cases h : s.sup.rollaway = none ∧ s.rope.flag = true
  · simp [armRollaway, h, hsb, hline]
  · rw [if_neg h, armRollaway, if_neg (by simpa [hsb, hline] using fun hr => Bool.eq_false_iff.mpr fun hf => h ⟨hr, hf⟩)]

/-- PARKED entered at the end of an emergency brake test, before the rollaway watch is armed (R126). -/
def testLeft (b : Berth) (s : State) : State :=
  let s1 := enterParked b (judgeAt b b.mirror (setEb true s))
  { s1 with sched := { s1.sched with test := none } }

/-- The end of an emergency brake test (R126). -/
theorem endEbTest_eq {s : State} {b : Berth} (hline : s.trip.line = .testing .eb) (hb : s.trip.parkedBerth = some b)
    (hsb : s.sup.sbRel = false) : endEbTest s = raiseAll .lineState { s with
      trip := { s.trip with line := .parked, parkedBerth := some b, consentLower := false, consentUpper := false }
      sup := { s.sup.withEb true with
        rollaway := if s.sup.rollaway = none ∧ s.rope.flag = true then some s.rope.sRef else s.sup.rollaway }
      sched := { s.sched with test := none }
      doors := ⟨{ s.doors.a with alignment := alignmentOf (s.alignedAt .a b) },
        { s.doors.b with alignment := alignmentOf (s.alignedAt .b b.mirror) }⟩ } := by
  have haligned : ∀ x k, (setEb true s).alignedAt x k = s.alignedAt x k := State.alignedAt_congr (by simp) (by simp)
  have hjudged : endEbTest s = armRollaway (testLeft b s) := by simp only [endEbTest, hb, testLeft]
  rw [hjudged, armRollaway_eq (by simp [testLeft, hsb]) (by simp [testLeft])]
  refine State.eq_of_blocks ?_ ?_ ?_ ?_ ?_ ?_ ?_ ?_ ?_ ?_ <;>
    simp [testLeft, judgeAt, setAlignments, haligned, hline, LineState.noticed]

/-- The end of a rail test (R131). -/
theorem endRailTest_eq {k : TestKind} {s : State} (hline : s.trip.line = .testing k) :
    endRailTest k s = raiseAll .lineState { s with
      trip := { s.trip with line := .recovery false, parkedBerth := none, stop := .none, holdCause := none }
      sup := if s.sup.railOrder.get (testCar k) = .test then
          { s.sup with railOrder := s.sup.railOrder.set (testCar k) .none, orderClears := s.sup.orderClears.set (testCar k) false }
        else s.sup
      sched := { s.sched with test := none }
      doors := ⟨{ s.doors.a with alignment := .none }, { s.doors.b with alignment := .none }⟩ } := by
  unfold endRailTest
  dsimp only
  split <;> refine State.eq_of_blocks ?_ ?_ ?_ ?_ ?_ ?_ ?_ ?_ ?_ ?_ <;>
    simp [hline, LineState.noticed, LineState.keepsBerth, LineState.clearsConsent, LineState.clearsAlignment, LineState.departs]

/-! ### The requests by their conditions -/

theorem reqBrakeTest_accepted {p : Port} {s : State} (hline : s.trip.line = .parked) (h : s.brakeTestHolds = true) :
    reqBrakeTest p [] s = (acceptBrakeTest s, ⟨.accepted, .none⟩) := by
  simp [reqBrakeTest, hline, testRefusal, h]

theorem railArg_eq_none {body : List Byte} (h0 : body ≠ [0#8]) (h1 : body ≠ [1#8]) : railArg body = none := by
  unfold railArg
  split
  next x =>
    have hx0 : x ≠ 0 := fun e => h0 (by rw [e]; rfl)
    have hx1 : x ≠ 1 := fun e => h1 (by rw [e]; rfl)
    rw [if_neg hx0, if_neg hx1]
  next => rfl

/-- The body that names a car under test. -/
def railBody (x : Car) : List Byte := [match x with | .a => 0#8 | .b => 1#8]

theorem railArg_railBody (x : Car) : railArg (railBody x) = some x := by cases x <;> rfl

theorem State.atBottom_iff (s : State) (x : Car) :
    s.atBottom x = true ↔ s.trip.parkedBerth = some (match x with | .a => .b0 | .b => .b3) := by
  cases x <;> simp [State.atBottom]

theorem reqRailTest_parked {p : Port} {s : State} (x : Car) (hline : s.trip.line = .parked) (hmode : s.trip.mode = .inspection) :
    reqRailTest p (railBody x) s =
      if s.atBottom x then refuse .badArgument s
      else if !s.railTestHolds then refuse .interlock s
      else (acceptRailTest x s, ⟨.accepted, .none⟩) := by
  simp [reqRailTest, hline, testRefusal, hmode, railArg_railBody]

theorem reqRailTest_badBody {p : Port} {s : State} {body : List Byte} (hline : s.trip.line = .parked) (hmode : s.trip.mode = .inspection)
    (h0 : body ≠ [0#8]) (h1 : body ≠ [1#8]) : reqRailTest p body s = refuse .badArgument s := by
  simp [reqRailTest, hline, testRefusal, hmode, railArg_eq_none h0 h1]

/-- Settles O29: interlocks, refusals and acceptances by the requests' conditions, the stages by the steps due in TESTING. -/
theorem brakeTestsBeginAndEnd : Obligations.BrakeTestsBeginAndEnd := by
  refine ⟨fun s => ⟨s.bothSecure_iff, s.brakeTestHolds_iff, s.railTestHolds_iff⟩, fun s hfree hline => ?refused,
    fun s hfree hline hholds => ?brake, fun x s hfree hline hmode hbottom hholds => ?rail, fun before s hline => ?eb,
    fun k before s hk hline => ?railStages⟩
  case refused =>
    intro refused
    refine ⟨fun body hbody => exec_refuse (r := .brakeTest) hfree ?_ rfl rfl, fun hnot => exec_refuse (r := .brakeTest) hfree ?_ rfl rfl,
      fun hmode => ⟨fun body h0 h1 => exec_refuse (r := .railTest) hfree (reqRailTest_badBody (p := .d) hline hmode h0 h1) rfl rfl, fun x => ?_⟩⟩
    · simp [Request.serve, reqBrakeTest, hline, testRefusal, hbody]
    · simp [Request.serve, reqBrakeTest, hline, testRefusal, hnot]
    · intro body bottom
      have hreq := reqRailTest_parked (p := .d) x hline hmode
      refine ⟨fun hb => exec_refuse (r := .railTest) hfree (hreq.trans ?_) rfl rfl,
        fun hb hnot => exec_refuse (r := .railTest) hfree (hreq.trans ?_) rfl rfl⟩
      · rw [if_pos ((s.atBottom_iff x).mpr hb)]
      · rw [if_neg (hb ∘ (s.atBottom_iff x).mp), hnot, if_pos (by rfl)]
  case brake =>
    rw [← acceptBrakeTest_eq hline]
    exact exec_taken (r := .brakeTest) hfree rfl rfl (reqBrakeTest_accepted (p := .d) hline hholds) rfl
  case rail =>
    intro kind body
    have htaken : Request.railTest.serve .d (railBody x) s = (acceptRailTest x s, ⟨.accepted, .none⟩) := by
      rw [Request.serve, reqRailTest_parked x hline hmode, if_neg (hbottom ∘ (s.atBottom_iff x).mp), hholds, if_neg nofun]
    rw [acceptRailTest_eq x hline, show BerthBoard.depart = _ from funext depart_eq] at htaken
    have hexec := exec_taken (r := .railTest) hfree rfl rfl htaken rfl
    cases x <;> exact hexec
  case eb =>
    rw [settle_testing before hline]
    refine ⟨fun htest heb hebfb hsb hfb => ?_, fun htest hsb hfb hdrv => ?_, fun htest hbusy => ?_, fun b htest hsb hfb hb => ?_⟩
    · have hnext : settleEbApplied s = setSb true s := by simp [settleEbApplied, hline, htest, heb, hebfb]
      rw [hnext, settleReleased_same (.inr (by simp [hfb])), settleTest_undecided (k := .eb) (g := .applying) (by simp [htest]) nofun]
    · rw [settleEbApplied_up hsb, settleReleased_eb hline hsb hfb, if_pos htest]
      cases hsecure : s.bothSecure with
      | true => rw [ebReleased_secure hline hsecure, settleTest_undecided (k := .eb) (g := .window) rfl nofun, if_pos rfl]
      | false =>
        have haborts : ebReleased s = abortToEnding .eb (setSb false s) := by simp [ebReleased, hsecure]
        rw [haborts, settleTest_aborted hfb, if_neg nofun]
    · rw [settleEbApplied_other (by simp [htest]), settleReleased_ending hline htest, settleTest_busy hbusy]
    · intro judged
      rw [settleEbApplied_other (by simp [htest]), settleReleased_ending hline htest]
      have hends : settleTest s = endEbTest s := by simp [settleTest, hline, htest, hsb, hfb]
      rw [hends, endEbTest_eq hline hb hsb]
      rfl
  case railStages =>
    intro x
    have hx : x = testCar k := by cases k <;> rfl
    rw [settle_testing before hline]
    refine ⟨fun htest hsb hfb hdrv => ?_, fun htest hbusy => ?_, fun htest hsb hdrv hfb hflag => ?_⟩
    · rw [settleEbApplied_up hsb, settleReleased_rail hk hline hsb hfb, if_pos htest]
      cases hsecure : s.bothSecure with
      | true => rw [railReleased_secure hk hline hdrv hsecure, settleTest_undecided (k := k) (g := .creep) rfl nofun, if_pos rfl]
      | false =>
        have haborts : railReleased k s = abortToEnding k (setSb false s) := by simp [railReleased, hsecure]
        rw [haborts, settleTest_aborted hfb, if_neg nofun]
    · rw [settleEbApplied_other (by simp [htest]), settleReleased_ending hline htest, settleTest_rail hk hline htest]
      exact if_neg (by rcases hbusy with h | h | h | h <;> simp [h])
    · rw [settleEbApplied_other (by simp [htest]), settleReleased_ending hline htest, settleTest_rail hk hline htest,
        if_pos (by simp [hsb, hdrv, hfb, hflag]), endRailTest_eq hline, hx]

end Sys2Proof.Machine
end

section
/-! PROOFS. The arithmetic (O48). -/

namespace Sys2Proof.Machine

/-! ### The square root -/

/-- The root found bit by bit: the root so far stays below, and lies within the bits still to come. -/
theorem isqrtBits_bounds (k n r : Nat) (hlo : r * r ≤ n) (hhi : n < (r + 2 ^ k) * (r + 2 ^ k)) :
    isqrtBits k n r * isqrtBits k n r ≤ n ∧ n < (isqrtBits k n r + 1) * (isqrtBits k n r + 1) := by
  induction k generalizing r with
  | zero => exact ⟨hlo, hhi⟩
  | succ k ih =>
    have hdouble : r + 2 ^ (k + 1) = r + 2 ^ k + 2 ^ k := by rw [Nat.pow_succ]; omega
    rw [isqrtBits]
    split
    · exact ih _ ‹_› (by rwa [← hdouble])
    · exact ih _ hlo (by omega)

/-! ### Rounding -/

/-- The quotient of the rounding lies within half a divisor, and above at a half. -/
theorem roundQuotient_bounds (m : Nat) {d : Nat} (hd : 0 < d) :
    2 * ((2 * m + d) / (2 * d) * d) ≤ 2 * m + d ∧ 2 * m < 2 * ((2 * m + d) / (2 * d) * d) + d := by
  have hlo := Nat.div_mul_le_self (2 * m + d) (2 * d)
  have hhi := Nat.lt_div_mul_add (a := 2 * m + d) (b := 2 * d) (by omega)
  have hmul : (2 * m + d) / (2 * d) * (2 * d) = 2 * ((2 * m + d) / (2 * d) * d) := by ring
  omega

theorem roundHalfAway_nearest (n : Int) {d : Nat} (hd : 0 < d) :
    2 * |roundHalfAway n d * d - n| ≤ d ∧ (2 * |roundHalfAway n d * d - n| = d → |n| ≤ |roundHalfAway n d * d|) := by
  obtain ⟨hlo, hhi⟩ := roundQuotient_bounds n.natAbs hd
  have hcast : ((((2 * n.natAbs + d) / (2 * d) : Nat) : Int)) * d = (((2 * n.natAbs + d) / (2 * d) * d : Nat) : Int) := by push_cast; rfl
  unfold roundHalfAway
  split
  · rw [Int.neg_mul, hcast]
    generalize (2 * n.natAbs + d) / (2 * d) * d = q at *
    simp only [Int.abs_eq_natAbs]
    omega
  · rw [hcast]
    generalize (2 * n.natAbs + d) / (2 * d) * d = q at *
    simp only [Int.abs_eq_natAbs]
    omega

/-! ### The CRC-8 (R205) -/

/-- One bit of the division. -/
def crcBit (c : Byte) : Byte := if c.msb then (c <<< 1) ^^^ 0x07#8 else c <<< 1

theorem crcBits_succ (k : Nat) (c : Byte) : crcBits (k + 1) c = crcBit (crcBits k c) := by
  induction k generalizing c with
  | zero => rfl
  | succ k ih => exact ih (crcBit c)

theorem crcBit_bits (c : Byte) {j : Nat} (hj : j < 8) : (crcBit c).getLsbD j =
    ((decide (0 < j) && c.getLsbD (j - 1)) ^^ (c.getLsbD 7 && decide (j = 0 ∨ j = 1 ∨ j = 2))) := by
  have hpoly : (0x07#8).getLsbD j = decide (j = 0 ∨ j = 1 ∨ j = 2) := by interval_cases j <;> rfl
  have hshift : (c <<< 1).getLsbD j = (decide (0 < j) && c.getLsbD (j - 1)) := by
    rw [BitVec.getLsbD_shiftLeft]
    cases j <;> simp [hj]
  have hmsb : c.msb = c.getLsbD 7 := by rw [BitVec.msb_eq_getLsbD_last]
  unfold crcBit
  cases h : c.msb <;> rw [hmsb] at h <;> simp [h, hpoly, hshift, -BitVec.getLsbD_eq_getElem]

theorem crc8_append (l : List Byte) (b : Byte) : crc8 (l ++ [b]) = crcBits 8 (crc8 l ^^^ b) := by
  rw [crc8, List.foldl_append]
  rfl

/-- Settles O48: the root by its invariant, the rounding by its quotient, the CRC by one bit of the division. -/
theorem arithmeticIsExact : Obligations.ArithmeticIsExact := by
  refine ⟨fun n hn => isqrtBits_bounds 40 n 0 (Nat.zero_le n) (by simpa using hn), fun n d hd => roundHalfAway_nearest n hd, rfl,
    fun l b => ⟨fun i => crcBits i (crc8 l ^^^ b), rfl, (crc8_append l b).symm, fun i _ j hj => ?_⟩, fun l => ?_⟩
  · dsimp only
    rw [crcBits_succ, crcBit_bits _ hj]
  · rw [crc8_append, BitVec.xor_self]
    decide

end Sys2Proof.Machine
end

section
/-! PROOFS. Count steps and the end of standstill: what is counted (O49) and what empties the history (O51). -/

namespace Sys2Proof.Machine

/-! ### What the judgements of an event leave of the measurement -/

/-- The measurement but for certainty, the tables, the track line, the cars' counts and the time stand. -/
structure Measured (s t : State) : Prop where
  tables : t.tables = s.tables
  rope : t.rope = { s.rope with certainty := t.rope.certainty }
  track : t.track = s.track
  cars : t.board.cars = s.board.cars
  now : t.now = s.now

theorem Measured.refl (s : State) : Measured s s := ⟨rfl, rfl, rfl, rfl, rfl⟩

theorem Measured.trans {s t u : State} (h : Measured s t) (k : Measured t u) : Measured s u :=
  ⟨k.tables.trans h.tables, k.rope.trans (by rw [h.rope]), k.track.trans h.track, k.cars.trans h.cars, k.now.trans h.now⟩

theorem Measured.thenIf {s t u : State} {c : Prop} [Decidable c] (h : Measured s t) (hu : c → Measured t u) :
    Measured s (if c then u else t) := by
  split
  · exact h.trans (hu ‹_›)
  · exact h

theorem Measured.of_rope {s t : State} (tables : t.tables = s.tables) (rope : t.rope = s.rope) (track : t.track = s.track)
    (cars : t.board.cars = s.board.cars) (now : t.now = s.now) : Measured s t :=
  ⟨tables, by rw [rope], track, cars, now⟩

theorem Measured.coord {s t : State} (h : Measured s t) : t.coord = s.coord :=
  State.coord_congr (by rw [h.tables]) (by rw [h.rope]) (by rw [h.rope])

theorem Measured.coord2 {s t : State} (h : Measured s t) : t.coord2 = s.coord2 := by
  rw [State.coord2, State.coord2, h.tables, h.rope]

theorem SeqFrame.measured {s t : State} (h : SeqFrame s t) : Measured s t := ⟨h.tables, h.rope, h.track, h.cars, h.now⟩

theorem takeCause_measured (c : Cause) (p : Option Port) (s : State) : Measured s (takeCause c p s) :=
  .of_rope (by simp) (by simp) (by simp) (takeCause_keeps c p s).2 (by simp)

theorem causeIf_measured (b : Bool) (c : Cause) (s : State) : Measured s (causeIf b c s) :=
  .thenIf (.refl s) fun _ => takeCause_measured c none s

theorem profileStopAfter_measured (n : Nat) (s : State) : Measured s (profileStopAfter n s) :=
  .of_rope (by simp) (by simp) (by simp) (by simp) (by simp)

theorem watchRollaway_measured (s : State) : Measured s (watchRollaway s) := by
  unfold watchRollaway
  split
  · exact causeIf_measured _ _ s
  · exact .refl s

theorem watchDirection_measured (s : State) : Measured s (watchDirection s) := by
  unfold watchDirection
  split
  · split
    · exact .of_rope rfl rfl rfl rfl rfl
    · exact causeIf_measured _ _ s
  · exact .refl s

theorem decideTest_measured (k : TestKind) (r : TestResult) (n : Nat) (s : State) : Measured s (decideTest k r n s) :=
  .of_rope (by simp) (by simp) (by simp) (decideTest_cars k r n s) (by simp)

theorem setSb_measured (v : Bool) (s : State) : Measured s (setSb v s) := (setSb_seqFrame v s).measured

theorem setDrv_measured (v : Bool) (s : State) : Measured s (setDrv v s) := (setDrv_seqFrame v s).measured

theorem noteMovement_measured (n : Nat) (s : State) : Measured s (noteMovement n s) := .of_rope rfl rfl rfl rfl rfl

theorem judgeEbStep_measured (s : State) : Measured s (judgeEbStep s) :=
  (noteMovement_measured _ s).thenIf fun _ => ((decideTest_measured _ _ _ _).trans (setSb_measured _ _)).trans (setDrv_measured _ _)

theorem judgeBrakingStep_measured (k : TestKind) (s : State) : Measured s (judgeBrakingStep k s) :=
  (noteMovement_measured _ s).thenIf fun _ => (decideTest_measured _ _ _ _).trans (setSb_measured _ _)

theorem makeRailOrder_measured (k : TestKind) (s : State) : Measured s (makeRailOrder k s) :=
  .of_rope (by simp [makeRailOrder]) (by simp [makeRailOrder]) (by simp [makeRailOrder]) (by simp [makeRailOrder]) (by simp [makeRailOrder])

theorem judgeTestStep_measured (s : State) : Measured s (judgeTestStep s) := by
  unfold judgeTestStep
  split
  · exact judgeEbStep_measured s
  · exact judgeEbStep_measured s
  · exact .thenIf (.refl s) fun _ => makeRailOrder_measured _ s
  · exact judgeBrakingStep_measured _ s
  · exact .refl s

theorem judgeStep1_measured (grant : Bool) (s : State) : Measured s (judgeStep1 grant s) :=
  (((watchRollaway_measured s).trans (watchDirection_measured _)).trans (causeIf_measured _ _ _)).trans (judgeTestStep_measured _)

/-! ### The count (R19, R22) -/

/-- The direction of a step, by the two levels after it. -/
theorem stepDir_eq (line : PhaseLine) (a b : Bool) :
    stepDir line a b = if (match line with | .a => decide (a ≠ b) | .b => decide (a = b)) then .up else .down := by
  cases line <;> cases a <;> cases b <;> rfl

/-- A channel after one of its steps (R19, R22). -/
def ChanState.counted (c : ChanState) (line : PhaseLine) (t : Nat) : ChanState :=
  (c.toggle line).step t (stepDir line (c.toggle line).levelA (c.toggle line).levelB)

/-- The measurement after a step: the channel counted, the rope direction by channel 1. -/
theorem measureStep_rope (ch : Chan) (line : PhaseLine) (t : Nat) (s : State) : (measureStep ch line t s).rope = { s.rope with
      chans := s.rope.chans.set ch ((s.rope.chans.get ch).counted line t)
      dir := if ch = .ch1 then stepDir line ((s.rope.chans.get ch).toggle line).levelA ((s.rope.chans.get ch).toggle line).levelB else s.rope.dir
      dwell := (measureStep ch line t s).rope.dwell } := by
  have hdwell : ∀ (n : Nat) (u : State), (dwellAfter n u).rope = { u.rope with dwell := (dwellAfter n u).rope.dwell } := by
    intro n u
    unfold dwellAfter
    split
    · split <;> rfl
    · split <;> rfl
  rw [measureStep, hdwell]
  cases ch <;> rfl

/-- The standstill flag after a step of channel 1 (R29). -/
theorem clearFlag_rope (s : State) : (clearFlag s).rope = { s.rope with
    flag := s.rope.flag && !decide (5 < distance s.coord s.rope.sRef), dwell := (clearFlag s).rope.dwell } := by
  have hbit : ∀ f w : Bool, (f && w) = false → (f && !w) = f := by decide
  unfold clearFlag
  split
  next h =>
    obtain ⟨-, hfar⟩ := Bool.and_eq_true_iff.mp h
    simp only [withdrawAll_frame, hfar, Bool.not_true, Bool.and_false]
  next h => rw [hbit _ _ (Bool.eq_false_iff.mpr h)]

theorem clearFlag_frame (s : State) : (clearFlag s).tables = s.tables ∧ (clearFlag s).track = s.track ∧
    (clearFlag s).board.cars = s.board.cars ∧ (clearFlag s).now = s.now ∧ (clearFlag s).trip = s.trip ∧ (clearFlag s).sup = s.sup ∧
    (clearFlag s).sched = s.sched := by
  unfold clearFlag
  split
  · simp [(withdrawAll_board _).1]
  · simp

/-- The state once a step is counted and the standstill flag judged (R19, R29). -/
def State.stepped (s : State) (ch : Chan) (line : PhaseLine) (t : Nat) : State :=
  if ch = .ch1 then clearFlag (measureStep ch line t s) else measureStep ch line t s

theorem exec_countStep (ch : Chan) (line : PhaseLine) (at_ : Nat) (s : State) :
    exec (.countStep ch line at_) s = .next (settle s (profileStopAfter s.vSup
      (if ch = .ch1 then judgeStep1 s.anyGrant (causeIf (measureStep ch line (max s.now at_) s).apart .encoderDisagree
          (s.stepped ch line (max s.now at_)))
        else causeIf (measureStep ch line (max s.now at_) s).apart .encoderDisagree (s.stepped ch line (max s.now at_))))) := rfl

/-- All judgements at a step leave what is counted. -/
theorem countStep_measured (ch : Chan) (line : PhaseLine) (at_ : Nat) (s : State) :
    ∃ t, exec (.countStep ch line at_) s = .next t ∧ Measured (s.stepped ch line (max s.now at_)) t :=
  ⟨_, exec_countStep ch line at_ s,
    ((Measured.thenIf (causeIf_measured _ _ _) fun _ => judgeStep1_measured _ _).trans (profileStopAfter_measured _ _)).trans
      (settle_seqFrame s _).measured⟩

theorem stepped_keeps (s : State) (ch : Chan) (line : PhaseLine) (t : Nat) :
    (s.stepped ch line t).tables = s.tables ∧ (s.stepped ch line t).track = s.track ∧
    (s.stepped ch line t).board.cars = s.board.cars ∧ (s.stepped ch line t).now = t ∧ (s.stepped ch line t).trip = s.trip ∧
    (s.stepped ch line t).sup = s.sup ∧ (s.stepped ch line t).sched = s.sched := by
  unfold State.stepped
  split <;> simp [clearFlag_frame]

/-- The measurement after a counted step. -/
theorem stepped_rope (s : State) (ch : Chan) (line : PhaseLine) (t : Nat) : (s.stepped ch line t).rope = { s.rope with
      chans := s.rope.chans.set ch ((s.rope.chans.get ch).counted line t)
      dir := if ch = .ch1 then stepDir line ((s.rope.chans.get ch).toggle line).levelA ((s.rope.chans.get ch).toggle line).levelB else s.rope.dir
      flag := s.rope.flag && !(decide (ch = .ch1) && decide (5 < distance (s.stepped ch line t).coord s.rope.sRef))
      dwell := (s.stepped ch line t).rope.dwell } := by
  have hcoord : (clearFlag (measureStep ch line t s)).coord = (measureStep ch line t s).coord :=
    State.coord_congr (by rw [(clearFlag_frame _).1]) (by rw [clearFlag_rope]) (by rw [clearFlag_rope])
  cases ch with
  | ch1 =>
    rw [State.stepped, if_pos rfl, hcoord, clearFlag_rope, measureStep_rope]
    simp
  | ch2 =>
    rw [State.stepped, if_neg nofun, measureStep_rope]
    simp

theorem counted_last (c : ChanState) (line : PhaseLine) (t : Nat) :
    (c.counted line t).last = some ⟨t, stepDir line (c.toggle line).levelA (c.toggle line).levelB⟩ := rfl

/-- Settles O49: the channel counted, the flag judged, and everything else measured left by the judgements. -/
theorem countStepMovesTheCount : Obligations.CountStepMovesTheCount := by
  intro ch line at_ s
  obtain ⟨t, hexec, hkept⟩ := countStep_measured ch line at_ s
  obtain ⟨htables, htrack, hcars, hnow, -⟩ := stepped_keeps s ch line (max s.now at_)
  have hrope := stepped_rope s ch line (max s.now at_)
  have hsame := hkept.rope
  refine ⟨t, hexec, ?_⟩
  intro c v time plus dir
  have hv : v = c.counted line time := by
    show t.rope.chans.get ch = _
    rw [hsame, hrope, PerChan.get_set_same]
  have hdir : stepDir line (c.toggle line).levelA (c.toggle line).levelB = dir := by
    rw [stepDir_eq]
    simp only [dir, plus, hv]
    cases line <;> rfl
  have hcount : c.counted line time = (c.toggle line).step time dir := by rw [ChanState.counted, hdir]
  have hkeeps : (c.toggle line).last = c.last ∧ (c.toggle line).restart = c.restart ∧ (c.toggle line).periods = c.periods ∧
      (c.toggle line).count = c.count ∧ (c.toggle line).errors = c.errors := by cases line <;> exact ⟨rfl, rfl, rfl, rfl, rfl⟩
  obtain ⟨hlast, hrestart, hperiods, hnumber, herrors⟩ := hkeeps
  have hhistory : v.periods = (c.toggle line).historyAfter time dir := by rw [hv, hcount]; rfl
  refine ⟨hkept.now.trans hnow, ?_, ?_, ?_, ?_, ?_, ?_, fun m hm hr hd => ?_, fun h => ?_, fun other hother => ?_, ?_, ?_, ?_, ?_, ?_, ?_,
    hkept.tables.trans htables, hkept.track.trans htrack, hkept.cars.trans hcars⟩
  · rw [hv]
    cases line <;> rfl
  · have hstep : dir.step = if plus = true then 1 else -1 := by
      show (if plus = true then Dir.up else .down).step = _
      split <;> rfl
    rw [hv, hcount, ← hstep, ← hnumber]
    rfl
  · rw [hv, counted_last, hdir]
  · rw [hv]; rfl
  · rw [hv]; rfl
  · rw [hv, hcount]; exact herrors
  · rw [hhistory, ChanState.historyAfter, hlast, hm, hrestart, hr, hperiods]
    simp [hd, appendPeriod, measuredPeriod]
  · rw [hhistory, ChanState.historyAfter, hlast, hrestart]
    rcases h with h | h | ⟨m, hm, hd⟩
    · rw [h]
    · cases c.last <;> simp [h]
    · simp [hm, hd]
  · rw [hsame, hrope]
    exact PerChan.get_set_ne _ _ _ _ hother
  · rw [hsame, hrope]
    exact congrArg (fun d => if ch = .ch1 then d else s.rope.dir) hdir
  · rw [hkept.coord, hsame, hrope]
  all_goals rw [hsame, hrope]

/-! ### Histories emptied and the standstill (R19, R23, R28) -/

theorem dwellAfter_eq (n : Nat) (s : State) : (dwellAfter n s).rope = { s.rope with dwell := (dwellAfter n s).rope.dwell } ∧
    (dwellAfter n s).tables = s.tables ∧ (dwellAfter n s).track = s.track ∧ (dwellAfter n s).board = s.board ∧
    (dwellAfter n s).sup = s.sup := by
  unfold dwellAfter
  split
  · split <;> simp
  · split <;> simp

theorem dwellAfter_begins {n : Nat} {s : State} (hn : n ≠ 0) (hv : s.vSup = 0) (hflag : s.rope.flag = false) :
    (dwellAfter n s).rope.dwell = true := by
  simp [dwellAfter, hn, hv, hflag]

/-- A channel changed and the dwell judged: what the event then leaves. -/
def State.rechanneled (s : State) (ch : Chan) (c : ChanState) : State := dwellAfter s.vSup (s.setChan ch c)

theorem rechanneled_measured (s : State) (ch : Chan) (c : ChanState) :
    Measured (s.rechanneled ch c) (settle s (profileStopAfter s.vSup (s.rechanneled ch c))) :=
  (profileStopAfter_measured _ _).trans (settle_seqFrame s _).measured

/-- A channel whose history is empty has speed 0. -/
theorem State.speed_eq_zero {s : State} {ch : Chan} (h : (s.rope.chans.get ch).periods = []) : s.speed ch = 0 := by
  unfold State.speed chanSpeed
  split
  · rw [if_pos h]
  · rfl

theorem State.vSup_congr {s t : State} (htables : t.tables = s.tables) (hchans : t.rope.chans = s.rope.chans) : t.vSup = s.vSup := by
  rw [State.vSup, State.vSup, State.speed, State.speed, State.speed, State.speed, htables, hchans]

/-- What an event that changes a channel but for its count leaves (R19, R23). -/
theorem rechanneled_leaves {s : State} {ch : Chan} {c : ChanState} (hcount : c.count = (s.rope.chans.get ch).count) (hempty : c.periods = [])
    {t : State} (ht : t = settle s (profileStopAfter s.vSup (s.rechanneled ch c))) :
    t.rope.chans = s.rope.chans.set ch c ∧ t.speed ch = 0 ∧ t.coord = s.coord ∧ t.coord2 = s.coord2 ∧ t.rope.flag = s.rope.flag ∧
    t.tables = s.tables ∧ t.track = s.track ∧ (s.vSup ≠ 0 → t.vSup = 0 → s.rope.flag = false → t.rope.dwell = true) := by
  obtain ⟨hrope, htables, htrack, -, -⟩ := dwellAfter_eq s.vSup (s.setChan ch c)
  have hkept := rechanneled_measured s ch c
  rw [← ht] at hkept
  have hafter := hkept.rope
  have hchans : t.rope.chans = s.rope.chans.set ch c := by rw [hafter, State.rechanneled, hrope]; rfl
  have hcounts : (s.rope.chans.set ch c).ch1.count = s.rope.chans.ch1.count ∧ (s.rope.chans.set ch c).ch2.count = s.rope.chans.ch2.count := by
    cases ch
    · exact ⟨hcount, rfl⟩
    · exact ⟨rfl, hcount⟩
  have hsame : t.tables = s.tables := hkept.tables.trans htables
  refine ⟨hchans, State.speed_eq_zero (by rw [hchans, PerChan.get_set_same, hempty]), ?_, ?_, ?_, hsame, hkept.track.trans htrack,
    fun hn hv hflag => ?_⟩
  · exact State.coord_congr (by rw [hsame]) (by rw [hafter, State.rechanneled, hrope]; rfl) (by rw [hchans, hcounts.1])
  · rw [State.coord2, State.coord2, hsame, hchans, hcounts.2, hafter, State.rechanneled, hrope]
    rfl
  · rw [hafter, State.rechanneled, hrope]
    rfl
  · have hvnow : (s.setChan ch c).vSup = 0 := by rwa [← State.vSup_congr (s := s.setChan ch c) hsame hchans]
    rw [hafter]
    exact dwellAfter_begins hn hvnow hflag

theorem judgeStandstill_measured (s : State) : Measured s (judgeStandstill s) ∧ (judgeStandstill s).sup.causes = s.sup.causes := by
  unfold judgeStandstill
  split
  · exact ⟨(decideTest_measured _ _ _ _).trans (setSb_measured _ _), by simp⟩
  · exact ⟨.refl s, rfl⟩

/-- Settles O51: both ways of emptying a history by one lemma, the dwell's end by the judgement of the test in hand. -/
theorem historyIsEmptiedAndRopeStands : Obligations.HistoryIsEmptiedAndRopeStands := by
  intro ch s c
  refine ⟨⟨_, rfl, ?_⟩, fun hgap => ⟨_, if_pos hgap, ?_⟩, fun hgap => if_neg (by rw [hgap]; nofun), fun hdwell => ?_,
    fun hdwell => if_neg (by rw [hdwell]; nofun)⟩
  · obtain ⟨hchans, hspeed, hcoord, hcoord2, hflag, htables, htrack, -⟩ := rechanneled_leaves (s := s) (ch := ch)
      (c := { c with levelA := !c.levelA, levelB := !c.levelB, periods := [], restart := true, errors := min 255 (c.errors + 1) }) rfl rfl rfl
    exact ⟨hchans, hspeed, hcoord, hcoord2, hflag, htables, htrack⟩
  · exact rechanneled_leaves (s := s) (ch := ch) (c := { c with periods := [], restart := true, gap := false }) rfl rfl rfl
  · obtain ⟨hrope, htables, -, -, htrack, -, hboard, -, hcauses, -⟩ := stood_frame s
    obtain ⟨hjudged, hlisted⟩ := judgeStandstill_measured s.stood
    have hframe := settle_seqFrame s (judgeStandstill s.stood)
    have hkept := hjudged.trans hframe.measured
    refine ⟨_, exec_standstillDwell hdwell, ?_, hkept.tables.trans htables, hkept.track.trans htrack, ?_, ?_⟩
    · have hafter := hkept.rope
      rw [hafter, hrope]
    · rw [hkept.cars, hboard]
    · rw [hframe.sup]
      exact hlisted.trans hcauses

end Sys2Proof.Machine
end

section
/-! PROOFS. The watches and the test in hand at a count step (O50). -/

namespace Sys2Proof.Machine

/-! ### The list of causes (R109, R110) -/

/-- A cause is listed. -/
def Listed (c : Cause) (s : State) : Prop := ∃ e ∈ s.sup.causes, e.cause = c

theorem takeCause_causes (d : Cause) (p : Option Port) {s : State} (hroom : s.sup.causes.length < 4) :
    (Listed d s ∧ (takeCause d p s).sup.causes = s.sup.causes) ∨ (takeCause d p s).sup.causes = s.sup.causes ++ [⟨d, p⟩] := by
  by_cases hnone : s.sup.causes = []
  · right
    rw [takeCause_first p hnone, hnone]
    simp
  · obtain ⟨-, hsup, -⟩ := takeCause_further_blocks (c := d) p hnone
    obtain ⟨hrepeat, hnew⟩ := listCause_cases ⟨d, p⟩ (causeOrders d s)
    have hcauses : (causeOrders d s).sup.causes = s.sup.causes := by simp
    rw [hcauses] at hrepeat hnew
    by_cases hlisted : Listed d s
    · exact .inl ⟨hlisted, by rw [hsup, hrepeat hlisted, hcauses]⟩
    · right
      obtain ⟨happends, -⟩ := hnew (fun f hf e => hlisted ⟨f, hf, e⟩)
      rw [hsup, happends hroom]
      simp

theorem takeCause_lists (c d : Cause) (p : Option Port) {s : State} (hroom : s.sup.causes.length < 4) :
    (Listed c (takeCause d p s) ↔ Listed c s ∨ c = d) ∧ (takeCause d p s).sup.causes.length ≤ s.sup.causes.length + 1 ∧
    (takeCause d p s).sup.causes ≠ [] := by
  rcases takeCause_causes d p hroom with ⟨hlisted, e⟩ | e
  · obtain ⟨f, hf, hfd⟩ := hlisted
    refine ⟨?_, by rw [e]; omega, by rw [e]; exact List.ne_nil_of_mem hf⟩
    rw [Listed, e]
    exact ⟨.inl, fun h => h.elim id fun hc => ⟨f, hf, hfd.trans hc.symm⟩⟩
  · refine ⟨?_, by simp [e], by simp [e]⟩
    rw [Listed, e]
    simp only [List.mem_append, List.mem_singleton]
    constructor
    · rintro ⟨f, hf | rfl, hfc⟩
      · exact .inl ⟨f, hf, hfc⟩
      · exact .inr hfc.symm
    · rintro (⟨f, hf, hfc⟩ | rfl)
      · exact ⟨f, .inl hf, hfc⟩
      · exact ⟨_, .inr rfl, rfl⟩

theorem causeIf_lists (b : Bool) (c d : Cause) {s : State} (hroom : s.sup.causes.length < 4) :
    (Listed c (causeIf b d s) ↔ Listed c s ∨ b = true ∧ c = d) ∧ (causeIf b d s).sup.causes.length ≤ s.sup.causes.length + 1 := by
  cases b with
  | false => simp [causeIf]
  | true =>
    obtain ⟨hlists, hlength, -⟩ := takeCause_lists c d none hroom
    exact ⟨by simpa [causeIf] using hlists, by simpa [causeIf] using hlength⟩

/-! ### The line tripped at an event -/

/-- A cause is listed: TRIPPED with the outputs down and no test in hand. -/
structure DownTripped (s : State) : Prop where
  causes : s.sup.causes ≠ []
  line : s.trip.line = .tripped
  eb : s.sup.ebRel = false
  sb : s.sup.sbRel = false
  drv : s.sup.drvEn = false
  test : s.sched.test = none

theorem takeCause_trips (d : Cause) (p : Option Port) {s : State} (hnone : s.sup.causes = []) (hline : s.trip.line ≠ .tripped) :
    DownTripped (takeCause d p s) := by
  obtain ⟨-, -, -, -, -, -, -, -, -, -, hfirst, -⟩ := tripCauseIsTaken d p s
  obtain ⟨htripped, hcauses, heb, hsb, hdrv, -, -, -, -, -, -, -, -, -, -, -, -, htest, -⟩ := hfirst hnone hline
  exact ⟨by rw [hcauses]; nofun, htripped, heb, hsb, hdrv, htest⟩

theorem DownTripped.takeCause {s : State} (h : DownTripped s) (d : Cause) (p : Option Port) : DownTripped (takeCause d p s) := by
  obtain ⟨htrip, hsup, -⟩ := takeCause_further_blocks (c := d) p h.causes
  obtain ⟨heb, hsb, hdrv⟩ := listCause_outputs ⟨d, p⟩ (causeOrders d s)
  obtain ⟨hebs, hsbs, -⟩ := causeOrders_sup d s
  refine ⟨?_, by rw [htrip, h.line], by rw [hsup, heb, hebs, h.eb], by rw [hsup, hsb, hsbs, h.sb], by rw [hsup, hdrv]; simpa using h.drv, ?_⟩
  · rcases listCause_causes ⟨d, p⟩ (causeOrders d s) with e | ⟨e, -⟩ <;> rw [hsup, e] <;> simp [h.causes]
  · rw [takeCause_further p h.causes]
    simpa using h.test

/-! ### The rollaway watch after a cause (R102, R109) -/

/-- The rollaway watch stands, or was disarmed and is armed at s_ref with the flag set. -/
def WatchArmed (s t : State) : Prop :=
  t.rope = s.rope ∧ (t.sup.rollaway = s.sup.rollaway ∨
    s.sup.rollaway = none ∧ s.rope.flag = true ∧ t.sup.rollaway = some s.rope.sRef)

theorem WatchArmed.trans {s t u : State} (h : WatchArmed s t) (k : WatchArmed t u) : WatchArmed s u := by
  obtain ⟨hrope, h⟩ := h
  obtain ⟨krope, k⟩ := k
  rw [hrope] at k
  refine ⟨krope.trans hrope, ?_⟩
  rcases k with k | ⟨k1, k2, k3⟩
  · rw [k]; exact h
  · rcases h with h | ⟨-, -, h3⟩
    · exact .inr ⟨h ▸ k1, k2, k3⟩
    · simp [h3] at k1

theorem WatchArmed.of_same {s t : State} (rope : t.rope = s.rope) (watch : t.sup.rollaway = s.sup.rollaway) : WatchArmed s t :=
  ⟨rope, .inl watch⟩

theorem armRollaway_watch (s : State) : WatchArmed s (armRollaway s) := by
  unfold armRollaway
  split
  · rename_i h
    simp only [Bool.and_eq_true, Option.isNone_iff_eq_none] at h
    exact ⟨rfl, .inr ⟨h.1.1.1, h.1.1.2, rfl⟩⟩
  · exact .of_same rfl rfl

theorem setSb_off_watch (s : State) : WatchArmed s (setSb false s) := by
  unfold setSb
  split
  · exact .of_same rfl rfl
  · exact (WatchArmed.of_same (by rfl) (by rfl)).trans (armRollaway_watch _)

theorem endTestAtTrip_rollaway (s : State) : (endTestAtTrip s).sup.rollaway = s.sup.rollaway := by
  have horder : ∀ (x : Car) (t : State), (clearTestOrder x t).sup.rollaway = t.sup.rollaway := fun x t => by
    unfold clearTestOrder
    split
    · split <;> rfl
    · rfl
  unfold endTestAtTrip
  split
  · dsimp only
    rw [horder, horder]
    split <;> simp [stopTestLimits, writeTest]
  · rfl

theorem tripLine_watch (e : CauseEntry) (s : State) : WatchArmed s (tripLine e s) := by
  have hdown : WatchArmed s (setSb false (setEb false s)) :=
    .trans (.of_same (by simp) (by simp)) (setSb_off_watch (setEb false s))
  have hleft : WatchArmed (setSb false (setEb false s))
      (endTestAtTrip (tripController (forceZero (setDrv false (setSb false (setEb false s)))))) :=
    .of_same (by simp) (by rw [endTestAtTrip_rollaway]; simp)
  have harm : ∀ t : State, WatchArmed t (moveAllBerths (raiseAll .trip (armRollaway (restartFeedback
      { enterLine .tripped t with sup := { (enterLine .tripped t).sup with
        causes := [e], tripCount := satAdd 255 (enterLine .tripped t).sup.tripCount 1 } })))) := fun t => by
    have hentered : WatchArmed t (restartFeedback { enterLine .tripped t with sup := { (enterLine .tripped t).sup with
        causes := [e], tripCount := satAdd 255 (enterLine .tripped t).sup.tripCount 1 } }) :=
      .of_same (by simp) (by simp [restartFeedback])
    obtain ⟨hrope, hwatch⟩ := hentered.trans (armRollaway_watch _)
    exact ⟨hrope, hwatch⟩
  exact (hdown.trans hleft).trans (harm _)

theorem takeCause_watch (d : Cause) (p : Option Port) (s : State) : WatchArmed s (takeCause d p s) := by
  have horders : WatchArmed s (causeOrders d s) := .of_same (by simp) (by unfold causeOrders orderTrip; split <;> rfl)
  have hlisted : WatchArmed (causeOrders d s) (causeListed ⟨d, p⟩ (causeOrders d s)) := by
    unfold causeListed
    split
    · exact tripLine_watch _ _
    · refine .of_same (by simp) ?_
      unfold listCause
      split
      · rfl
      · split
        · rfl
        · split <;> rfl
  have hclosed : WatchArmed (causeListed ⟨d, p⟩ (causeOrders d s)) (takeCause d p s) :=
    .of_same (by simp [takeCause_eq]) (by simp [takeCause_eq])
  exact (horders.trans hlisted).trans hclosed

/-! ### The watches at a step (R26, R102 to R104) -/

/-- No cause is listed and the line is not TRIPPED. -/
def CauseFree (s : State) : Prop := s.sup.causes = [] ∧ s.trip.line ≠ .tripped

theorem DownTripped.causeIf {s : State} (h : DownTripped s) (b : Bool) (c : Cause) : DownTripped (causeIf b c s) := by
  cases b
  · exact h
  · exact h.takeCause c none

theorem causeIf_outcome (b : Bool) (c : Cause) {s : State} (h : CauseFree s) :
    (b = false ∧ causeIf b c s = s) ∨ (b = true ∧ DownTripped (causeIf b c s)) := by
  cases b
  · exact .inl ⟨rfl, rfl⟩
  · exact .inr ⟨rfl, takeCause_trips c none h.1 h.2⟩

/-- How far the rope lies from the rollaway anchor is beyond the watch's limit (R102). -/
def State.rolledAway (s : State) : Bool :=
  match s.sup.rollaway with
  | some a => decide (50 < distance s.coord a)
  | none => false

theorem watchRollaway_eq (s : State) : watchRollaway s = causeIf s.rolledAway .rollaway s := by
  unfold watchRollaway State.rolledAway
  cases s.sup.rollaway <;> rfl

/-- The direction watch finds the rope too far behind its reach (R104). -/
def State.wrongWay (s : State) : Bool :=
  match s.sup.dirWatch with
  | some w => decide (100 < behind w.dir w.reach s.coord)
  | none => false

/-- The reach of a direction watch goes with the furthest coordinate (R104). -/
def DirWatch.furthest (w : DirWatch) (c : Int) : DirWatch := if behind w.dir w.reach c < 0 then { w with reach := c } else w

/-- The direction watch with its reach taken on. -/
def State.reached (s : State) : State := { s with sup := { s.sup with dirWatch := s.sup.dirWatch.map fun w => w.furthest s.coord } }

theorem State.reached_same {s : State} (h : ∀ w, s.sup.dirWatch = some w → ¬behind w.dir w.reach s.coord < 0) : s.reached = s := by
  have hmap : s.sup.dirWatch.map (fun w => w.furthest s.coord) = s.sup.dirWatch := by
    cases hw : s.sup.dirWatch with
    | none => rfl
    | some w => simp [DirWatch.furthest, h w hw]
  rw [State.reached, hmap]

theorem watchDirection_eq (s : State) : watchDirection s = causeIf s.wrongWay .wrongDirection s.reached := by
  unfold watchDirection State.wrongWay
  cases hw : s.sup.dirWatch with
  | none => simp [causeIf, State.reached_same (s := s) (by simp [hw])]
  | some w =>
    dsimp only
    by_cases hb : behind w.dir w.reach s.coord < 0
    · have hnear : ¬100 < behind w.dir w.reach s.coord := by omega
      simp [hb, hnear, causeIf, State.reached, hw, DirWatch.furthest]
    · rw [if_neg hb, State.reached_same (by rintro w' hw'; rw [hw] at hw'; cases hw'; exact hb)]

/-- The supervisor's judgements at a step of channel 1, each a cause on its condition. -/
def State.watched (s : State) (apart grant : Bool) : State :=
  watchDoorZone grant (watchDirection (watchRollaway (causeIf apart .encoderDisagree s)))

theorem CauseFree.reached {s : State} (h : CauseFree s) : CauseFree s.reached := h

theorem DownTripped.reached {s : State} (h : DownTripped s) : DownTripped s.reached := ⟨h.causes, h.line, h.eb, h.sb, h.drv, h.test⟩

theorem DownTripped.watches {s : State} (h : DownTripped s) (grant : Bool) :
    DownTripped (watchDoorZone grant (watchDirection (watchRollaway s))) := by
  rw [watchRollaway_eq, watchDirection_eq]
  exact ((h.causeIf _ _).reached.causeIf _ _).causeIf _ _

/-- Either no watch finds a cause, and only the direction watch has moved, or the line is TRIPPED. -/
theorem watched_outcome {s : State} (h : CauseFree s) (apart grant : Bool) :
    s.watched apart grant = s.reached ∨ DownTripped (s.watched apart grant) := by
  unfold State.watched
  rcases causeIf_outcome apart .encoderDisagree h with ⟨-, e⟩ | ⟨-, e⟩
  · rw [e, watchRollaway_eq]
    rcases causeIf_outcome s.rolledAway .rollaway h with ⟨-, e⟩ | ⟨-, e⟩
    · rw [e, watchDirection_eq]
      rcases causeIf_outcome s.wrongWay .wrongDirection h.reached with ⟨-, e⟩ | ⟨-, e⟩
      · rw [e]
        exact (causeIf_outcome _ .doorZoneMovement h.reached).imp (·.2) (·.2)
      · exact .inr (e.causeIf _ _)
    · rw [watchDirection_eq]
      exact .inr ((e.reached.causeIf _ _).causeIf _ _)
  · exact .inr (e.watches grant)

theorem Listed.reached_iff {c : Cause} {s : State} : Listed c s.reached ↔ Listed c s := Iff.rfl

/-- The causes that the watches list. -/
theorem watched_lists {s : State} (h : CauseFree s) (apart grant : Bool) :
    (Listed .encoderDisagree (s.watched apart grant) ↔ apart = true) ∧
    (Listed .rollaway (s.watched apart grant) ↔ (causeIf apart .encoderDisagree s).rolledAway = true) ∧
    (Listed .doorZoneMovement (s.watched apart grant) ↔ grant = true ∧ 30 < distance s.coord s.rope.sRef) ∧
    (apart = false → s.sup.rollaway = none → (Listed .wrongDirection (s.watched apart grant) ↔ s.wrongWay = true)) := by
  have hempty : ∀ c, ¬Listed c s := fun c => by rw [Listed, h.1]; simp
  generalize hv1 : causeIf apart .encoderDisagree s = v1
  generalize hv2 : watchRollaway v1 = v2
  generalize hv3 : watchDirection v2 = v3
  have hwatched : s.watched apart grant = causeIf (grant && decide (30 < distance v3.coord v3.rope.sRef)) .doorZoneMovement v3 := by
    rw [State.watched, hv1, hv2, hv3, watchDoorZone]
  have hmeasured : Measured s v3 := by
    rw [← hv3, ← hv2, ← hv1]
    exact ((causeIf_measured _ _ s).trans (watchRollaway_measured _)).trans (watchDirection_measured _)
  rw [watchRollaway_eq] at hv2
  rw [watchDirection_eq] at hv3
  have h1 := fun c => causeIf_lists apart c .encoderDisagree (s := s) (by simp [h.1])
  have hlength1 : v1.sup.causes.length ≤ 1 := by simpa [h.1, hv1] using (h1 .rollaway).2
  have h2 := fun c => causeIf_lists v1.rolledAway c .rollaway (s := v1) (by omega)
  have hlength2 : v2.sup.causes.length ≤ 2 := by rw [← hv2]; exact (h2 .rollaway).2.trans (by omega)
  have hroom2 : v2.reached.sup.causes.length < 4 := Nat.lt_of_le_of_lt hlength2 (by decide)
  have h3 := fun c => causeIf_lists v2.wrongWay c .wrongDirection hroom2
  have hlength3 : v3.sup.causes.length ≤ 3 := by rw [← hv3]; exact (h3 .rollaway).2.trans (Nat.succ_le_succ hlength2)
  have h4 := fun c => causeIf_lists (grant && decide (30 < distance v3.coord v3.rope.sRef)) c .doorZoneMovement (s := v3) (by omega)
  have hall : ∀ c, Listed c (s.watched apart grant) ↔ (((apart = true ∧ c = .encoderDisagree) ∨ v1.rolledAway = true ∧ c = .rollaway) ∨
      v2.wrongWay = true ∧ c = .wrongDirection) ∨ (grant && decide (30 < distance v3.coord v3.rope.sRef)) = true ∧ c = .doorZoneMovement := by
    intro c
    rw [hwatched, (h4 c).1, ← hv3, (h3 c).1, Listed.reached_iff, ← hv2, (h2 c).1, ← hv1, (h1 c).1]
    simp only [hempty, false_or]
  rw [hmeasured.coord, hmeasured.rope] at hall
  refine ⟨by simp [hall], by simp [hall], by simp [hall], fun hapart hwatch => ?_⟩
  have hsame1 : v1 = s := by rw [← hv1, hapart]; rfl
  have hsame2 : v2 = s := by rw [← hv2, hsame1, State.rolledAway, hwatch]; rfl
  simp [hall, hsame2]

/-! ### The steps due after the test in hand has judged (R125, R129, R130) -/

theorem profileStopAfter_same {s : State} (n : Nat) (h : s.profiled = false) : profileStopAfter n s = s := by
  have hstop : profileStop s = s := if_neg (by simp [h])
  rw [profileStopAfter, hstop, ite_self]

theorem profiled_testing {k : TestKind} {s : State} (h : s.trip.line = .testing k) : s.profiled = false := by
  simp only [State.profiled, h]

/-- A test decided: the steps due end it at most. -/
theorem settle_decided {k : TestKind} {s : State} (before : State) (hline : s.trip.line = .testing k)
    (htest : s.sched.test = some (k, .ending)) :
    (settle before s).sched = { s.sched with test := (settle before s).sched.test } ∧
    (settle before s).sup.sbRel = s.sup.sbRel ∧ (settle before s).sup.drvEn = s.sup.drvEn := by
  rw [settle_testing before hline, settleEbApplied_other (by simp [htest]), settleReleased_ending hline htest]
  unfold settleTest
  split
  · split
    · unfold endEbTest
      split <;> simp
    · simp
  · split
    · unfold endRailTest
      dsimp only
      split <;> simp
    · simp
  · simp

/-- A test whose window, creep or braking runs: no step is due. -/
theorem settle_running {k : TestKind} {g : TestStage} {s : State} (before : State) (hline : s.trip.line = .testing k)
    (htest : s.sched.test = some (k, g)) (hg : g = .window ∨ g = .creep ∨ g = .braking) : settle before s = s := by
  have hne : s.sched.test ≠ some (.eb, .applying) ∧ (∀ j, s.sched.test ≠ some (j, .releasing)) ∧ g ≠ .ending := by
    rcases hg with rfl | rfl | rfl <;> simp [htest]
  obtain ⟨happlying, hreleasing, hending⟩ := hne
  have hreleased : settleReleased s = s := by
    unfold settleReleased
    split
    · rw [hline]
      cases k <;> simp [hreleasing]
    · rfl
  rw [settle_testing before hline, settleEbApplied_other happlying, hreleased, settleTest_undecided htest hending]

/-! ### The direction watch while SB_REL stands (R104) -/

/-- Where SB_REL is energised after, it was so before, and the direction watch stands. -/
def WatchSteady (s t : State) : Prop := t.sup.sbRel = true → s.sup.sbRel = true ∧ t.sup.dirWatch = s.sup.dirWatch

theorem WatchSteady.refl (s : State) : WatchSteady s s := fun h => ⟨h, rfl⟩

theorem WatchSteady.trans {s t u : State} (h : WatchSteady s t) (k : WatchSteady t u) : WatchSteady s u := fun hu => by
  obtain ⟨ht, ktu⟩ := k hu
  obtain ⟨hs, hst⟩ := h ht
  exact ⟨hs, ktu.trans hst⟩

theorem WatchSteady.of_down {s t : State} (h : t.sup.sbRel = false) : WatchSteady s t := fun ht => by simp [h] at ht

theorem WatchSteady.of_same {s t : State} (hsb : t.sup.sbRel = s.sup.sbRel) (hwatch : t.sup.dirWatch = s.sup.dirWatch) : WatchSteady s t :=
  fun ht => ⟨hsb ▸ ht, hwatch⟩

theorem WatchSteady.thenIf {s t u : State} {c : Prop} [Decidable c] (h : WatchSteady s t) (hu : c → WatchSteady t u) :
    WatchSteady s (if c then u else t) := by
  split
  · exact h.trans (hu ‹_›)
  · exact h

theorem judgeTestStep_steady (s : State) : WatchSteady s (judgeTestStep s) := by
  have heb : WatchSteady s (judgeEbStep s) :=
    (WatchSteady.of_same rfl rfl).thenIf fun _ => .of_down (by simp)
  unfold judgeTestStep
  split
  · exact heb
  · exact heb
  · exact (WatchSteady.refl s).thenIf fun _ => .of_same (by simp [makeRailOrder]) (by simp [makeRailOrder])
  · exact (WatchSteady.of_same rfl rfl).thenIf fun _ => .of_down (by simp)
  · exact .refl s

theorem profileStop_steady (s : State) : WatchSteady s (profileStop s) := by
  unfold profileStop
  split
  · split
    · exact (WatchSteady.refl s).thenIf fun _ => .of_down (by simp)
    · exact .refl s
  · exact .refl s

theorem endMove_steady (k : StopKind) (s : State) : WatchSteady s (endMove k s) := by
  unfold endMove
  split
  · dsimp only
    split <;> split <;> exact .of_down (by simp)
  · exact .refl s

theorem completeStop_steady (s : State) : WatchSteady s (completeStop s) := by
  unfold completeStop
  split
  · exact .of_same (by simp) (by simp)
  · split <;> exact .of_same (by simp) (by simp)
  · exact .of_same (by simp) (by simp)
  · exact endMove_steady _ s
  · exact .refl s

theorem setDrv_steady (v : Bool) (s : State) : WatchSteady s (setDrv v s) := .of_same (by simp) (by simp)

/-- A release that completes leaves the brake released and the watch running. -/
theorem settleReleased_steady (s : State) : WatchSteady s (settleReleased s) := by
  have haborts : ∀ k, WatchSteady s (abortToEnding k (setSb false s)) := fun k => .of_down (by simp)
  unfold settleReleased
  refine (WatchSteady.refl s).thenIf fun _ => ?_
  split
  · exact (WatchSteady.refl s).thenIf fun _ => .of_same (by simp [startTrip]) (by simp [startTrip])
  · refine (WatchSteady.refl s).thenIf fun _ => ?_
    unfold restartTrip
    split
    · exact .of_same (by simp) (by simp)
    · exact .refl s
  · exact (WatchSteady.refl s).thenIf fun _ => .of_same (by simp [startMove]) (by simp [startMove])
  · refine (WatchSteady.refl s).thenIf fun _ => ?_
    unfold ebReleased
    split
    · exact .of_same (by simp [setStage]) (by simp [setStage])
    · exact haborts _
  · refine (WatchSteady.refl s).thenIf fun _ => ?_
    unfold railReleased
    split
    · exact .of_same (by simp [setStage]) (by simp [setStage])
    · exact haborts _
  · exact .refl s

theorem settleTest_steady (s : State) : WatchSteady s (settleTest s) := by
  unfold settleTest
  split
  · refine (WatchSteady.refl s).thenIf fun _ => ?_
    unfold endEbTest
    split
    · exact .of_same (by simp) (by simp)
    · exact .refl s
  · refine (WatchSteady.refl s).thenIf fun _ => ?_
    unfold endRailTest
    dsimp only
    split <;> exact .of_same (by simp) (by simp)
  · exact .refl s

theorem endMove_line (k : StopKind) (s : State) :
    (endMove k s).trip.line = s.trip.line ∨ (endMove k s).trip.line = .parked ∨ (endMove k s).trip.line = .recovery false := by
  rw [endMove_eq]
  split
  · split
    · unfold berth
      split
      · simp
      · exact .inl (moveEnding_frame k s).1
    · simp
  · exact .inl rfl

theorem settleInterlock_line (v : Bool) (s : State) : (settleInterlock v s).trip.line = s.trip.line ∨
    (settleInterlock v s).trip.line = .parked ∨ (settleInterlock v s).trip.line = .recovery false := by
  unfold settleInterlock
  split
  · split
    · split <;> simp
    · split <;> simp
    · simp
  · split <;> simp
  · split
    · exact endMove_line _ s
    · simp
  · simp

theorem settleInterlock_steady (v : Bool) {s : State} (h : s.sup.sbRel = true ∨ s.trip.line ≠ .dispatch) :
    WatchSteady s (settleInterlock v s) := by
  unfold settleInterlock
  split
  next hline =>
    have hsb : s.sup.sbRel = true := h.resolve_right fun k => k hline
    split
    · refine (WatchSteady.refl s).thenIf fun _ => ?_
      rw [setSb_same (by exact hsb)]
      exact .of_same rfl rfl
    · split
      · exact .refl s
      · exact .of_down (by simp)
    · exact .refl s
  next => exact (WatchSteady.refl s).thenIf fun _ => .of_down (by simp)
  next => exact (WatchSteady.refl s).thenIf fun _ => endMove_steady _ s
  next => exact .refl s

/-- The steps due restart no direction watch, but for a release that begins: at a dispatch's interlock, or with an emergency brake test
applying. -/
theorem settle_steady {s : State} (before : State)
    (h : s.sup.sbRel = true ∨ s.trip.line ≠ .dispatch ∧ ¬(s.trip.line = .testing .eb ∧ s.sched.test = some (.eb, .applying))) :
    WatchSteady s (settle before s) := by
  have hinterlock : ∀ v, WatchSteady s (settleInterlock v s) := fun v => settleInterlock_steady v (h.imp id (·.1))
  by_cases hline : s.trip.line = .testing .eb
  · have happlied : settleEbApplied s = s := by
      rcases h with h | ⟨-, h⟩
      · exact settleEbApplied_up h
      · exact settleEbApplied_other fun htest => h ⟨hline, htest⟩
    rw [settle_testing before hline, happlied]
    exact (settleReleased_steady s).trans (settleTest_steady _)
  · rw [settle, settleWith]
    generalize (before.trip.line == .dispatch && before.departureParts != s.departureParts) = v
    have hheld : WatchSteady s (settleHold (settleInterlock v s)) := (hinterlock v).thenIf fun _ => .of_down (by simp)
    have happlied : settleEbApplied (settleHold (settleInterlock v s)) = settleHold (settleInterlock v s) := by
      have hother : (settleHold (settleInterlock v s)).trip.line ≠ .testing .eb := by
        rcases settleInterlock_line v s with e | e | e <;> simp [e, hline]
      unfold settleEbApplied
      split
      · exact absurd ‹_› hother
      · rfl
    rw [happlied]
    exact (((hheld.trans (settleReleased_steady _)).trans ((WatchSteady.refl _).thenIf fun _ => setDrv_steady _ _)).trans
      ((WatchSteady.refl _).thenIf fun _ => completeStop_steady _)).trans (settleTest_steady _)

/-- SB_REL is dropped at a step of the test in hand by its decision alone. -/
theorem judgeTestStep_drops {s : State} (hsb : s.sup.sbRel = true) (h : (judgeTestStep s).sup.sbRel ≠ true) :
    ∃ k g, s.sched.test = some (k, g) ∧ (judgeTestStep s).sched.test = some (k, .ending) := by
  have heb : (judgeEbStep s).sup.sbRel ≠ true → (judgeEbStep s).sched.test = some (.eb, .ending) := by
    unfold judgeEbStep
    dsimp only
    split
    · simp [decideTest_sched]
    · exact fun h => absurd hsb h
  unfold judgeTestStep at h ⊢
  split at h
  · exact ⟨_, _, ‹_›, heb h⟩
  · exact ⟨_, _, ‹_›, heb h⟩
  · split at h
    · exact absurd hsb (by simpa [makeRailOrder] using h)
    · exact absurd hsb h
  · rename_i k htest
    refine ⟨k, _, htest, ?_⟩
    unfold judgeBrakingStep at h ⊢
    dsimp only at h ⊢
    split at h
    · rw [if_pos ‹_›]
      simp [decideTest_sched]
    · exact absurd hsb h
  · exact absurd hsb h

theorem profileStop_drops {s : State} (hsb : s.sup.sbRel = true) (h : (profileStop s).sup.sbRel ≠ true) : s.profiled = true := by
  cases hp : s.profiled with
  | true => rfl
  | false => rw [profileStop, if_neg (by simp [hp])] at h; exact absurd hsb h

theorem judgeTestStep_line (s : State) : (judgeTestStep s).trip.line = s.trip.line := by
  unfold judgeTestStep judgeEbStep judgeBrakingStep
  dsimp only
  split
  · split <;> simp [noteMovement, setDrv_off_trip_eq, -setDrv_off_trip]
  · split <;> simp [noteMovement, setDrv_off_trip_eq, -setDrv_off_trip]
  · split <;> simp [makeRailOrder, setStage, setDrv_off_trip_eq, -setDrv_off_trip]
  · split <;> simp [noteMovement]
  · rfl

theorem profileStopAfter_line (n : Nat) (s : State) : (profileStopAfter n s).trip.line = s.trip.line := by
  unfold profileStopAfter profileStop
  split
  · rfl
  · split
    · split
      · split <;> simp
      · rfl
    · rfl

/-- After a step with SB_REL energised the steps due restart no direction watch (R104). -/
theorem stepSettled_steady {s : State} (before : State) (n : Nat) (hsb : s.sup.sbRel = true)
    (htests : ∀ k g, s.sched.test = some (k, g) → s.trip.line = .testing k) :
    WatchSteady s (settle before (profileStopAfter n (judgeTestStep s))) := by
  have hprofile : WatchSteady (judgeTestStep s) (profileStopAfter n (judgeTestStep s)) := by
    unfold profileStopAfter
    split
    · exact .refl _
    · exact profileStop_steady _
  refine ((judgeTestStep_steady s).trans hprofile).trans (settle_steady before ?_)
  have hsched : (profileStopAfter n (judgeTestStep s)).sched = (judgeTestStep s).sched := by simp
  rw [profileStopAfter_line, hsched, judgeTestStep_line]
  by_cases hw : (judgeTestStep s).sup.sbRel = true
  · by_cases hx : (profileStopAfter n (judgeTestStep s)).sup.sbRel = true
    · exact .inl hx
    · have hprofiled : (judgeTestStep s).profiled = true := by
        unfold profileStopAfter at hx
        split at hx
        · exact absurd hw hx
        · exact profileStop_drops hw hx
      have hline := judgeTestStep_line s
      unfold State.profiled at hprofiled
      split at hprofiled
      · rename_i e; rw [hline] at e; simp [e]
      · rename_i e; rw [hline] at e; simp [e]
      · cases hprofiled
  · obtain ⟨k, g, htest, hended⟩ := judgeTestStep_drops hsb hw
    simp [htests k g htest, hended]

/-! ### The test in hand at a step -/

/-- What an event of channel 1 leaves after its watches: the test in hand judged, the profile stop, the steps due. -/
def State.stepSettled (s before : State) (n : Nat) : State := settle before (profileStopAfter n (judgeTestStep s))

theorem stepSettled_testing {k : TestKind} {s : State} (before : State) (n : Nat) (hline : s.trip.line = .testing k) :
    s.stepSettled before n = settle before (judgeTestStep s) := by
  rw [State.stepSettled, profileStopAfter_same n (profiled_testing ((judgeTestStep_line s).trans hline))]

theorem judgeTestStep_eb {g : TestStage} {s : State} (htest : s.sched.test = some (.eb, g)) (hg : g = .applying ∨ g = .window) :
    judgeTestStep s = judgeEbStep s := by
  rcases hg with rfl | rfl <;> simp only [judgeTestStep, htest]

theorem judgeTestStep_braking {k : TestKind} {s : State} (hk : k ≠ .eb) (htest : s.sched.test = some (k, .braking)) :
    judgeTestStep s = judgeBrakingStep k s := by
  cases k with
  | eb => exact absurd rfl hk
  | railA => simp only [judgeTestStep, htest]
  | railB => simp only [judgeTestStep, htest]

theorem judgeTestStep_creep {k : TestKind} {s : State} (hk : k ≠ .eb) (htest : s.sched.test = some (k, .creep)) :
    judgeTestStep s = if 3000 ≤ distance s.coord s.sched.creepStart then makeRailOrder k s else s := by
  cases k with
  | eb => exact absurd rfl hk
  | railA => simp only [judgeTestStep, htest]
  | railB => simp only [judgeTestStep, htest]

/-- An emergency brake test fails beyond 20 mm (R125). -/
theorem ebStep_fails {g : TestStage} {s : State} (before : State) (n : Nat) (hline : s.trip.line = .testing .eb)
    (htest : s.sched.test = some (.eb, g)) (hg : g = .applying ∨ g = .window) (hfar : 20 < distance s.coord s.sched.anchor) :
    (s.stepSettled before n).sched.lastTest = some ⟨.eb, .fail, min 65535 (max s.sched.largest (distance s.coord s.sched.anchor)), 3⟩ ∧
    (s.stepSettled before n).sched.obligations.eb.debt = 3 ∧ (s.stepSettled before n).sup.sbRel = false ∧
    (s.stepSettled before n).sup.drvEn = false ∧ (s.stepSettled before n).sched.windowLimit = false := by
  rw [stepSettled_testing before n hline]
  have hjudged := judgeTestStep_eb htest hg
  rw [judgeEbStep, if_pos hfar] at hjudged
  have hended := settle_decided before ((judgeTestStep_line s).trans hline) (by rw [hjudged]; simp [decideTest_sched])
  obtain ⟨hsched, hsb, hdrv⟩ := hended
  rw [hsched, hsb, hdrv, hjudged]
  simp [decideTest_sched, noteMovement, debtAfter, PerTest.set]

theorem ebStep_passes {s : State} (before : State) (n : Nat) (hline : s.trip.line = .testing .eb)
    (htest : s.sched.test = some (.eb, .window)) (hnear : distance s.coord s.sched.anchor ≤ 20) :
    (s.stepSettled before n).sched = { s.sched with largest := min 65535 (max s.sched.largest (distance s.coord s.sched.anchor)) } := by
  rw [stepSettled_testing before n hline]
  have hjudged := judgeTestStep_eb htest (.inr rfl)
  rw [judgeEbStep, if_neg (by omega)] at hjudged
  rw [settle_running before ((judgeTestStep_line s).trans hline) (g := .window) (by rw [hjudged]; exact htest) (.inl rfl), hjudged]
  rfl

/-- A rail test in BRAKING fails beyond 1500 mm (R130). -/
theorem brakingStep_fails {k : TestKind} {s : State} (before : State) (n : Nat) (hk : k ≠ .eb) (hline : s.trip.line = .testing k)
    (htest : s.sched.test = some (k, .braking)) (hfar : 1500 < distance s.coord s.sched.orderAnchor) :
    (s.stepSettled before n).sched.lastTest = some ⟨k, .fail, min 65535 (distance s.coord s.sched.orderAnchor), 3⟩ ∧
    ((s.stepSettled before n).sched.obligations.get k).debt = 3 ∧ (s.stepSettled before n).sup.sbRel = false ∧
    (s.stepSettled before n).sched.brakeLimit = false := by
  rw [stepSettled_testing before n hline]
  have hjudged := judgeTestStep_braking hk htest
  rw [judgeBrakingStep, if_pos hfar] at hjudged
  have hended := settle_decided before ((judgeTestStep_line s).trans hline) (by rw [hjudged]; simp [decideTest_sched])
  obtain ⟨hsched, hsb, -⟩ := hended
  rw [hsched, hsb, hjudged]
  cases k <;> simp [decideTest_sched, debtAfter, PerTest.set, PerTest.get]

theorem brakingStep_goes {k : TestKind} {s : State} (before : State) (n : Nat) (hk : k ≠ .eb) (hline : s.trip.line = .testing k)
    (htest : s.sched.test = some (k, .braking)) (hnear : distance s.coord s.sched.orderAnchor ≤ 1500) :
    (s.stepSettled before n).sched = { s.sched with largest := min 65535 (max s.sched.largest (distance s.coord s.sched.orderAnchor)) } := by
  rw [stepSettled_testing before n hline]
  have hjudged := judgeTestStep_braking hk htest
  rw [judgeBrakingStep, if_neg (by omega)] at hjudged
  rw [settle_running before ((judgeTestStep_line s).trans hline) (g := .braking) (by rw [hjudged]; exact htest) (.inr (.inr rfl)), hjudged]
  rfl

/-- A rail test in CREEP makes its rail brake order at 3000 mm (R129). -/
theorem creepStep_eq {k : TestKind} {s : State} (before : State) (n : Nat) (hk : k ≠ .eb) (hline : s.trip.line = .testing k)
    (htest : s.sched.test = some (k, .creep)) : s.stepSettled before n =
      if 3000 ≤ distance s.coord s.sched.creepStart then makeRailOrder k s else s := by
  rw [stepSettled_testing before n hline]
  have hjudged := judgeTestStep_creep hk htest
  have hline' := (judgeTestStep_line s).trans hline
  rw [hjudged] at hline' ⊢
  split
  · rw [if_pos ‹_›] at hline'
    exact settle_running before hline' (g := .braking) (by simp [makeRailOrder, setStage]) (.inr (.inr rfl))
  · exact settle_running before hline htest (.inr (.inl rfl))

/-- The rail brake order part by part (R129). -/
theorem makeRailOrder_fields (k : TestKind) (s : State) :
    (makeRailOrder k s).sched = { s.sched with test := some (k, .braking), orderAnchor := s.coord, creepLimit := false, brakeLimit := true } ∧
    (makeRailOrder k s).sup = { s.sup with
      railOrder := s.sup.railOrder.set (testCar k) (if s.sup.railOrder.get (testCar k) = .trip then .trip else .test), drvEn := false } ∧
    (makeRailOrder k s).trip.held = 0 ∧ (makeRailOrder k s).trip.forming = 0 ∧ (makeRailOrder k s).trip.frame.speed = 0 ∧
    (makeRailOrder k s).trip.frameCount = (s.trip.frameCount + 1) % 256 := by
  have hcoord : ∀ t : State, t.tables = s.tables → t.rope = s.rope → t.coord = s.coord := fun t h1 h2 =>
    State.coord_congr (by rw [h1]) (by rw [h2]) (by rw [h2])
  refine ⟨?_, ?_, ?_, ?_, ?_, ?_⟩
  · simp only [makeRailOrder]
    rw [hcoord _ (by simp [setStage]) (by simp [setStage])]
    simp [setStage]
  all_goals simp [makeRailOrder, setStage, setDrv_off_trip_eq, -setDrv_off_trip]

/-! ### The step as a whole (O50) -/

/-- The state as the watches find it: the step counted and the flag judged. -/
theorem exec_countStep_ch1 (line : PhaseLine) (at_ : Nat) (s : State) : exec (.countStep .ch1 line at_) s =
    .next (((s.stepped .ch1 line (max s.now at_)).watched (s.stepped .ch1 line (max s.now at_)).apart s.anyGrant).stepSettled s s.vSup) := by
  have hapart : (measureStep .ch1 line (max s.now at_) s).apart = (s.stepped .ch1 line (max s.now at_)).apart := by
    rw [State.stepped, if_pos rfl, State.apart, State.apart, State.coord, State.coord, State.coord2, State.coord2, clearFlag_rope,
      (clearFlag_frame _).1]
  rw [exec_countStep, if_pos rfl, hapart]
  rfl

theorem judgeTestStep_causes (s : State) : (judgeTestStep s).sup.causes = s.sup.causes := by
  unfold judgeTestStep judgeEbStep judgeBrakingStep
  dsimp only
  split
  · split <;> simp [noteMovement]
  · split <;> simp [noteMovement]
  · split <;> simp [makeRailOrder, setStage]
  · split <;> simp [noteMovement]
  · rfl

theorem profileStopAfter_causes (n : Nat) (s : State) : (profileStopAfter n s).sup.causes = s.sup.causes := by
  unfold profileStopAfter profileStop
  split
  · rfl
  · split
    · split
      · split <;> simp
      · rfl
    · rfl

/-- The test in hand and the steps due list no cause. -/
theorem stepSettled_causes (s before : State) (n : Nat) : (s.stepSettled before n).sup.causes = s.sup.causes := by
  rw [State.stepSettled, (settle_seqFrame before _).sup]
  exact (profileStopAfter_causes n _).trans (judgeTestStep_causes s)

/-- In TRIPPED with no test in hand nothing more is due. -/
theorem DownTripped.stepSettled {s : State} (h : DownTripped s) (before : State) (n : Nat) : s.stepSettled before n = s := by
  have hjudged : judgeTestStep s = s := by simp only [judgeTestStep, h.test]
  have hprofiled : s.profiled = false := by simp only [State.profiled, h.line]
  rw [State.stepSettled, hjudged, profileStopAfter_same n hprofiled, settle_still before s (by rw [h.line]; rfl)]

theorem stepSettled_measured (s before : State) (n : Nat) : Measured s (s.stepSettled before n) :=
  ((judgeTestStep_measured s).trans (profileStopAfter_measured _ _)).trans (settle_seqFrame before _).measured

theorem watched_measured (s : State) (apart grant : Bool) : Measured s (s.watched apart grant) :=
  (((causeIf_measured _ _ s).trans (watchRollaway_measured _)).trans (watchDirection_measured _)).trans (causeIf_measured _ _ _)

/-- The rollaway watch after a first cause: with the flag set s_ref lies within 5 mm, so that a watch armed there finds nothing (R29, R102). -/
theorem rolledAway_iff {s : State} (hnear : s.rope.flag = true → distance s.coord s.rope.sRef ≤ 5) (b : Bool) (c : Cause) :
    (causeIf b c s).rolledAway = true ↔ ∃ a, s.sup.rollaway = some a ∧ 50 < distance s.coord a := by
  have hwatch : WatchArmed s (causeIf b c s) := by
    cases b
    · exact .of_same rfl rfl
    · exact takeCause_watch c none s
  obtain ⟨-, hsame | ⟨hnone, hflag, harmed⟩⟩ := hwatch
  · rw [State.rolledAway, hsame, (causeIf_measured b c s).coord]
    cases s.sup.rollaway <;> simp
  · rw [State.rolledAway, harmed, (causeIf_measured b c s).coord]
    have := hnear hflag
    simp [hnone]
    omega

/-- Settles O50: the causes by the watches' list, the direction watch and the test in hand where none is found. -/
theorem countStepIsWatched : Obligations.CountStepIsWatched := by
  intro line at_ s hnone hline
  obtain ⟨htables, htrack, hcars, hnow, htrip, hsup, hsched⟩ := stepped_keeps s .ch1 line (max s.now at_)
  have hrope := stepped_rope s .ch1 line (max s.now at_)
  have hexec := exec_countStep_ch1 line at_ s
  generalize s.stepped .ch1 line (max s.now at_) = u at *
  have hfree : CauseFree u := ⟨by rw [hsup, hnone], by rwa [htrip]⟩
  have hcoord : ((u.watched u.apart s.anyGrant).stepSettled s s.vSup).coord = u.coord :=
    ((watched_measured u _ _).trans (stepSettled_measured _ _ _)).coord
  have hcoord2 : ((u.watched u.apart s.anyGrant).stepSettled s s.vSup).coord2 = u.coord2 :=
    ((watched_measured u _ _).trans (stepSettled_measured _ _ _)).coord2
  have hnear : u.rope.flag = true → distance u.coord u.rope.sRef ≤ 5 := by
    rw [hrope]
    simp
  have hlisted : ∀ c, (∃ e ∈ ((u.watched u.apart s.anyGrant).stepSettled s s.vSup).sup.causes, e.cause = c) ↔
      Listed c (u.watched u.apart s.anyGrant) := fun c => by rw [stepSettled_causes, Listed]
  obtain ⟨henc, hroll, hdoor, hwrong⟩ := watched_lists hfree u.apart s.anyGrant
  have hsref : u.rope.sRef = s.rope.sRef := by rw [hrope]
  have hout := watched_outcome hfree u.apart s.anyGrant
  refine ⟨_, hexec, ?_⟩
  generalize ht : (u.watched u.apart s.anyGrant).stepSettled s s.vSup = t at hcoord hcoord2 hlisted
  intro listed off apart reached
  have hlist : ∀ c, listed c ↔ Listed c (u.watched u.apart s.anyGrant) := hlisted
  have hoff : ∀ a, off a = distance u.coord a := fun a => by simp only [off, hcoord, distance]
  have hapart : apart ↔ u.apart = true := by
    rw [State.apart, decide_eq_true_eq, ← hcoord, ← hcoord2]
    exact Iff.rfl
  have hbehind : ∀ w, reached w = -behind w.dir w.reach u.coord := fun w => by
    simp only [reached, hcoord, behind]
    cases w.dir <;> simp
  have hsteps : t.sup.causes = [] → t = u.reached.stepSettled s s.vSup := fun hc => by
    rcases hout with e | e
    · rw [← ht, e]
    · rw [← ht, e.stepSettled] at hc
      exact absurd hc e.causes
  refine ⟨(hlist _).trans (henc.trans hapart.symm), ?_, ?_, fun w hnear' hr hw => ?_, fun w hnear' hr hw htests hsb hsbt => ?_,
    fun hc => ?_, fun hc => ⟨fun g htest hg hstage => ?_, fun k hk htest hcreep => ?_, fun k hk htest hbraking => ?_⟩⟩
  · rw [hlist, hroll, rolledAway_iff hnear, hsup]
    simp only [hoff]
  · rw [hlist, hdoor, hsref, hoff]
  · have hw' : u.sup.dirWatch = some w := by rw [hsup, hw]
    rw [hlist, hwrong (Bool.eq_false_iff.mpr (hnear' ∘ hapart.mpr)) (by rw [hsup, hr]), State.wrongWay, hw', hbehind]
    simp only [decide_eq_true_eq]
    omega
  · rcases hout with e | e
    · have hsteady := stepSettled_steady (s := u.reached) s s.vSup (by exact (congrArg Sup.sbRel hsup).trans hsb)
        (fun k g h => (congrArg Trip.line htrip).trans (htests k g ((congrArg Sched.test hsched).symm.trans h)))
      rw [e, State.stepSettled] at ht
      rw [ht] at hsteady
      have hwatch := (hsteady hsbt).2
      have hw' : u.sup.dirWatch = some w := by rw [hsup, hw]
      rw [hwatch, State.reached, hw', Option.map_some, DirWatch.furthest, hcoord]
      by_cases hb : behind w.dir w.reach u.coord < 0
      · rw [if_pos hb, if_pos (by rw [hbehind]; omega)]
      · rw [if_neg hb, if_neg (by rw [hbehind]; omega)]
    · rw [← ht, e.stepSettled, e.sb] at hsbt
      cases hsbt
  · rcases hout with e | e
    · rw [← ht, e, stepSettled_causes] at hc
      exact absurd hfree.1 hc
    · rw [← ht, e.stepSettled]
      exact ⟨e.line, e.eb, e.sb, e.drv⟩
  · intro m
    rw [hsteps hc]
    have hl : u.reached.trip.line = .testing .eb := (congrArg Trip.line htrip).trans htest
    have ht' : u.reached.sched.test = some (.eb, g) := (congrArg Sched.test hsched).trans hg
    rw [hoff, ← hsched]
    refine ⟨fun hfar => ?_, fun hnear' hwin => ?_⟩
    · simp only [m, hoff, ← hsched]
      exact ebStep_fails s s.vSup hl ht' hstage hfar
    · simp only [m, hoff, ← hsched]
      exact ebStep_passes s s.vSup hl (hwin ▸ ht') hnear'
  · intro x
    have hx : x = testCar k := by cases k <;> rfl
    have hl : u.reached.trip.line = .testing k := (congrArg Trip.line htrip).trans htest
    have ht' : u.reached.sched.test = some (k, .creep) := (congrArg Sched.test hsched).trans hcreep
    rw [hsteps hc, creepStep_eq s s.vSup hk hl ht', hx, ← hsup, ← hsched, ← htrip]
    refine ⟨fun hfar => ?_, fun hnear' => ?_⟩
    · rw [hoff] at hfar
      obtain ⟨hs, hp, hheld, hforming, hspeed, hcount⟩ := makeRailOrder_fields k u.reached
      rw [if_pos (by exact hfar), hs, hp, hheld, hforming, hspeed, hcount]
      exact ⟨by rw [(makeRailOrder_measured k u.reached).coord]; rfl, rfl, rfl, rfl, rfl, rfl, rfl, rfl, rfl⟩
    · rw [hoff] at hnear'
      rw [if_neg (by exact Nat.not_le.mpr hnear')]
      exact ⟨rfl, rfl⟩
  · intro n
    have hl : u.reached.trip.line = .testing k := (congrArg Trip.line htrip).trans htest
    have ht' : u.reached.sched.test = some (k, .braking) := (congrArg Sched.test hsched).trans hbraking
    rw [hsteps hc]
    simp only [n, hoff, ← hsched]
    exact ⟨brakingStep_fails s s.vSup hk hl ht', brakingStep_goes s s.vSup hk hl ht'⟩

end Sys2Proof.Machine
end

section
/-! PROOFS. Marker edges (O52). -/

namespace Sys2Proof.Machine

/-! ### Candidates and establishing edges (R31, R32, R35) -/

theorem edgeError_eq_some {s : State} {m : MarkerInput} {x : Car} {v : Int} : s.edgeError m x = some v ↔
    ∃ p w, s.edge m x = some (p, w) ∧ v = p - s.pos x ∧ |p - s.pos x| ≤ (w : Int) := by
  unfold State.edgeError distance
  cases s.edge m x with
  | none => simp
  | some q =>
    obtain ⟨p, w⟩ := q
    by_cases h : (p - s.pos x).natAbs ≤ w
    · have h' : |p - s.pos x| ≤ (w : Int) := by rw [Int.abs_eq_natAbs]; exact_mod_cast h
      simp only [Option.bind_some, if_pos h, Option.some.injEq, Prod.mk.injEq]
      constructor
      · rintro rfl; exact ⟨p, w, ⟨rfl, rfl⟩, rfl, h'⟩
      · rintro ⟨_, _, ⟨rfl, rfl⟩, rfl, -⟩; rfl
    · simp only [Option.bind_some, if_neg h, Option.some.injEq, Prod.mk.injEq]
      constructor
      · nofun
      · rintro ⟨_, _, ⟨rfl, rfl⟩, -, h'⟩
        rw [Int.abs_eq_natAbs] at h'
        exact absurd (by exact_mod_cast h') h

theorem ascends_iff (d : Dir) (x : Car) : d.ascends x = true ↔ (d = .up ↔ x = .a) := by cases d <;> cases x <;> decide

theorem edge_switch {s : State} {b : Berth} {x : Car} {p : Int} {w : Nat} : s.edge (.switch b) x = some (p, w) ↔
    w = 2000 ∧ ∃ e, s.berthEntry b = some e ∧ p = if s.rope.dir = .up ↔ x = .a then e.zoneLo else e.zoneHi := by
  simp only [State.edge, ← ascends_iff]
  cases s.berthEntry b with
  | none => simp
  | some e =>
    simp only [Option.map_some, Option.some.injEq, Prod.mk.injEq, exists_eq_left']
    exact ⟨fun ⟨h, k⟩ => ⟨k.symm, h.symm⟩, fun ⟨h, k⟩ => ⟨k.symm, h.symm⟩⟩

theorem marker_eq_some {s : State} {i : FreeInput} {e : MarkerEntry} :
    s.marker i = some e ↔ ∃ l, s.tables.markers = some l ∧ l.find? (fun e => e.input == freeNumber i) = some e := by
  unfold State.marker
  cases s.tables.markers <;> simp

/-- The cars that a marker entry allows (R31). -/
theorem markerCar_iff (x : Car) (e : MarkerEntry) : (e.car = 3 ∨ e.car = (match x with | .a => 1 | .b => 2)) ↔
    (e.car = 3 ∨ e.car = 1 ∧ x = .a ∨ e.car = 2 ∧ x = .b) := by
  cases x <;> simp

theorem edge_free {s : State} {i : FreeInput} {x : Car} {p : Int} {w : Nat} : s.edge (.free i) x = some (p, w) ↔
    ∃ l e, s.tables.markers = some l ∧ l.find? (fun e => e.input == freeNumber i) = some e ∧
      (e.car = 3 ∨ e.car = 1 ∧ x = .a ∨ e.car = 2 ∧ x = .b) ∧ p = e.position ∧ w = e.window := by
  have hedge : s.edge (.free i) x = (s.marker i).bind fun e =>
      if e.car = 3 ∨ e.car = (match x with | .a => 1 | .b => 2) then some ((e.position : Int), e.window) else none := rfl
  rw [hedge, Option.bind_eq_some_iff]
  simp only [Option.ite_none_right_eq_some, Option.some.injEq, Prod.mk.injEq, marker_eq_some]
  constructor
  · rintro ⟨e, ⟨l, hl, he⟩, hc, hp, hw⟩
    exact ⟨l, e, hl, he, (markerCar_iff x e).mp hc, hp.symm, hw.symm⟩
  · rintro ⟨l, e, hl, he, hc, hp, hw⟩
    exact ⟨e, ⟨l, hl, he⟩, (markerCar_iff x e).mpr hc, hp.symm, hw.symm⟩

theorem establishing_eq_some {s : State} {m : MarkerInput} {x : Car} {b : Berth} : s.establishing m = some (x, b) ↔
    m = .switch b ∧ s.trip.line = .recovery true ∧ ∃ r, s.trip.record = some r ∧
      (r.target.a = .b0 ∨ r.target.a = .b3) ∧ (x = .a ∧ b = r.target.a ∨ x = .b ∧ b = r.target.a.mirror) := by
  constructor
  · intro h
    unfold State.establishing at h
    split at h
    next k r hline hrecord =>
      have hterm : r.target.a.isTerminus = true := by
        by_contra ht
        rw [if_pos (by simpa using ht)] at h
        cases h
      rw [hterm, if_neg (by nofun)] at h
      refine ⟨?_, hline, r, hrecord, by cases hk : r.target.a <;> simp_all [Berth.isTerminus], ?_⟩
      · split at h <;> simp_all
      · split at h <;> simp_all
    next => cases h
  · rintro ⟨rfl, hline, r, hrecord, hterm, hat⟩
    rcases hat with ⟨rfl, rfl⟩ | ⟨rfl, rfl⟩ <;> rcases hterm with ht | ht <;>
      simp [State.establishing, hline, hrecord, ht, Berth.isTerminus, Berth.mirror]

/-! ### Edges taken (R30, R33 to R35) -/

theorem setLevel_frame (m : MarkerInput) (v : Bool) (s : State) :
    (setLevel m v s).tables = s.tables ∧ (setLevel m v s).trip = s.trip ∧ (setLevel m v s).sup = s.sup ∧ (setLevel m v s).track = s.track ∧
    (setLevel m v s).rope.chans = s.rope.chans ∧ (setLevel m v s).rope.base = s.rope.base ∧ (setLevel m v s).rope.base2 = s.rope.base2 ∧
    (setLevel m v s).rope.offs = s.rope.offs ∧ (setLevel m v s).rope.dir = s.rope.dir ∧ (setLevel m v s).rope.flag = s.rope.flag ∧
    (setLevel m v s).rope.sRef = s.rope.sRef ∧ (setLevel m v s).rope.certainty = s.rope.certainty ∧
    (setLevel m v s).rope.spurious = s.rope.spurious := by
  cases m <;> simp [setLevel]

theorem setLevel_level (m : MarkerInput) (v : Bool) (s : State) : (setLevel m v s).level m = v := by
  cases m with
  | switch b => exact PerBerth.get_set_same _ _ _
  | free i => cases i <;> rfl

theorem setLevel_edgeError (m n : MarkerInput) (v : Bool) (s : State) (x : Car) : (setLevel n v s).edgeError m x = s.edgeError m x := by
  cases n <;> rfl

theorem setLevel_establishing (m n : MarkerInput) (v : Bool) (s : State) : (setLevel n v s).establishing m = s.establishing m := by
  cases n <;> rfl

theorem setLevel_berthEntry (n : MarkerInput) (v : Bool) (s : State) (b : Berth) : (setLevel n v s).berthEntry b = s.berthEntry b := by
  cases n <;> rfl

theorem exec_markerEdge_same {m : MarkerInput} {v : Bool} {s : State} (h : s.level m = v) : exec (.markerEdge m v) s = .next s := if_pos h

theorem exec_markerEdge_active {m : MarkerInput} {s : State} (h : s.level m = false) :
    exec (.markerEdge m true) s = .next (settle s (activeEdge m (setLevel m true s))) := by
  show execMarkerEdge m true s = _
  simp [execMarkerEdge, h]

theorem exec_markerEdge_inactive {m : MarkerInput} {s : State} (h : s.level m = true) :
    exec (.markerEdge m false) s = .next (settle s (setLevel m false s)) := by
  show execMarkerEdge m false s = _
  simp [execMarkerEdge, h]

theorem attributeEdge_single {m : MarkerInput} {s : State} {x : Car} {e : Int} (h : s.edgeError m x = some e)
    (hother : s.edgeError m x.other = none) : attributeEdge m s = correct x e s := by
  cases x <;> simp_all [attributeEdge, Car.other]

theorem attributeEdge_spurious {m : MarkerInput} {s : State} (h : (s.edgeError m .a).isSome = (s.edgeError m .b).isSome) :
    attributeEdge m s = countSpurious s := by
  unfold attributeEdge
  split <;> simp_all

theorem setCertainty_known (s : State) : setCertainty .known s = { s with rope := { s.rope with certainty := .known } } := by
  unfold setCertainty
  split <;> simp_all

theorem setCertainty_uncertain {s : State} (h : s.rope.certainty ≠ .unknown) : setCertainty .uncertain s =
    if s.rope.certainty = .known then raiseAll .position { s with rope := { s.rope with certainty := .uncertain } }
    else { s with rope := { s.rope with certainty := .uncertain } } := by
  cases hc : s.rope.certainty <;> simp_all [setCertainty]

/-- An error too large is rejected (R34): UNCERTAIN with POSITION, once or twice the same flag. -/
theorem correct_rejects {x : Car} {e : Int} {s : State} (hc : s.rope.certainty ≠ .unknown) (h : 300 < |e|) :
    correct x e s = raiseAll .position { s with rope := { s.rope with certainty := .uncertain } } := by
  have h' : 300 < e.natAbs := by rw [Int.abs_eq_natAbs] at h; omega
  have htwice : ∀ q : PortState, (q.raise .position).raise .position = q.raise .position := fun q => by
    simp only [PortState.raise, BitVec.or_assoc, BitVec.or_self]
  rw [correct, if_pos h', setCertainty_uncertain hc]
  split
  · simp only [raiseAll]
    cases hl : s.links
    simp [PerPort.map, htwice]
  · rfl

theorem correct_corrects {x : Car} {e : Int} {s : State} (hc : s.rope.certainty ≠ .unknown) (h : |e| ≤ 300)
    (hlo : -2000 ≤ s.rope.offs.get x + e) (hhi : s.rope.offs.get x + e ≤ 2000) :
    correct x e s = { s with rope := { s.rope with offs := s.rope.offs.set x (s.rope.offs.get x + e), certainty := .known } } := by
  have h' : ¬300 < e.natAbs := by rw [Int.abs_eq_natAbs] at h; omega
  have hclamp : clamp (-2000) 2000 (s.rope.offs.get x + e) = s.rope.offs.get x + e := by unfold clamp; omega
  rw [correct, if_neg h']
  simp only [hclamp, ne_eq, not_true, if_false]
  split
  · rw [setCertainty_known]
  · cases hk : s.rope.certainty <;> simp_all

theorem correct_clamps {x : Car} {e : Int} {s : State} (h : |e| ≤ 300)
    (hout : s.rope.offs.get x + e < -2000 ∨ 2000 < s.rope.offs.get x + e) :
    correct x e s = setCertainty .uncertain { s with rope := { s.rope with
      offs := s.rope.offs.set x (if s.rope.offs.get x + e < 0 then -2000 else 2000) } } := by
  have h' : ¬300 < e.natAbs := by rw [Int.abs_eq_natAbs] at h; omega
  have hclamp : clamp (-2000) 2000 (s.rope.offs.get x + e) = if s.rope.offs.get x + e < 0 then -2000 else 2000 := by
    unfold clamp
    split <;> omega
  have hne : clamp (-2000) 2000 (s.rope.offs.get x + e) ≠ s.rope.offs.get x + e := by unfold clamp; omega
  rw [correct, if_neg h']
  dsimp only
  rw [if_pos hne, hclamp]

/-- Establishment (R35): the arriving car stands at the edge, the measurement moved as one. -/
theorem establish_leaves (x : Car) (p : Int) {h : Header} {s : State} (hh : s.tables.header = some h) :
    (establish x p h s).pos x = p ∧ (establish x p h s).rope.offs = ⟨0, 0⟩ ∧ (establish x p h s).rope.certainty = .known ∧
    (establish x p h s).coord - s.coord = (establish x p h s).coord2 - s.coord2 ∧
    (establish x p h s).rope.sRef - s.rope.sRef = (establish x p h s).coord - s.coord ∧
    (establish x p h s).rope.chans = s.rope.chans ∧ (establish x p h s).tables = s.tables ∧ (establish x p h s).track = s.track := by
  unfold establish
  dsimp only
  rw [setCertainty_known]
  refine ⟨?_, ?_, ?_, ?_, ?_, ?_, ?_, ?_⟩ <;> simp [State.pos, State.coord, State.coord2, hh, coordOf]
  cases x <;> simp <;> omega

/-- Settles O52: candidates and establishing edges by their equivalences, the edge by the judgement that certainty asks for. -/
theorem markerEdgeCorrectsThePosition : Obligations.MarkerEdgeCorrectsThePosition := by
  intro m s u
  obtain ⟨htables, htrip, -, htrack, hchans, hbase, hbase2, hoffs, hdir, hflag, hsref, hcert, hspurious⟩ := setLevel_frame m true s
  refine ⟨fun x v => ?candidate, fun x b => establishing_eq_some, fun v h => exec_markerEdge_same h,
    fun h => ⟨exec_markerEdge_inactive h, setLevel_level m false s⟩, fun h => ⟨setLevel_level m true s, fun hk hidle => ?idle,
      fun hk hmoving hvalid => ⟨fun x e he hother => ⟨fun hbig => ?rejects, fun hsmall hlo hhi => ?corrects, fun hsmall hout => ?clamps⟩,
        fun hboth => ?spurious⟩, fun hk hnone => ?unarmed, fun x b h' e hk harmed hh he => ?establishes⟩⟩
  case candidate =>
    rw [edgeError_eq_some]
    constructor
    · rintro ⟨p, w, hedge, hv, hw⟩
      refine ⟨p, w, hv, hw, ?_⟩
      cases m with
      | switch b => exact edge_switch.mp hedge
      | free i => cases i <;> exact edge_free.mp hedge
    · rintro ⟨p, w, hv, hw, hedge⟩
      refine ⟨p, w, ?_, hv, hw⟩
      cases m with
      | switch b => exact edge_switch.mpr hedge
      | free i => cases i <;> exact edge_free.mpr hedge
  all_goals rw [exec_markerEdge_active h]
  case idle =>
    have hstands : activeEdge m u = u := by
      rw [activeEdge, if_neg (by rwa [hcert]), if_pos (by rw [hflag, htables]; rcases hidle with h | h <;> simp [h])]
    rw [hstands]
  case unarmed =>
    have hstands : activeEdge m u = u := by
      rw [activeEdge, if_pos (by rwa [hcert]), setLevel_establishing, hnone]
    rw [hstands]
  case establishes =>
    have hentered : activeEdge m u = establish x (terminalEdge b e) h' u := by
      rw [activeEdge, if_pos (by rwa [hcert]), setLevel_establishing, harmed, htables, hh]
      dsimp only
      rw [setLevel_berthEntry, he]
    obtain ⟨hpos, hoffs', hknown, hcoord, href, hchans', htables', htrack'⟩ := establish_leaves x (terminalEdge b e) (s := u) (by rwa [htables])
    have hsame : u.coord = s.coord ∧ u.coord2 = s.coord2 :=
      ⟨by rw [State.coord, State.coord, htables, hbase, hchans], by rw [State.coord2, State.coord2, htables, hbase2, hchans]⟩
    rw [hsame.1, hsame.2] at hcoord
    rw [hsame.1, hsref] at href
    exact ⟨_, by rw [hentered], hpos, hoffs', hknown, hcoord, href, hchans'.trans hchans, htables'.trans htables, htrack'.trans htrack⟩
  all_goals
    have hattributed : activeEdge m u = attributeEdge m u := by
      rw [activeEdge, if_neg (by rwa [hcert]), if_neg (by rw [hflag, htables, hmoving, hvalid]; nofun)]
    rw [hattributed]
  case spurious =>
    rw [attributeEdge_spurious (by rw [setLevel_edgeError, setLevel_edgeError]; exact hboth), countSpurious, hspurious]
    rfl
  all_goals
    rw [attributeEdge_single ((setLevel_edgeError m m true s x).trans he) ((setLevel_edgeError m m true s x.other).trans hother)]
  case rejects => rw [correct_rejects (by rwa [hcert]) hbig]
  case corrects => rw [correct_corrects (by rwa [hcert]) hsmall (by rwa [hoffs]) (by rwa [hoffs]), hoffs]
  case clamps =>
    intro t
    rw [correct_clamps hsmall (by rwa [hoffs]), setCertainty_uncertain (by rwa [hcert]), hoffs]
    exact congrArg (fun c => Host.Outcome.next (settle s (if c = Certainty.known then raiseAll .position t else t))) hcert

end Sys2Proof.Machine
end

section
/-! PROOFS. Turns on the track line (O32), the exchange (O33), calls and drives (O39). -/

namespace Sys2Proof.Machine

/-! ### Turns (R135, R139) -/

/-- The line is FREE and quiet, and nobody drives it. -/
def Track.vacant (t : Track) : Prop := t.phase = .free ∧ t.quiet = true ∧ t.othersDrive = false

theorem tryTurn_shut {s : State} (h : ¬s.track.vacant ∨ s.track.owed = none ∧ s.track.outOfTurn = []) : tryTurn s = s := by
  unfold tryTurn
  split
  next hopen =>
    have hidle := h.resolve_left fun k => k ⟨hopen.1, hopen.2.1, by simpa using hopen.2.2⟩
    simp [Track.nextTurnCar, hidle.1, hidle.2]
  next => rfl

theorem tryTurn_vacant {s : State} {x : Car} {o : Option Car} {l : List Car} (h : s.track.vacant) (hnext : s.track.nextTurnCar = some (x, o, l)) :
    tryTurn s = s.setTrack { s.track with
      phase := .select, quiet := false, unheard := false, owed := o, outOfTurn := l, turn := some ⟨x, (s.track.cars.get x).link.turnKind⟩
      acceptLimit := false, answerLimit := false, sent := .selection ⟨x, (s.track.cars.get x).link.turnKind⟩ } := by
  obtain ⟨hphase, hquiet, hdrive⟩ := h
  simp [tryTurn, hphase, hquiet, hdrive, hnext]

theorem turnKind_eq (l : Link) : l.turnKind = if l = .confirm ∨ l = .complete ∨ l = .check then .poll else .identify := by
  cases l <;> rfl

/-- Settles O32: the turn by what is owed, the timer and the quiet time by their one change. -/
theorem turnBeginsOnTheFreeLine : Obligations.TurnBeginsOnTheFreeLine := by
  intro s kind open_ selected
  have hkind : ∀ x, (s.track.cars.get x).link.turnKind = kind x := fun x => turnKind_eq _
  refine ⟨fun h => tryTurn_shut h, fun x l ho hl => ?_, fun x ho hl hx => ?_, fun h => ?_, fun h => ?_, fun h => if_pos ?_, fun h => ?_⟩
  · rw [tryTurn_vacant ho (by rw [Track.nextTurnCar, hl]), hkind]
  · rw [tryTurn_vacant ho (by rw [Track.nextTurnCar, hl, hx]), hkind]
  · show execPollTimerExpiry s = _
    simp only [execPollTimerExpiry, h]
    cases s.track.nextTurn <;> rfl
  · show execPollTimerExpiry s = _
    obtain ⟨x, hx⟩ := Option.ne_none_iff_exists'.mp h
    simp only [execPollTimerExpiry, hx]
  · exact h
  · exact if_neg (by rw [h]; nofun)

/-! ### The exchange (R136, R137) -/

theorem confirmDigest_eq (c : CarLink) :
    c.confirmDigest = match c.ability with | some r => if c.link = .confirm then r.digest else 0 | none => 0 := by
  unfold CarLink.confirmDigest
  cases c.ability <;> cases c.link <;> rfl

theorem commandBlock_railTest (s : State) (x : Car) :
    (s.commandBlock x).railTest = decide (s.trip.line = .testing (match x with | .a => .railA | .b => .railB)) := by
  unfold State.commandBlock
  cases s.trip.line with
  | testing k => cases k <;> cases x <;> rfl
  | _ => cases x <;> simp [LineState.isRail]

theorem commandBlock_eq (s : State) (x : Car) : s.commandBlock x = {
    car := x, line := s.trip.line, number := s.trip.number, dir := s.commandDir, next := s.nextBerth x
    release := ⟨(s.doors.get x).releaseSet .left, (s.doors.get x).releaseSet .right⟩, close := (s.doors.get x).close
    order := s.sup.railOrder.get x
    railTest := decide (s.trip.line = .testing (match x with | .a => .railA | .b => .railB))
    standstill := s.rope.flag, confirm := decide ((s.track.cars.get x).link = .confirm)
    digest := match (s.track.cars.get x).ability with | some r => if (s.track.cars.get x).link = .confirm then r.digest else 0 | none => 0 } := by
  have hconfirm : ((s.track.cars.get x).link == .confirm) = decide ((s.track.cars.get x).link = .confirm) := by
    cases (s.track.cars.get x).link <;> rfl
  rw [← commandBlock_railTest, ← hconfirm, ← confirmDigest_eq]
  rfl

theorem takeAccept_poll {x : Car} (s : State) : takeAccept ⟨x, .poll⟩ s = s.setTrack { s.track with
    phase := .command, acceptLimit := false, quiet := false, unheard := s.track.othersDrive, sent := .command (s.commandBlock x) } := rfl

theorem takeAccept_identify {x : Car} {s : State} (h : (s.track.cars.get x).link ≠ .down) : takeAccept ⟨x, .identify⟩ s =
    s.setTrack { s.track with phase := .status, acceptLimit := false, answerLimit := true, quiet := false } := if_neg h

/-- An ACCEPT in an IDENTIFY turn takes the link out of DOWN (R144). -/
theorem takeAccept_down {x : Car} {s : State} (h : (s.track.cars.get x).link = .down) : takeAccept ⟨x, .identify⟩ s =
    raiseAll .carLink (s.setTrack { s.track with
      phase := .status, acceptLimit := false, answerLimit := true, quiet := false
      cars := s.track.cars.set x { s.track.cars.get x with link := .listen, silence := true, refusals := 0 } }) := by
  have htaken : takeAccept ⟨x, .identify⟩ s = setLink x .listen ((s.setTrack { s.track with
      phase := .status, acceptLimit := false, answerLimit := true, quiet := false }).setCar x
        { s.track.cars.get x with silence := true, refusals := 0 }) := if_pos h
  rw [htaken, setLink_ne_down x .listen _ (by simp [h]) nofun]
  simp [linkMoved, CarLink.moved, h, Link.usable, State.setCar, State.setTrack]

theorem oneCharacter_waiting {x : Car} {k : TurnKind} {s : State} (hphase : s.track.phase = .select) (hlimit : s.track.acceptLimit = true)
    (hheard : s.track.unheard = false) (hturn : s.track.turn = some ⟨x, k⟩) :
    exec (.acceptReceived (lineChar x.acceptCode)) s = .next (settle s (takeAccept ⟨x, k⟩ s)) :=
  congrArg _ (oneCharacter_accept ⟨x, k⟩ s hphase (by simp [Track.hearsAccept, hlimit, hheard]) hturn)

theorem acceptChar_eq (x : Car) : (⟨match x with | .a => 0x61 | .b => 0x62, true, true⟩ : LineChar) = lineChar x.acceptCode := by
  cases x <;> decide

/-- Settles O33: the exchange by its phases, a character nobody awaits as a drive alone. -/
theorem exchangeAdvances : Obligations.ExchangeAdvances := by
  intro x s c accept waiting
  have hcode : accept = lineChar x.acceptCode := acceptChar_eq x
  refine ⟨fun hp hl => if_pos ⟨hp, by rw [hl]; rfl⟩, fun h => if_neg ?_, fun ⟨hp, hl, hu⟩ ht => ?_, fun ⟨hp, hl, hu⟩ ht hlink => ?_,
    fun ⟨hp, hl, hu⟩ ht hlink => ?_, fun ch hnot hfree => ?_, fun ch hfree hcall => ?_, fun h => if_pos h, fun h => if_neg h⟩
  · rintro ⟨hp, hl⟩
    rcases h with h | h
    · exact h hp
    · simp [h] at hl
  · have hexec := oneCharacter_waiting hp hl hu ht
    rw [takeAccept_poll, commandBlock_eq, ← hcode] at hexec
    exact hexec
  · rw [hcode, oneCharacter_waiting hp hl hu ht, takeAccept_identify hlink]
  · rw [hcode, oneCharacter_waiting hp hl hu ht, takeAccept_down hlink]
  · show Host.Outcome.next (oneCharacter ch s) = _
    have hunheard : oneCharacter ch s = unquiet s := by
      by_cases hp : s.track.phase = .select
      · refine oneCharacter_unheard ch s hfree (Bool.eq_false_iff.mpr fun hears => hnot ?_)
        simpa [Track.hearsAccept, hp, waiting] using hears
      · unfold oneCharacter
        split <;> simp_all
    rw [hunheard]
    rfl
  · show Host.Outcome.next (oneCharacter ch s) = _
    rw [oneCharacter_free ch s hfree, hcall]
    rfl

/-! ### Calls and drives of others (R140 to R142) -/

theorem callChar_eq (x : Car) : (⟨match x with | .a => 0x71 | .b => 0x72, false, true⟩ : LineChar) = lineChar x.callCode := by
  cases x <;> decide

theorem callOf_lineChar (x : Car) : callOf (lineChar x.callCode) = some x := (callOf_eq_some _ x).mpr rfl

theorem exec_callReceived (c : LineChar) (s : State) : exec (.callReceived c) s = .next (oneCharacter c s) := rfl

theorem oneCharacter_call {s : State} (x : Car) (h : s.track.phase = .free) :
    oneCharacter (lineChar x.callCode) s = takeCall x (unquiet s) := by
  rw [oneCharacter_free _ s h, callOf_lineChar]

/-- A call in any other phase is a drive alone: where an ACCEPT is awaited it is no answer. -/
theorem oneCharacter_callOther {s : State} (x : Car) (h : s.track.phase ≠ .free) : oneCharacter (lineChar x.callCode) s = unquiet s := by
  have hnone : acceptOf (lineChar x.callCode) = none := by cases x <;> decide
  unfold oneCharacter
  split
  · exact absurd ‹_› h
  · simp [hnone, callOf_lineChar]
  · rfl

theorem takeCall_counted {x : Car} {s : State} (h : (s.track.cars.get x).window = true) :
    takeCall x s = s.setCar x { s.track.cars.get x with calls := min 255 ((s.track.cars.get x).calls + 1) } := if_pos h

theorem takeCall_owed {x : Car} {s : State} (h : (s.track.cars.get x).window = false) : takeCall x s = s.setTrack { s.track with
    cars := s.track.cars.set x { s.track.cars.get x with window := true }
    outOfTurn := if x ∈ s.track.outOfTurn then s.track.outOfTurn else s.track.outOfTurn ++ [x] } := by
  simp [takeCall, h, State.setCar, State.setTrack]

theorem takeCall_track (x : Car) (s : State) : (takeCall x s).track.phase = s.track.phase ∧ (takeCall x s).track.quiet = s.track.quiet := by
  obtain ⟨c, l, e⟩ := takeCall_frame x s
  rw [e]
  exact ⟨rfl, rfl⟩

theorem unquiet_same {s : State} (h : s.track.quiet = false) : unquiet s = s := by
  unfold unquiet
  rw [← h]
  rfl

/-- A garbled call is a call from car A, then one from car B (R141). -/
theorem garbledCall_calls (s : State) :
    exec .garbledCall s = runCommands [.callReceived (lineChar Car.a.callCode), .callReceived (lineChar Car.b.callCode)] s := by
  have hgarbled : exec .garbledCall s = .next (strayDrive s) := rfl
  have hrun : ∀ t u, oneCharacter (lineChar Car.a.callCode) s = t → oneCharacter (lineChar Car.b.callCode) t = u →
      runCommands [.callReceived (lineChar Car.a.callCode), .callReceived (lineChar Car.b.callCode)] s = .next u := by
    rintro _ _ rfl rfl
    rfl
  rw [hgarbled, strayDrive_eq]
  by_cases h : s.track.phase = .free
  · rw [if_pos h, hrun _ (takeCall .b (takeCall .a (unquiet s))) (oneCharacter_call .a h)]
    obtain ⟨hphase, hquiet⟩ := takeCall_track .a (unquiet s)
    rw [oneCharacter_call .b (by rw [hphase]; exact h), unquiet_same (by rw [hquiet]; rfl)]
  · rw [if_neg h, hrun _ (unquiet s) (oneCharacter_callOther .a h)]
    rw [oneCharacter_callOther .b (by exact h), unquiet_same (by rfl)]

/-! ### A trip cause reads nothing of the track line but the leaves present -/

section
variable (v : Track) (s : State)

theorem setTrack_ite {c : Prop} [Decidable c] (a b : State) :
    (if c then a else b).setTrack v = if c then a.setTrack v else b.setTrack v := apply_ite (fun t : State => t.setTrack v) c a b

theorem setEb_setTrack (b : Bool) : setEb b (s.setTrack v) = (setEb b s).setTrack v := by
  unfold setEb
  rw [setTrack_ite]
  rfl

theorem armRollaway_setTrack : armRollaway (s.setTrack v) = (armRollaway s).setTrack v := by
  unfold armRollaway
  rw [setTrack_ite]
  rfl

theorem setSb_off_setTrack : setSb false (s.setTrack v) = (setSb false s).setTrack v := by
  by_cases h : s.sup.sbRel = false
  · rw [setSb_same h, setSb_same (by exact h)]
  · have hoff : ∀ t : State, t.sup.sbRel ≠ false → setSb false t = armRollaway { t with
        sup := { t.sup with sbRel := false, sbLimit := t.sup.sbFb != false, dirWatch := none } } := fun t ht => if_neg ht
    rw [hoff s h, hoff (s.setTrack v) h, ← armRollaway_setTrack]
    rfl

theorem setDrv_off_setTrack : setDrv false (s.setTrack v) = (setDrv false s).setTrack v := by
  unfold setDrv
  rw [setTrack_ite]
  rfl

theorem enterLine_setTrack (l : LineState) : enterLine l (s.setTrack v) = (enterLine l s).setTrack v := by
  have hlinks : (enterLine l (s.setTrack v)).links = ((enterLine l s).setTrack v).links :=
    (enterLine_links l (s.setTrack v)).trans (enterLine_links l s).symm
  refine State.eq_of_blocks ?_ ?_ ?_ ?_ ?_ ?_ ?_ ?_ hlinks ?_ <;> simp

theorem clearTestOrder_setTrack (x : Car) : clearTestOrder x (s.setTrack v) = (clearTestOrder x s).setTrack v := by
  unfold clearTestOrder
  rw [setTrack_ite, setTrack_ite]
  rfl

theorem endTestAtTrip_setTrack : endTestAtTrip (s.setTrack v) = (endTestAtTrip s).setTrack v := by
  unfold endTestAtTrip
  rw [State.setTrack_sched]
  split
  · dsimp only
    rw [← clearTestOrder_setTrack, ← clearTestOrder_setTrack]
    split <;> rfl
  · rfl

theorem tripLine_setTrack (e : CauseEntry) : tripLine e (s.setTrack v) = (tripLine e s).setTrack v := by
  have hdown : setDrv false (setSb false (setEb false (s.setTrack v))) = (setDrv false (setSb false (setEb false s))).setTrack v := by
    rw [setEb_setTrack, setSb_off_setTrack, setDrv_off_setTrack]
  have hcontrolled : tripController (forceZero ((setDrv false (setSb false (setEb false s))).setTrack v)) =
      (tripController (forceZero (setDrv false (setSb false (setEb false s))))).setTrack v := rfl
  unfold tripLine
  dsimp only
  rw [hdown, hcontrolled, endTestAtTrip_setTrack, enterLine_setTrack]
  generalize enterLine .tripped (endTestAtTrip (tripController (forceZero (setDrv false (setSb false (setEb false s)))))) = t
  exact congrArg (fun u => moveAllBerths (raiseAll .trip u)) (armRollaway_setTrack v (restartFeedback
    { t with sup := { t.sup with causes := [e], tripCount := satAdd 255 t.sup.tripCount 1 } }))

theorem listCause_setTrack (e : CauseEntry) : listCause e (s.setTrack v) = (listCause e s).setTrack v := by
  unfold listCause
  rw [setTrack_ite, setTrack_ite, setTrack_ite]
  rfl

theorem causeListed_setTrack (e : CauseEntry) (c : Cause) :
    causeListed e (causeOrders c (s.setTrack v)) = (causeListed e (causeOrders c s)).setTrack v := by
  have horders : causeOrders c (s.setTrack v) = (causeOrders c s).setTrack v := by
    unfold causeOrders
    rw [setTrack_ite]
    rfl
  rw [horders]
  unfold causeListed
  rw [setTrack_ite, tripLine_setTrack, listCause_setTrack]
  rfl

/-- What a trip cause leaves of the outputs and the line record does not depend on the track line. -/
theorem takeCause_setTrack (c : Cause) (p : Option Port) : (takeCause c p (s.setTrack v)).sup = (takeCause c p s).sup ∧
    (takeCause c p (s.setTrack v)).trip = (takeCause c p s).trip := by
  obtain ⟨htrip, hsup, -⟩ := takeCause_blocks c p s
  obtain ⟨htrip', hsup', -⟩ := takeCause_blocks c p (s.setTrack v)
  rw [htrip, hsup, htrip', hsup', causeListed_setTrack]
  exact ⟨rfl, rfl⟩

end

/-! ### Jams (R142) -/

/-- The track line jammed, with the jam counted and no turn in hand. -/
def Track.jam (t : Track) : Track :=
  { t with driveLimit := false, phase := .jammed, turn := none, acceptLimit := false, answerLimit := false, jams := min 255 (t.jams + 1) }

theorem exec_driveLimit_jams {s : State} (hlimit : s.track.driveLimit = true) (hphase : s.track.phase ≠ .jammed) :
    exec .driveLimitExpiry s =
      .next (settle s (withdrawAll (causeIf s.lossTrips .trackLineJammed (s.setTrack s.track.jam)))) := by
  show execDriveLimitExpiry s = _
  rw [execDriveLimitExpiry, if_neg (by simp [hlimit])]
  exact if_neg hphase

/-- Settles O39: calls by the car's window, drives by the flag of an unheard beginning, the jam by the trip cause it may take. -/
theorem callsAndDrivesOfOthers : Obligations.CallsAndDrivesOfOthers := by
  refine ⟨fun x s => ?calls, fun s => ?drives⟩
  case calls =>
    intro c call
    have hcode : call = lineChar x.callCode := callChar_eq x
    refine ⟨fun hfree hw => ?_, fun hfree hw => ?_, fun hfree => ?_, garbledCall_calls s, fun ch hfree hnone => ?_, fun ch y => ?_, rfl⟩
    · rw [hcode, exec_callReceived, oneCharacter_call x hfree, takeCall_owed (by exact hw)]
      rfl
    · rw [hcode, exec_callReceived, oneCharacter_call x hfree, takeCall_counted (by exact hw)]
      rfl
    · rw [hcode, exec_callReceived, oneCharacter_callOther x hfree]
      rfl
    · have hcall : callOf ch = none := Option.eq_none_iff_forall_ne_some.mpr hnone
      rw [exec_callReceived, oneCharacter_free ch s hfree, hcall]
      rfl
    · have hcall := callOf_eq_some ch y
      rw [← callChar_eq] at hcall
      exact hcall
  case drives =>
    refine ⟨fun h => ?_, fun h => if_pos h, rfl, fun h => ?_, fun h => if_pos (by rw [h]; rfl), fun hl hp => ?_, fun hl hp => ?_⟩
    · have hdrives : s.track.partDrives = decide (s.track.phase = .command ∨ s.track.phase = .select ∧ s.track.acceptLimit = false) := by
        unfold Track.partDrives
        cases s.track.phase <;> simp
      rw [← hdrives]
      exact if_neg (by rw [h]; nofun)
    · intro early
      refine ⟨fun ch hp hl l hmem => ?_, fun chars hp l hmem => ?_⟩
      · rcases List.mem_pair.mp hmem with rfl | rfl <;>
          simp [runCommands, exec, execTrackDriveStart, execSelectionSent, execAcceptReceived, execTrackDriveEnd, oneCharacter, Track.hearsAccept,
            Track.partDrives, unquiet, State.setTrack, early, h, hp, hl]
      · rcases List.mem_pair.mp hmem with rfl | rfl <;>
          simp [runCommands, exec, execTrackDriveStart, execCommandBlockSent, execStatusBlockReceived, execTrackDriveEnd, strayDrive,
            Track.hearsAnswer, Track.partDrives, unquiet, State.setTrack, early, h, hp]
    · show execDriveLimitExpiry s = _
      rw [execDriveLimitExpiry, if_neg (by simp [hl])]
      exact if_pos hp
    · refine ⟨_, exec_driveLimit_jams hl hp, by simp [Track.jam], by simp, by simp, by simp, ?_, fun hloss => ?_, fun hloss => ?_⟩
      · rw [(withdrawAll_board _).1, causeIf]
        split
        · exact (takeCause_keeps _ _ _).2
        · rfl
      · obtain ⟨hsup, htrip⟩ := takeCause_setTrack s.track.jam s .trackLineJammed none
        rw [hloss, causeIf, if_pos rfl]
        simp only [withdrawAll_frame]
        exact ⟨hsup, htrip⟩
      · rw [hloss]
        simp [causeIf]

end Sys2Proof.Machine
end

section
/-! PROOFS. The silence limit (O40), missed answers (O34), ability records (O38). -/

namespace Sys2Proof.Machine

/-! ### A trip cause clears no notice (R213) -/

theorem enterLine_flag_keeps (l : LineState) (s : State) {q : Port} {k : Nat} (h : (s.links.get q).flags.getLsbD k = true) :
    ((enterLine l s).links.get q).flags.getLsbD k = true := by
  rw [enterLine_links]
  split
  · rw [PerPort.get_map]
    exact raise_keeps _ _ _ h
  · exact h

theorem tripLine_flag_keeps (e : CauseEntry) {s : State} {q : Port} {k : Nat} (h : (s.links.get q).flags.getLsbD k = true) :
    ((tripLine e s).links.get q).flags.getLsbD k = true := by
  have hcontrolled : ((tripController (forceZero (setDrv false (setSb false (setEb false s))))).links.get q).flags.getLsbD k = true := by
    simpa [tripController, setDrv_off_trip_eq, -setDrv_off_trip] using h
  have hlinks : (tripLine e s).links =
      (enterLine .tripped (endTestAtTrip (tripController (forceZero (setDrv false (setSb false (setEb false s))))))).links.map
        fun p => p.raise .trip := by
    simp [tripLine, restartFeedback]
  rw [hlinks, PerPort.get_map]
  exact raise_keeps _ _ _ (enterLine_flag_keeps _ _ (endTestAtTrip_flags _ q k hcontrolled))

theorem listCause_flag_keeps (e : CauseEntry) {s : State} {q : Port} {k : Nat} (h : (s.links.get q).flags.getLsbD k = true) :
    ((listCause e s).links.get q).flags.getLsbD k = true := by
  unfold listCause
  split
  · exact h
  · split
    · exact (raiseAll_flag _ _ q k).mpr (.inl h)
    · split
      · exact h
      · exact (raiseAll_flag _ _ q k).mpr (.inl h)

theorem takeCause_flag_keeps (c : Cause) (p : Option Port) {s : State} {q : Port} {k : Nat} (h : (s.links.get q).flags.getLsbD k = true) :
    ((takeCause c p s).links.get q).flags.getLsbD k = true := by
  have horders : ((causeOrders c s).links.get q).flags.getLsbD k = true := by
    cases hc : c.setsOrders <;> simpa [causeOrders, orderTrip, hc] using h
  obtain ⟨-, -, -, hlinks⟩ := takeCause_blocks c p s
  rw [hlinks]
  unfold causeListed
  split
  · exact tripLine_flag_keeps _ horders
  · exact listCause_flag_keeps _ horders

/-! ### Silence and freshness (R149, R154) -/

theorem withdrawCar_doors (x : Car) (s : State) :
    (withdrawCar x s).doors = s.doors.set x (((s.doors.get x).dropGrant .left).dropGrant .right) := by
  simp [withdrawCar, withdraw_doors]

theorem withdrawCar_board_cars (x : Car) (s : State) : (withdrawCar x s).board.cars = s.board.cars :=
  (withdraw_board x .right _).1.trans (withdraw_board x .left s).1

theorem linkMoved_board_cars (x : Car) (l : Link) (s : State) : (linkMoved x l s).board.cars = s.board.cars := by
  unfold linkMoved
  dsimp only
  split
  · rw [withdrawCar_board_cars]
    simp
  · simp

theorem linkMoved_links (x : Car) (l : Link) (s : State) : (linkMoved x l s).links = (raiseAll .carLink s).links := by
  unfold linkMoved
  dsimp only
  split <;> simp

theorem linkMoved_stale {x : Car} {l : Link} {s : State} (hx : (s.track.cars.get x).link.usable = true) (hl : l.usable = false) :
    ((linkMoved x l s).doors.get x).anyGrant = false := by
  unfold linkMoved
  dsimp only
  rw [if_pos (by simp [hx, hl]), withdrawCar_doors, PerCar.get_set_same]
  exact dropBoth_anyGrant _

/-- A car lost: its link DOWN with the silence limit stopped, and the trip that a loss may be (R106). -/
theorem setLink_down {x : Car} {s : State} (h : (s.track.cars.get x).link ≠ .down) :
    setLink x .down s = causeIf s.lossTrips .carLinkLost (linkMoved x .down s) := by
  have hloss : (linkMoved x .down s).lossTrips = s.lossTrips := by simp [State.lossTrips]
  rw [setLink_eq, if_neg h, hloss, causeIf]
  simp

theorem loseCar_kept {x : Car} {s : State} (h : (s.track.cars.get x).link = .mismatch ∨ (s.track.cars.get x).link = .down) :
    loseCar x s = s.setCar x { s.track.cars.get x with silence := false } := by
  rcases h with h | h
  · simp [loseCar, h]
  · have hlost : loseCar x s = setLink x .down (s.setCar x { s.track.cars.get x with silence := false }) := by simp [loseCar, h]
    rw [hlost, setLink_same _ _ _ (by simpa using h)]

theorem loseCar_down {x : Car} {s : State} (hmismatch : (s.track.cars.get x).link ≠ .mismatch) (hdown : (s.track.cars.get x).link ≠ .down) :
    loseCar x s = causeIf s.lossTrips .carLinkLost (linkMoved x .down (s.setCar x { s.track.cars.get x with silence := false })) := by
  have hlost : loseCar x s = setLink x .down (s.setCar x { s.track.cars.get x with silence := false }) := by
    unfold loseCar
    dsimp only
    split
    · exact absurd ‹_› hmismatch
    · rfl
  rw [hlost, setLink_down (by simpa using hdown)]
  rfl

/-- Settles O40: a lost car is its link moved to DOWN, with the trip cause that the loss may be. -/
theorem silenceTakesTheLinkDown : Obligations.SilenceTakesTheLinkDown := by
  intro x s c
  refine ⟨fun h => if_neg (by rw [h]; nofun), fun h hlink => ?_, fun h hmismatch hdown => ?_, rfl⟩
  · show execSilenceLimitExpiry x s = _
    rw [execSilenceLimitExpiry, if_pos h, loseCar_kept hlink]
    rfl
  · have hexec : exec (.silenceLimitExpiry x) s = .next (settle s (loseCar x s)) := if_pos h
    have hmoved := loseCar_down hmismatch hdown
    set u := linkMoved x .down (s.setCar x { s.track.cars.get x with silence := false }) with hu
    have hflag : ∀ q, (u.links.get q).flags.getLsbD 14 = true := fun q => by
      rw [hu, linkMoved_links]
      exact (raiseAll_flag _ _ q 14).mpr (.inr rfl)
    have hgrants : ∀ {v : State}, v.anyGrant = false → (v.doors.get x).anyGrant = false := fun {v} hv =>
      (CarDoors.anyGrant_eq_false _).mpr fun d => (State.anyGrant_eq_false v).mp hv x d
    refine ⟨loseCar x s, hexec, ?_, fun hus => ?_, fun q => ?_, fun hloss hnone hline => ?_, fun hloss => ?_, ?_, ?_, ?_⟩
    all_goals rw [hmoved]
    · simp [hu, CarLink.moved, State.setCar, c]
    · cases hloss : s.lossTrips
      · exact linkMoved_stale (by simpa using hus) rfl
      · exact hgrants (takeCause_anyGrant _ _ _)
    · cases hloss : s.lossTrips
      · exact hflag q
      · exact takeCause_flag_keeps _ _ (hflag q)
    · have hcauses : u.sup.causes = [] := by simpa [hu] using hnone
      rw [hloss]
      refine ⟨(takeCause_trips .carLinkLost none hcauses (by simpa [hu] using hline)).line, ?_, takeCause_anyGrant _ _ _⟩
      have hlisted := takeCause_causes .carLinkLost none (s := u) (by simp [hcauses])
      simpa [causeIf, Listed, hcauses] using hlisted
    · rw [hloss]
      simp [causeIf, hu]
    · simp [hu]
    · simp [hu]
    · have hcars : u.board.cars = s.board.cars := linkMoved_board_cars _ _ _
      unfold causeIf
      split
      · rw [(takeCause_keeps _ _ _).2, hcars]
      · exact hcars

/-! ### Missed answers (R138, R148) -/

theorem soundChar_damaged (c : LineChar) :
    soundChar c = false ↔ c.stop = false ∨ ((byteBits c.data ++ [c.parity]).filter id).length % 2 = 1 := by
  have hodd : ((byteBits c.data ++ [c.parity]).filter id).length = ones (byteBits c.data) + (if c.parity then 1 else 0) := by
    cases hp : c.parity <;> simp [ones]
  obtain ⟨data, parity, stop⟩ := c
  rw [hodd]
  cases stop
  · simp [soundChar]
  · cases parity
    · simp [soundChar]
    · simp [soundChar]
      omega

theorem readStatus_damaged {x : Car} {l : List LineChar}
    (h : (∃ c ∈ l, soundChar c = false) ∨ parseStatus x (l.map LineChar.data) = none) : readStatus x l = none := by
  rcases h with h | h
  · simp [readStatus, soundBytes_none l h]
  · unfold readStatus soundBytes
    split
    · exact h
    · rfl

theorem readAbility_damaged {x : Car} {l : List LineChar}
    (h : (∃ c ∈ l, soundChar c = false) ∨ parseAbility x (l.map LineChar.data) = none) : readAbility x l = none := by
  rcases h with h | h
  · simp [readAbility, soundBytes_none l h]
  · unfold readAbility soundBytes
    split
    · exact h
    · rfl

/-- A missed answer of the turn in hand, its change of the car's record made at once (R138, R148). -/
theorem missAnswer_eq {t : Turn} {s : State} (h : s.track.turn = some t) : missAnswer s =
    (let c := s.track.cars.get t.car
     let counted := if t.kind = .identify ∧ c.link = .down ∧ s.track.phase = .select then c
      else if c.missed < 65535 then { c with missed := c.missed + 1 } else { c with missedOverflow := true }
     let ended := s.setTrack { s.track with
      phase := .free, turn := none, acceptLimit := false, answerLimit := false
      cars := s.track.cars.set t.car (if t.kind = .poll ∧ c.link = .complete then { counted with link := .check } else counted) }
     if t.kind = .poll ∧ c.link = .complete then raiseAll .carLink ended else ended) := by
  unfold missAnswer
  rw [h]
  dsimp only
  split
  next hcheck =>
    obtain ⟨hkind, hlink⟩ := hcheck
    have hloud : ¬(t.kind = .identify ∧ (s.track.cars.get t.car).link = .down ∧ s.track.phase = .select) := fun k => by simp [hlink] at k
    have hcounted : ((s.track.cars.get t.car).countMissed).link = .complete := by
      unfold CarLink.countMissed
      split <;> exact hlink
    rw [if_neg hloud, if_neg hloud, setLink_ne_down t.car .check _ (by simp [endTurn, hcounted]) nofun]
    simp [linkMoved, CarLink.moved, endTurn, State.setTrack, State.setCar, Link.usable, CarLink.countMissed]
  next =>
    split
    · simp [endTurn, State.setTrack]
    · rfl

theorem missAnswer_quiet {t : Turn} {s : State} (h : s.track.turn = some t) : (missAnswer s).track.quiet = s.track.quiet := by
  rw [missAnswer_eq h]
  dsimp only
  split <;> simp

theorem hears_of_waiting {s : State} (h : s.track.phase = .select ∧ s.track.acceptLimit = true ∧ s.track.unheard = false) :
    s.track.hearsAccept = true := by
  simp [Track.hearsAccept, h]

theorem oneCharacter_invalid {t : Turn} {c : LineChar} {s : State}
    (hw : s.track.phase = .select ∧ s.track.acceptLimit = true ∧ s.track.unheard = false) (ht : s.track.turn = some t)
    (haccept : acceptOf c ≠ some t.car) (hcall : callOf c = none) : oneCharacter c s = missEvent (unquiet s) := by
  simp [oneCharacter, hw.1, hears_of_waiting hw, ht, haccept, hcall]

/-- A transmission of an answer's length that is no answer (R138). -/
theorem statusBlock_invalid {x : Car} {l : List LineChar} {s : State} (hears : s.track.hearsAnswer = true)
    (ht : s.track.turn = some ⟨x, .poll⟩) (hread : readStatus x l = none) :
    exec (.statusBlockReceived l) s = .next (missEvent (unquiet s)) := by
  show execStatusBlockReceived l s = _
  simp [execStatusBlockReceived, hears, ht, hread]

theorem abilityRecord_invalid {x : Car} {l : List LineChar} {s : State} (hears : s.track.hearsAnswer = true)
    (ht : s.track.turn = some ⟨x, .identify⟩) (hread : readAbility x l = none) :
    exec (.abilityRecordReceived l) s = .next (missEvent (unquiet s)) := by
  show execAbilityRecordReceived l s = _
  simp [execAbilityRecordReceived, hears, ht, hread]

/-- An answer in a drive that is not heard is a drive alone outside FREE (R136). -/
theorem unheard_answers {s : State} (hu : s.track.unheard = true) (hp : s.track.phase ≠ .free) {i : Instr} {c : LineChar} {l : List LineChar}
    (hi : i = .invalidAnswerReceived ∨ i = .acceptReceived c ∨ i = .statusBlockReceived l ∨ i = .abilityRecordReceived l) :
    exec i s = .next (unquiet s) := by
  have hstray : strayDrive s = unquiet s := by rw [strayDrive_eq, if_neg hp]
  have haccept : s.track.hearsAccept = false := by simp [Track.hearsAccept, hu]
  have hanswer : s.track.hearsAnswer = false := by simp [Track.hearsAnswer, hu]
  rcases hi with rfl | rfl | rfl | rfl
  · show execInvalidAnswerReceived s = _
    simp [execInvalidAnswerReceived, haccept, hanswer, hstray]
  · exact congrArg _ (oneCharacter_unheard c s hp haccept)
  · show execStatusBlockReceived l s = _
    simp [execStatusBlockReceived, hanswer, hstray]
  · show execAbilityRecordReceived l s = _
    simp [execAbilityRecordReceived, hanswer, hstray]

/-- Settles O34: every form of a missed or invalid answer is the miss of the turn in hand. -/
theorem missedAnswerEndsTheTurn : Obligations.MissedAnswerEndsTheTurn := by
  intro t s ht c counted toCheck ended missed invalid damaged accepting awaiting
  have hmiss : missEvent s = missed s.track.quiet := by
    rw [missEvent, missAnswer_eq ht]
  have hinvalid : missEvent (unquiet s) = invalid := by
    have hquiet : (missAnswer (unquiet s)).track.quiet = false := missAnswer_quiet (t := t) ht
    rw [missEvent, tryTurn_shut (.inl fun ⟨_, h, _⟩ => by simp [hquiet] at h), missAnswer_eq (s := unquiet s) ht]
    rfl
  have hdamaged : ∀ l, damaged l ↔ ∃ ch ∈ l, soundChar ch = false := fun l => by simp only [damaged, soundChar_damaged]
  have hears : awaiting → s.track.hearsAnswer = true := fun ⟨hl, hu⟩ => by simp [Track.hearsAnswer, hl, hu]
  refine ⟨fun h => ?_, fun h => ?_, fun h => ?_, fun ch hw h => ?_, fun l hw hk h => ?_, fun l hw hk h => ?_, fun h => if_neg (by rw [h]; nofun),
    fun h => if_neg (by rw [h]; nofun), fun hu hp i ch l hi => unheard_answers hu hp hi⟩
  · exact (if_pos h).trans (congrArg _ hmiss)
  · exact (if_pos h).trans (congrArg _ hmiss)
  · have hany : (s.track.hearsAccept || s.track.hearsAnswer) = true := by
      rcases h with h | h
      · simp [hears_of_waiting h]
      · simp [hears h]
    exact (if_pos hany).trans (congrArg _ hinvalid)
  · have hnone : acceptOf ch ≠ some t.car ∧ callOf ch = none := by
      rcases h with h | ⟨haccept, hcalls⟩
      · obtain ⟨_, hmem, hbad⟩ := (hdamaged _).mp h
        obtain rfl := List.mem_singleton.mp hmem
        simp [acceptOf, callOf, hbad]
      · refine ⟨fun e => haccept ?_, Option.eq_none_iff_forall_ne_some.mpr fun y e => ?_⟩
        · rw [(acceptOf_eq_some ch _).mp e, lineChar_data]
        · obtain rfl := (callOf_eq_some ch y).mp e
          cases y
          · exact hcalls.1 rfl
          · exact hcalls.2 rfl
    exact congrArg _ ((oneCharacter_invalid hw ht hnone.1 hnone.2).trans hinvalid)
  · have hturn : s.track.turn = some ⟨t.car, .poll⟩ := by rw [ht, ← hk]
    rw [statusBlock_invalid (hears hw) hturn (readStatus_damaged (h.imp_left (hdamaged l).mp)), hinvalid]
  · have hturn : s.track.turn = some ⟨t.car, .identify⟩ := by rw [ht, ← hk]
    rw [abilityRecord_invalid (hears hw) hturn (readAbility_damaged (h.imp_left (hdamaged l).mp)), hinvalid]

/-! ### Ability records (R145, R146) -/

/-- The car's link record after its ability record (R145, R146): the record compared where the link was in LISTEN. -/
def abilityLink (tables : Tables) (x : Car) (r : Ability) (c : CarLink) : CarLink :=
  let kept := { c with reported := some r, silence := if c.link = .down then c.silence else true }
  if c.link = .listen then
    if tables.valid then
      if tables.expected x = some r then { kept with link := .confirm, ability := some r, refusals := 0 } else { kept with link := .mismatch }
    else { kept with link := .ability }
  else kept

/-- The record is compared and agrees with the expected one. -/
def abilityAgrees (tables : Tables) (x : Car) (r : Ability) (c : CarLink) : Prop :=
  c.link = .listen ∧ tables.valid = true ∧ tables.expected x = some r

theorem linkMoved_unusable {x : Car} {l : Link} {s : State} (h : (s.track.cars.get x).link.usable = false) :
    linkMoved x l s = raiseAll .carLink (s.setCar x ((s.track.cars.get x).moved l)) := by
  simp [linkMoved, h]

/-- An ability record in LISTEN puts the link into ABILITY and compares it there (R145). -/
theorem takeAbility_listen {x : Car} {r : Ability} {s : State} (h : (s.track.cars.get x).link = .listen) :
    takeAbility x r s = compareAbility x (raiseAll .carLink (s.setCar x
      { s.track.cars.get x with reported := some r, silence := true, link := .ability })) := by
  have hset : takeAbility x r s = compareAbility x (setLink x .ability (s.setCar x { s.track.cars.get x with
      reported := some r, silence := true })) := by simp [takeAbility, h]
  rw [hset, setLink_ne_down x .ability _ (by simp [h]) nofun, linkMoved_unusable (by simp [h, Link.usable])]
  simp [CarLink.moved, State.setCar]

/-- What a comparison in ABILITY leaves (R146). -/
theorem compareAbility_ability {x : Car} {r : Ability} {s : State} (hlink : (s.track.cars.get x).link = .ability)
    (hreported : (s.track.cars.get x).reported = some r) : compareAbility x s =
    if s.tables.valid then
      if s.tables.expected x = some r then
        layoutLeaves x r (raiseAll .carLink (s.setCar x { s.track.cars.get x with link := .confirm, ability := some r, refusals := 0 }))
      else raiseAll .carLink (s.setCar x { s.track.cars.get x with link := .mismatch })
    else s := by
  have hunusable : (s.track.cars.get x).link.usable = false := by rw [hlink]; rfl
  unfold compareAbility
  cases hvalid : s.tables.valid
  · simp
  · simp only [hlink, hreported, and_self, if_true]
    split
    · rw [setLink_ne_down x .confirm _ (by simp [hlink]) nofun, linkMoved_unusable hunusable]
      simp [CarLink.moved, State.setCar, raiseAll, hreported]
    · rw [setLink_ne_down x .mismatch _ (by simp [hlink]) nofun, linkMoved_unusable hunusable]
      simp [CarLink.moved, State.setCar, hreported]

theorem takeAbility_track (x : Car) (r : Ability) (s : State) :
    (takeAbility x r s).track = { s.track with cars := s.track.cars.set x (abilityLink s.tables x r (s.track.cars.get x)) } := by
  by_cases h : (s.track.cars.get x).link = .listen
  · rw [takeAbility_listen h, compareAbility_ability (r := r) (by simp) (by simp)]
    cases hvalid : s.tables.valid
    · simp [abilityLink, h, hvalid, State.setCar]
    · by_cases he : s.tables.expected x = some r <;> simp [abilityLink, h, hvalid, he, State.setCar, layoutLeaves]
  · simp [takeAbility, abilityLink, h, State.setCar]

theorem takeAbility_leaves (x : Car) (r : Ability) (s : State) :
    (abilityAgrees s.tables x r (s.track.cars.get x) →
      ((takeAbility x r s).doors.get x).leaves = ⟨layoutSide r.left, layoutSide r.right⟩) ∧
    (¬abilityAgrees s.tables x r (s.track.cars.get x) → (takeAbility x r s).doors = s.doors) ∧
    (takeAbility x r s).sup = s.sup ∧ (takeAbility x r s).tables = s.tables ∧ (takeAbility x r s).now = s.now := by
  by_cases h : (s.track.cars.get x).link = .listen
  · rw [takeAbility_listen h, compareAbility_ability (r := r) (by simp) (by simp)]
    cases hvalid : s.tables.valid
    · simp [abilityAgrees, hvalid]
    · by_cases he : s.tables.expected x = some r <;> simp [abilityAgrees, h, hvalid, he, layoutLeaves]
  · simp [takeAbility, abilityAgrees, h]

/-- Settles O38: the record's link and leaves are the comparison's, kept by the steps that follow. -/
theorem abilityRecordIsCompared : Obligations.AbilityRecordIsCompared := by
  intro x r l s hlimit hheard hturn hparse
  set u := endTurn (takeAbility x r (unquiet s)) with hu
  have htrack := takeAbility_track x r (unquiet s)
  obtain ⟨hagreed, hkept, hsup, htables, hnow⟩ := takeAbility_leaves x r (unquiet s)
  have hcars : u.track = { s.track with
      quiet := false, cars := s.track.cars.set x (abilityLink s.tables x r (s.track.cars.get x)), phase := .free, turn := none
      acceptLimit := false, answerLimit := false } := by
    rw [hu, endTurn, State.setTrack, htrack]
    rfl
  have hshut : tryTurn u = u := tryTurn_shut (.inl fun ⟨_, hquiet, _⟩ => by simp [hcars] at hquiet)
  have hexec : exec (.abilityRecordReceived (l.map lineChar)) s = .next (settle s u) := by
    show execAbilityRecordReceived (l.map lineChar) s = _
    simp only [execAbilityRecordReceived, Track.hearsAnswer, hlimit, hheard, hturn, readAbility_lineChar, hparse, Bool.not_false, Bool.and_self]
    rw [← hu, hshut]
  have hframe : SeqFrame u (settle s u) := settle_seqFrame s u
  refine ⟨settle s u, hexec, ?_⟩
  intro c v matched
  have hv : v = abilityLink s.tables x r c := by simp [v, hcars, c]
  have hleaves : ((settle s u).doors.get x).leaves = ((takeAbility x r (unquiet s)).doors.get x).leaves := hframe.leaves x
  have hmatched : matched ↔ abilityAgrees s.tables x r c := Iff.rfl
  have hlinked : v.link = (if c.link = .listen then
      (if s.tables.valid then (if s.tables.expected x = some r then .confirm else .mismatch) else .ability) else c.link) := by
    rw [hv, abilityLink]
    split
    · split
      · split <;> rfl
      · rfl
    · rfl
  have hfields : v.reported = some r ∧ v.silence = (if c.link = .down then c.silence else true) ∧
      (v.block, v.baselines, v.fresh, v.missed, v.calls, v.window) = (c.block, c.baselines, c.fresh, c.missed, c.calls, c.window) ∧
      (¬abilityAgrees s.tables x r c → v.ability = c.ability ∧ v.refusals = c.refusals) := by
    rw [hv, abilityLink]
    split
    · split
      · split
        · exact ⟨rfl, rfl, rfl, fun h => absurd ⟨‹_›, ‹_›, ‹_›⟩ h⟩
        · exact ⟨rfl, rfl, rfl, fun _ => ⟨rfl, rfl⟩⟩
      · exact ⟨rfl, rfl, rfl, fun _ => ⟨rfl, rfl⟩⟩
    · exact ⟨rfl, rfl, rfl, fun _ => ⟨rfl, rfl⟩⟩
  obtain ⟨hreported, hsilence, hrest, hstand⟩ := hfields
  refine ⟨hreported, fun h => by rw [hsilence, if_neg h], fun h => by rw [hsilence, if_pos h], hlinked, fun hm => ?_, fun hm => ?_, hrest,
    ?_, ?_, ?_, ?_, hframe.tables.trans ?_, hframe.now.trans ?_, ?_⟩
  · obtain ⟨hlink, hvalid, hexpected⟩ := hmatched.mp hm
    refine ⟨?_, ?_, hleaves.trans (hagreed hm)⟩ <;> simp [hv, abilityLink, hlink, hvalid, hexpected]
  · obtain ⟨hability, hrefusals⟩ := hstand hm
    exact ⟨hability, hrefusals, hleaves.trans (by rw [hkept hm]; rfl)⟩
  · rw [hframe.track, hcars]
  · rw [hframe.track, hcars]
  · rw [hframe.track, hcars]
  · rw [hframe.track, hcars]
    exact PerCar.get_set_ne _ _ _ _ (by cases x <;> decide)
  · exact htables
  · exact hnow
  · rw [hframe.sup]
    show u.sup.causes = _
    exact congrArg Sup.causes hsup

end Sys2Proof.Machine
end

section
/-! PROOFS. A status block: its bytes, its link record and leaves, and the trips it takes (O35). -/

namespace Sys2Proof.Machine

/-! ### The bytes of a status block (R138, R152) -/

theorem LeafState.ofCode_code (v : LeafState) : LeafState.ofCode v.code.toNat = v := by cases v <;> rfl

theorem checkHolds_append (l : List Byte) : checkHolds (l ++ [crc8 l]) = true := by
  simp [checkHolds]

theorem statusFlags_bits (alarm overspeed railApplied ack : Bool) :
    let b := byteOf ((if alarm then 1 else 0) + (if overspeed then 2 else 0) + (if railApplied then 4 else 0) + (if ack then 8 else 0))
    memberAt b 0 = alarm ∧ memberAt b 1 = overspeed ∧ memberAt b 2 = railApplied ∧ memberAt b 3 = ack := by
  cases alarm <;> cases overspeed <;> cases railApplied <;> cases ack <;> decide

/-- The part reads a status block as its car sent it. -/
theorem parseStatus_statusBytes (x : Car) (k : StatusBlock) : parseStatus x (statusBytes x k) = some k := by
  obtain ⟨⟨⟨l1, l2, l3, l4, l5, l6⟩, ⟨r1, r2, r3, r4, r5, r6⟩⟩, boarded, alighted, alarm, overspeed, railApplied, ack⟩ := k
  obtain ⟨h0, h1, h2, h3⟩ := statusFlags_bits alarm overspeed railApplied ack
  rw [parseStatus, if_pos ⟨rfl, rfl, checkHolds_append _⟩]
  simp only [StatusBlock.ofBytes, statusBytes, Six.toList, Six.ofFn, byteAt]
  simp [LeafState.ofCode_code, h0, h1, h2, h3]

/-! ### The link record (R147, R148, R154, R155) -/

/-- A block applied to the link record (R147, R148). -/
def CarLink.applied (c : CarLink) (k : StatusBlock) : CarLink :=
  match c.link with
  | .confirm =>
    if k.ack then { c with link := .complete }
    else if c.refusals + 1 < 3 then { c with refusals := c.refusals + 1 }
    else { c with link := .listen, refusals := 0 }
  | .check => { c with link := .complete }
  | _ => c

/-- The link record after a block: kept, applied, and in a usable link its counts the baselines. -/
def CarLink.afterBlock (c : CarLink) (k : StatusBlock) : CarLink :=
  let v := (c.keepBlock k).applied k
  if v.link.usable then { v with baselines := some (k.boarded, k.alighted) } else v

theorem perCar_ext {α : Type} {t u : PerCar α} (h : ∀ x, t.get x = u.get x) : t = u := by
  obtain ⟨a, b⟩ := t
  obtain ⟨a', b'⟩ := u
  exact congrArg₂ PerCar.mk (h .a) (h .b)

theorem setCar_get (x : Car) (s : State) : s.setCar x (s.track.cars.get x) = s := by
  cases x <;> rfl

theorem applyBlock_eq (x : Car) (k : StatusBlock) (s : State) : applyBlock x k s =
    if ((s.track.cars.get x).applied k).link = (s.track.cars.get x).link then s.setCar x ((s.track.cars.get x).applied k)
    else raiseAll .carLink (s.setCar x ((s.track.cars.get x).applied k)) := by
  have hmoved : ∀ (l : Link) (v : CarLink), l ≠ .down → v.link ≠ l → (v.link.usable && !l.usable) = false →
      setLink x l (s.setCar x v) = raiseAll .carLink (s.setCar x { v with link := l }) := fun l v hl hv hu => by
    rw [setLink_ne_down x l _ (by simpa using hv) hl]
    simp [linkMoved, CarLink.moved, hl, hu, State.setCar]
  have hself := setCar_get x s
  unfold applyBlock CarLink.applied
  dsimp only
  cases hlink : (s.track.cars.get x).link
  case confirm =>
    dsimp only
    split
    · have h := hmoved .complete (s.track.cars.get x) nofun (by simp [hlink]) (by simp [hlink, Link.usable])
      rw [hself] at h
      simp [h]
    · split
      · simp
      · exact hmoved .listen { s.track.cars.get x with link := .confirm, refusals := 0 } nofun nofun rfl
  case check =>
    have h := hmoved .complete (s.track.cars.get x) nofun (by simp [hlink]) (by simp [Link.usable])
    rw [hself] at h
    simp [h]
  all_goals simp [hlink, hself]

theorem applyBlock_track (x : Car) (k : StatusBlock) (s : State) :
    (applyBlock x k s).track = { s.track with cars := s.track.cars.set x ((s.track.cars.get x).applied k) } := by
  rw [applyBlock_eq]
  split <;> simp [State.setCar]

/-- A block applied to the link moves no other block, and raises CAR_LINK alone. -/
theorem applyBlock_keeps (x : Car) (k : StatusBlock) (s : State) :
    (applyBlock x k s).tables = s.tables ∧ (applyBlock x k s).rope = s.rope ∧ (applyBlock x k s).trip = s.trip ∧
    (applyBlock x k s).sup = s.sup ∧ (applyBlock x k s).doors = s.doors ∧ (applyBlock x k s).board = s.board ∧
    (applyBlock x k s).now = s.now ∧
    ∀ q j, j ≠ 14 → ((applyBlock x k s).links.get q).flags.getLsbD j = (s.links.get q).flags.getLsbD j := by
  rw [applyBlock_eq]
  split
  · simp
  · refine ⟨by simp, by simp, by simp, by simp, by simp, by simp, by simp, fun q j hj => Bool.eq_iff_iff.mpr ?_⟩
    rw [raiseAll_flag]
    simp [Notice.code, hj]

/-! ### Counts handed on leave all but the boarding figures -/

theorem markUncertain_keeps (x : Car) (s : State) :
    (markUncertain x s).tables = s.tables ∧ (markUncertain x s).trip = s.trip ∧ (markUncertain x s).sup = s.sup ∧
    (markUncertain x s).track = s.track ∧ (markUncertain x s).doors = s.doors ∧ (markUncertain x s).now = s.now := by
  unfold markUncertain
  dsimp only
  split <;> simp

theorem boardAtBerth_keeps (b : Berth) (n : Nat) (s : State) :
    (boardAtBerth b n s).tables = s.tables ∧ (boardAtBerth b n s).trip = s.trip ∧ (boardAtBerth b n s).sup = s.sup ∧
    (boardAtBerth b n s).track = s.track ∧ (boardAtBerth b n s).doors = s.doors ∧ (boardAtBerth b n s).now = s.now := by
  unfold boardAtBerth
  dsimp only
  split <;> simp

theorem boarded_keeps (x : Car) (n : Nat) (s : State) :
    (boarded x n s).tables = s.tables ∧ (boarded x n s).trip = s.trip ∧ (boarded x n s).sup = s.sup ∧
    (boarded x n s).track = s.track ∧ (boarded x n s).doors = s.doors ∧ (boarded x n s).now = s.now := by
  unfold boarded
  split <;> simp [boardAtBerth_keeps]

theorem alighted_keeps (x : Car) (n : Nat) (s : State) :
    (alighted x n s).tables = s.tables ∧ (alighted x n s).trip = s.trip ∧ (alighted x n s).sup = s.sup ∧
    (alighted x n s).track = s.track ∧ (alighted x n s).doors = s.doors ∧ (alighted x n s).now = s.now := by
  unfold alighted
  dsimp only
  split <;> simp

theorem handCounts_keeps (x : Car) (first : Bool) (d : Option (Nat × Nat)) (s : State) :
    (handCounts x first d s).tables = s.tables ∧ (handCounts x first d s).trip = s.trip ∧ (handCounts x first d s).sup = s.sup ∧
    (handCounts x first d s).track = s.track ∧ (handCounts x first d s).doors = s.doors ∧ (handCounts x first d s).now = s.now := by
  unfold handCounts
  split
  · simp
  · split <;> simp [markUncertain_keeps, alighted_keeps, boarded_keeps]

theorem handOnCounts_keeps (x : Car) (first : Bool) (k : StatusBlock) (s : State) :
    (handOnCounts x first k s).tables = s.tables ∧ (handOnCounts x first k s).trip = s.trip ∧
    (handOnCounts x first k s).sup = s.sup ∧ (handOnCounts x first k s).doors = s.doors ∧ (handOnCounts x first k s).now = s.now := by
  unfold handOnCounts
  dsimp only
  split <;> simp [handCounts_keeps]

theorem handOnCounts_track (x : Car) (first : Bool) (k : StatusBlock) (s : State) : (handOnCounts x first k s).track =
    { s.track with cars := s.track.cars.set x (if (s.track.cars.get x).link.usable then
      { s.track.cars.get x with baselines := some (k.boarded, k.alighted) } else s.track.cars.get x) } := by
  unfold handOnCounts
  dsimp only
  split
  · simp [handCounts_keeps, State.setCar]
  · exact congrArg State.track (setCar_get x s).symm

/-! ### Leaf records under the steps of a block (R161) -/

theorem takeCause_leaves (c : Cause) (p : Option Port) (s : State) (x : Car) :
    ((takeCause c p s).doors.get x).leaves = (s.doors.get x).leaves := by
  have hdropped : ∀ t : State, ((closeAll (withdrawAll t)).doors.get x).leaves = (t.doors.get x).leaves := fun t => by
    cases x <;> simp [PerCar.get]
  rw [takeCause_eq, hdropped]
  unfold causeListed
  split
  · rw [tripLine]
    cases x <;> simp [restartFeedback, tripController, LineState.clearsAlignment, PerCar.get]
  · simp

theorem causeIf_leaves (b : Bool) (c : Cause) (s : State) (x : Car) : ((causeIf b c s).doors.get x).leaves = (s.doors.get x).leaves := by
  unfold causeIf
  split
  · exact takeCause_leaves c none s x
  · rfl

/-- A passenger alarm leaves the tables, the track line and the leaf records. -/
theorem takeAlarm_keeps (s : State) : (takeAlarm s).tables = s.tables ∧ (takeAlarm s).track = s.track ∧ (takeAlarm s).now = s.now ∧
    ∀ x, ((takeAlarm s).doors.get x).leaves = (s.doors.get x).leaves := by
  have hmove : ∀ (c : HoldCause) (t : State) (x : Car), ((holdMove c t).doors.get x).leaves = (t.doors.get x).leaves := fun c t x => by
    unfold holdMove
    dsimp only
    split
    · rw [(endMove_seqFrame .hold _).leaves]
    · rfl
  unfold takeAlarm
  dsimp only
  split
  · simp
  · simp [holdTrip, setPhase_frame]
  · split <;> simp [hmove]
  · simp

theorem takeAlarm_tripped {s : State} (h : s.trip.line = .tripped) : takeAlarm s = raiseAll .passengerAlarm s := by
  simp [takeAlarm, h]

/-! ### The door controller at a block (R161, R172 to R174) -/

/-- The close orders of a car after a block in a usable link (R172). -/
def CarDoors.closed (c : CarDoors) (l r : Bool) : CarDoors := { c with close := ⟨c.close.left && !l, c.close.right && !r⟩ }

/-- The marks of a car after a block in a usable link (R173). -/
def CarDoors.marked (c : CarDoors) (present opening : PerSide Byte) : CarDoors :=
  { c with marks := ⟨c.judgeMarks .left present.left opening.left, c.judgeMarks .right present.right opening.right⟩ }

/-- The leaf records of a car after a block (R161). -/
def State.written (s : State) (x : Car) (k : StatusBlock) : PerSide (Six LeafRecord) :=
  ⟨writeSide (s.present x .left) (s.doors.get x).leaves.left k.leaves.left, writeSide (s.present x .right) (s.doors.get x).leaves.right k.leaves.right⟩

/-- A car's doors after a block: its leaves, and in a usable link its close orders and marks. -/
def State.doorsAfter (s : State) (x : Car) (k : StatusBlock) : CarDoors :=
  let c := { s.doors.get x with leaves := s.written x k }
  if s.stale x then c
  else (c.closed (s.sideLocked x k .left) (s.sideLocked x k .right)).marked ⟨s.present x .left, s.present x .right⟩
    ⟨openingSet k.leaves.left, openingSet k.leaves.right⟩

theorem raiseUnauthorised_keeps (b : Option Berth) (s : State) : (raiseUnauthorised b s).tables = s.tables ∧
    (raiseUnauthorised b s).rope = s.rope ∧ (raiseUnauthorised b s).doors = s.doors ∧ (raiseUnauthorised b s).board = s.board ∧
    (raiseUnauthorised b s).now = s.now := by
  unfold raiseUnauthorised raiseOnBoth
  split
  · split <;> simp
  · simp

theorem judgeUnauthorised_doors (x : Car) (k : StatusBlock) (s : State) : (judgeUnauthorised x k s).doors =
    if s.stale x then s.doors
    else s.doors.set x ((s.doors.get x).marked ⟨s.present x .left, s.present x .right⟩ ⟨openingSet k.leaves.left, openingSet k.leaves.right⟩) := by
  unfold judgeUnauthorised
  split
  · rfl
  · dsimp only
    split
    · rfl
    · split <;> simp [raiseUnauthorised_keeps, CarDoors.marked]

theorem judgeCloseOrders_doors (x : Car) (k : StatusBlock) (s : State) : (judgeCloseOrders x k s).doors =
    if s.stale x then s.doors else s.doors.set x ((s.doors.get x).closed (s.sideLocked x k .left) (s.sideLocked x k .right)) := by
  unfold judgeCloseOrders
  split <;> rfl

theorem writeLeaves_doors (x : Car) (k : StatusBlock) (s : State) :
    (writeLeaves x k s).doors = s.doors.set x { s.doors.get x with leaves := s.written x k } := rfl

theorem State.sideLocked_congr {s t : State} (h : t.track.cars = s.track.cars) (x : Car) (k : StatusBlock) (d : Side) :
    t.sideLocked x k d = s.sideLocked x k d := by
  unfold State.sideLocked
  rw [State.present_congr h]

theorem doorBlock_doors (x : Car) (k : StatusBlock) (s : State) : (doorBlock x k s).doors = s.doors.set x (s.doorsAfter x k) := by
  have hwritten : (writeLeaves x k s).track.cars = s.track.cars := by simp
  have hjudged : (judgeCloseOrders x k (writeLeaves x k s)).track.cars = s.track.cars := by simp [judgeCloseOrders_frame]
  have hstale : ∀ {t : State}, t.track.cars = s.track.cars → t.stale x = s.stale x := fun h => State.stale_congr (by rw [h])
  unfold doorBlock State.doorsAfter
  rw [judgeUnauthorised_doors, judgeCloseOrders_doors, hstale hjudged, hstale hwritten, writeLeaves_doors, State.present_congr hjudged,
    State.present_congr hjudged, State.sideLocked_congr hwritten, State.sideLocked_congr hwritten]
  split <;> simp

theorem doorBlock_keeps (x : Car) (k : StatusBlock) (s : State) : (doorBlock x k s).tables = s.tables ∧ (doorBlock x k s).rope = s.rope ∧
    (doorBlock x k s).now = s.now ∧ (doorBlock x k s).board.cars = s.board.cars := by
  have hclose : ∀ t : State, (judgeCloseOrders x k t).tables = t.tables ∧ (judgeCloseOrders x k t).rope = t.rope ∧
      (judgeCloseOrders x k t).now = t.now ∧ (judgeCloseOrders x k t).board = t.board := fun t => by
    unfold judgeCloseOrders
    split <;> simp
  have hmarks : ∀ t : State, (judgeUnauthorised x k t).tables = t.tables ∧ (judgeUnauthorised x k t).rope = t.rope ∧
      (judgeUnauthorised x k t).now = t.now ∧ (judgeUnauthorised x k t).board.cars = t.board.cars := fun t => by
    unfold judgeUnauthorised
    split
    · simp
    · dsimp only
      split
      · simp
      · split <;> simp [raiseUnauthorised_keeps, moveBerth]
  simp [doorBlock, hmarks, hclose]

/-! ### A block taken (R154) -/

/-- A block kept in the link record and applied to the link. -/
def blockApplied (x : Car) (k : StatusBlock) (s : State) : State := applyBlock x k (s.setCar x ((s.track.cars.get x).keepBlock k))

/-- What is handed on of a block, up to the counts (R154). -/
def blockJudged (x : Car) (wasAlarm : Bool) (k : StatusBlock) (s : State) : State :=
  let s1 := doorBlock x k s
  let s2 := causeIf (s1.sup.drvEn && !(s.sideLocked x k .left && s.sideLocked x k .right)) .doorUnlockedMoving s1
  let s3 := if k.alarm && !wasAlarm then takeAlarm s2 else s2
  causeIf k.overspeed .carOverspeed s3

theorem takeStatus_eq (x : Car) (k : StatusBlock) (s : State) : takeStatus x k s =
    handOnCounts x ((s.track.cars.get x).link == .confirm) k (blockJudged x (s.track.cars.get x).alarm k (blockApplied x k s)) := rfl

theorem blockApplied_keeps (x : Car) (k : StatusBlock) (s : State) :
    (blockApplied x k s).tables = s.tables ∧ (blockApplied x k s).rope = s.rope ∧ (blockApplied x k s).trip = s.trip ∧
    (blockApplied x k s).sup = s.sup ∧ (blockApplied x k s).doors = s.doors ∧ (blockApplied x k s).board = s.board ∧
    (blockApplied x k s).now = s.now ∧
    ∀ q j, j ≠ 14 → ((blockApplied x k s).links.get q).flags.getLsbD j = (s.links.get q).flags.getLsbD j :=
  applyBlock_keeps x k (s.setCar x ((s.track.cars.get x).keepBlock k))

theorem blockApplied_track (x : Car) (k : StatusBlock) (s : State) : (blockApplied x k s).track =
    { s.track with cars := s.track.cars.set x (((s.track.cars.get x).keepBlock k).applied k) } := by
  rw [blockApplied, applyBlock_track]
  simp [State.setCar]

theorem blockJudged_keeps (x : Car) (b : Bool) (k : StatusBlock) (s : State) : (blockJudged x b k s).tables = s.tables ∧
    (blockJudged x b k s).track = s.track ∧ (blockJudged x b k s).now = s.now ∧
    ∀ y, ((blockJudged x b k s).doors.get y).leaves = ((s.doors.set x (s.doorsAfter x k)).get y).leaves := by
  have halarm : ∀ t : State, (if k.alarm && !b then takeAlarm t else t).tables = t.tables ∧ (if k.alarm && !b then takeAlarm t else t).track = t.track ∧
      (if k.alarm && !b then takeAlarm t else t).now = t.now ∧
      ∀ y, ((if k.alarm && !b then takeAlarm t else t).doors.get y).leaves = (t.doors.get y).leaves := fun t => by
    split
    · exact takeAlarm_keeps t
    · simp
  unfold blockJudged
  simp only [causeIf_frame, causeIf_leaves, halarm, doorBlock_keeps, doorBlock_frame, doorBlock_doors, implies_true, and_self]

theorem doorsAfter_leaves (s : State) (x : Car) (k : StatusBlock) : (s.doorsAfter x k).leaves = s.written x k := by
  unfold State.doorsAfter
  split <;> rfl

theorem takeStatus_track (x : Car) (k : StatusBlock) (s : State) :
    (takeStatus x k s).track = { s.track with cars := s.track.cars.set x ((s.track.cars.get x).afterBlock k) } := by
  rw [takeStatus_eq, handOnCounts_track, (blockJudged_keeps _ _ _ _).2.1, blockApplied_track]
  simp [CarLink.afterBlock]

theorem exec_statusBlock {x : Car} {k : StatusBlock} {s : State} (hlimit : s.track.answerLimit = true) (hheard : s.track.unheard = false)
    (hturn : s.track.turn = some ⟨x, .poll⟩) : exec (.statusBlockReceived ((statusBytes x k).map lineChar)) s =
    .next (settleWith true (endTurn (takeStatus x k (unquiet s)))) := by
  have hshut : tryTurn (endTurn (takeStatus x k (unquiet s))) = endTurn (takeStatus x k (unquiet s)) :=
    tryTurn_shut (.inl fun ⟨_, hquiet, _⟩ => by
      have hstands : (takeStatus x k (unquiet s)).track.quiet = false := by rw [takeStatus_track]; rfl
      exact absurd (hstands.symm.trans hquiet) nofun)
  show execStatusBlockReceived ((statusBytes x k).map lineChar) s = _
  simp only [execStatusBlockReceived, Track.hearsAnswer, hlimit, hheard, hturn, readStatus_lineChar, parseStatus_statusBytes, Bool.not_false,
    Bool.and_self]
  rw [hshut]

theorem applied_keeps (c : CarLink) (k : StatusBlock) : (c.applied k).ability = c.ability ∧ (c.applied k).block = c.block ∧
    (c.applied k).fresh = c.fresh ∧ (c.applied k).silence = c.silence ∧ (c.applied k).baselines = c.baselines ∧
    ((c.applied k).reported, (c.applied k).missed, (c.applied k).calls, (c.applied k).window) = (c.reported, c.missed, c.calls, c.window) := by
  unfold CarLink.applied
  split
  · split
    · simp
    · split <;> simp
  · simp
  · simp

theorem applied_link (c : CarLink) (k : StatusBlock) : (c.applied k).link = (match c.link with
    | .confirm => if k.ack then .complete else if c.refusals + 1 < 3 then .confirm else .listen
    | .check => .complete
    | l => l) := by
  unfold CarLink.applied
  cases h : c.link
  case confirm =>
    cases hack : k.ack
    · by_cases hr : c.refusals + 1 < 3 <;> simp [hr]
    · simp
  all_goals simp [h]

theorem applied_refusals (c : CarLink) (k : StatusBlock) : (c.applied k).refusals =
    (if c.link = .confirm ∧ k.ack = false then (if c.refusals + 1 < 3 then c.refusals + 1 else 0) else c.refusals) := by
  unfold CarLink.applied
  cases h : c.link
  case confirm =>
    cases hack : k.ack
    · by_cases hr : c.refusals + 1 < 3 <;> simp [hr]
    · simp
  all_goals simp

theorem afterBlock_eq (c : CarLink) (k : StatusBlock) : c.afterBlock k = { (c.keepBlock k).applied k with
    baselines := if ((c.keepBlock k).applied k).link.usable then some (k.boarded, k.alighted) else c.baselines } := by
  obtain ⟨-, -, -, -, hbase, -⟩ := applied_keeps (c.keepBlock k) k
  unfold CarLink.afterBlock
  dsimp only
  split
  · rfl
  · have hkept : ((c.keepBlock k).applied k).baselines = c.baselines := hbase
    rw [← hkept]

theorem State.present_ability {s t : State} {x : Car} (h : (t.track.cars.get x).ability = (s.track.cars.get x).ability) (d : Side) :
    t.present x d = s.present x d := by
  unfold State.present
  rw [h]

/-- The first cause listed trips the line, wherever it stood (R110). -/
theorem takeCause_first_line {c : Cause} {s : State} (h : s.sup.causes = []) :
    (takeCause c none s).trip.line = .tripped ∧ (takeCause c none s).sup.causes = [⟨c, none⟩] := by
  rw [takeCause_first none h]
  simp [tripLine, restartFeedback]

/-- An unlocked leaf with DRV_EN energised trips the line, its cause first (R107). -/
theorem blockJudged_unlocked {x : Car} {b : Bool} {k : StatusBlock} {s : State} (hnone : s.sup.causes = []) (hdrv : s.sup.drvEn = true)
    (hlocked : s.sideLocked x k .left = false ∨ s.sideLocked x k .right = false) :
    (blockJudged x b k s).trip.line = .tripped ∧ (blockJudged x b k s).sup.causes.head? = some ⟨.doorUnlockedMoving, none⟩ := by
  obtain ⟨-, hsup, -⟩ := doorBlock_frame x k s
  have hcause : ((doorBlock x k s).sup.drvEn && !(s.sideLocked x k .left && s.sideLocked x k .right)) = true := by
    rcases hlocked with h | h <;> simp [hsup, hdrv, h]
  obtain ⟨hline, hcauses⟩ := takeCause_first_line (c := .doorUnlockedMoving) (s := doorBlock x k s) (by rw [hsup, hnone])
  set u := takeCause .doorUnlockedMoving none (doorBlock x k s) with hu
  have halarm : (if k.alarm && !b then takeAlarm u else u).trip.line = .tripped ∧
      (if k.alarm && !b then takeAlarm u else u).sup.causes = [⟨.doorUnlockedMoving, none⟩] := by
    split
    · rw [takeAlarm_tripped hline]
      simp [hline, hcauses]
    · exact ⟨hline, hcauses⟩
  have hjudged : blockJudged x b k s = causeIf k.overspeed .carOverspeed (if k.alarm && !b then takeAlarm u else u) := by
    have hfirst : causeIf ((doorBlock x k s).sup.drvEn && !(s.sideLocked x k .left && s.sideLocked x k .right)) .doorUnlockedMoving
        (doorBlock x k s) = u := if_pos hcause
    rw [blockJudged, hfirst]
  rw [hjudged]
  revert halarm
  generalize (if k.alarm && !b then takeAlarm u else u) = w
  rintro ⟨hwline, hwcauses⟩
  unfold causeIf
  split
  · obtain ⟨htrip, -, -⟩ := takeCause_further_blocks (c := .carOverspeed) none (s := w) (by rw [hwcauses]; nofun)
    rw [htrip, hwline]
    rcases takeCause_causes .carOverspeed none (s := w) (by simp [hwcauses]) with ⟨-, h⟩ | h <;> simp [h, hwcauses]
  · exact ⟨hwline, by rw [hwcauses]; rfl⟩

/-- Settles O35: the link record field by field, the leaves as written, and the two trips of a block. -/
theorem statusBlockIsTaken : Obligations.StatusBlockIsTaken := by
  intro x k s hlimit hheard hturn
  set u := blockApplied x k (unquiet s) with hu
  set w := blockJudged x (s.track.cars.get x).alarm k u with hw
  have hframe : SeqFrame (endTurn (takeStatus x k (unquiet s))) (settleWith true (endTurn (takeStatus x k (unquiet s)))) :=
    settleWith_seqFrame true _
  have hkept : u.tables = s.tables ∧ u.sup = s.sup ∧ u.doors = s.doors ∧ u.now = s.now := by
    obtain ⟨htables, -, -, hsup, hdoors, -, hnow, -⟩ := blockApplied_keeps x k (unquiet s)
    exact ⟨htables, hsup, hdoors, hnow⟩
  obtain ⟨htables, hsup, hdoors, hnow⟩ := hkept
  obtain ⟨hjtables, -, hjnow, hjleaves⟩ := blockJudged_keeps x (s.track.cars.get x).alarm k u
  obtain ⟨hctables, hctrip, hcsup, hcdoors, hcnow⟩ := handOnCounts_keeps x ((s.track.cars.get x).link == .confirm) k w
  have htrack := takeStatus_track x k (unquiet s)
  refine ⟨_, exec_statusBlock hlimit hheard hturn, ?_⟩
  intro c v
  have hv : v = c.afterBlock k := by
    simp only [v, hframe.track]
    rw [endTurn, State.setTrack, htrack]
    simp [unquiet, c]
  obtain ⟨hability, hblock, hfresh, hsilence, -, hrest⟩ := applied_keeps (c.keepBlock k) k
  rw [afterBlock_eq] at hv
  have hlink : v.link = (match c.link with
        | .confirm => if k.ack then .complete else if c.refusals + 1 < 3 then .confirm else .listen
        | .check => .complete
        | l => l) := by
    rw [hv]
    exact applied_link (c.keepBlock k) k
  have hpresent : ∀ d, u.present x d = s.present x d := fun d => State.present_ability (by
    rw [hu, blockApplied_track]
    exact (congrArg CarLink.ability (PerCar.get_set_same _ _ _)).trans hability) d
  have hsettled : (endTurn (takeStatus x k (unquiet s))).sup = w.sup ∧ (endTurn (takeStatus x k (unquiet s))).trip = w.trip := ⟨hcsup, hctrip⟩
  refine ⟨?_, hlink, ?_, fun h => ?_, fun h => ?_, ?_, ?_, ?_, ?_, ?_, ?_, fun hover => ?_, fun hnone hdrv hopen => ?_, ?_, ?_⟩
  · rw [hv]
    exact hblock
  · rw [hv]
    exact hfresh
  · rw [hv]
    exact hsilence.trans (if_neg h)
  · rw [hv]
    exact hsilence.trans (if_pos h)
  · rw [hv]
    exact applied_refusals (c.keepBlock k) k
  · rw [hv]
  · rw [hv]
    simp only [Prod.mk.injEq] at hrest ⊢
    obtain ⟨hreported, hmissed, hcalls, hwindow⟩ := hrest
    exact ⟨hreported, hability, hmissed, hcalls, hwindow⟩
  · rw [hframe.track]
    rfl
  · rw [hframe.track, endTurn, State.setTrack, htrack]
    exact PerCar.get_set_ne _ _ _ _ (by cases x <;> decide)
  · rw [hframe.leaves]
    show ((handOnCounts x ((s.track.cars.get x).link == .confirm) k w).doors.get x).leaves = _
    rw [hcdoors, hjleaves, PerCar.get_set_same, doorsAfter_leaves, State.written, hpresent, hpresent, hdoors]
  · have horder : (endTurn (takeStatus x k (unquiet s))).sup.railOrder = ⟨.trip, .trip⟩ := by
      rw [hsettled.1, hw, blockJudged]
      exact (congrArg (fun r : State => r.sup.railOrder) (if_pos hover)).trans (takeCause_orders none _ rfl)
    have hstays : ∀ y, (settleWith true (endTurn (takeStatus x k (unquiet s)))).sup.railOrder.get y = .trip := fun y => by
      rcases hframe.orders y with h | ⟨h, -⟩
      · rw [h, horder]
        cases y <;> rfl
      · rw [horder] at h
        cases y <;> cases h
    exact perCar_ext fun y => (hstays y).trans (by cases y <;> rfl)
  · have hulocked : u.sideLocked x k .left = false ∨ u.sideLocked x k .right = false := by
      simpa only [State.sideLocked, hpresent] using hopen
    obtain ⟨hline, hhead⟩ := blockJudged_unlocked (b := (s.track.cars.get x).alarm) (s := u) (by rw [hsup, hnone]) (by rw [hsup, hdrv]) hulocked
    rw [settleWith_still true _ (by rw [hsettled.2, hline]; rfl), hsettled.1, hsettled.2]
    exact ⟨hline, hhead⟩
  · rw [hframe.tables]
    exact (hctables.trans hjtables).trans htables
  · rw [hframe.now]
    exact (hcnow.trans hjnow).trans hnow

end Sys2Proof.Machine
end

section
/-! PROOFS. What a status block hands on: close orders, marks and the passenger alarm (O36), and the counts (O37). -/

namespace Sys2Proof.Machine

/-! ### Notice flags (R213) -/

/-- A raised notice sets one flag of one port. -/
theorem raiseOn_flag (n : Notice) (p : Port) (s : State) (q : Port) (j : Nat) : ((raiseOn n p s).links.get q).flags.getLsbD j = true ↔
    (s.links.get q).flags.getLsbD j = true ∨ q = p ∧ j = n.code := by
  unfold raiseOn
  by_cases hq : q = p
  · subst hq
    have hall := raiseAll_flag n s q j
    rw [raiseAll_links, PerPort.get_map] at hall
    simpa using hall
  · simp [PerPort.get_set_ne _ _ _ _ hq, hq]

theorem raiseOnBoth_flag (n : Notice) (p : Port) (s : State) (q : Port) (j : Nat) : ((raiseOnBoth n p s).links.get q).flags.getLsbD j = true ↔
    (s.links.get q).flags.getLsbD j = true ∨ (q = .d ∨ q = p) ∧ j = n.code := by
  unfold raiseOnBoth
  split
  · subst p
    simp [raiseOn_flag]
  · simp only [raiseOn_flag]
    tauto

/-- One notice flag of every port stands. -/
def FlagKept (j : Nat) (s t : State) : Prop := ∀ q, (t.links.get q).flags.getLsbD j = (s.links.get q).flags.getLsbD j

theorem FlagKept.trans {j : Nat} {s t u : State} (h : FlagKept j s t) (k : FlagKept j t u) : FlagKept j s u := fun q => (k q).trans (h q)

theorem raiseAll_kept {j : Nat} (n : Notice) (s : State) (h : j ≠ n.code) : FlagKept j s (raiseAll n s) := fun q =>
  Bool.eq_iff_iff.mpr ((raiseAll_flag n s q j).trans (by simp [h]))

/-! ### Sets of compartments -/

theorem setOf_bit (t : Six Bool) {i : Nat} (h : i < 6) : (setOf t).getLsbD i = t.toList.getD i false := by
  have hall : ∀ a b c d e f : Bool, ∀ i < 6, (setOf ⟨a, b, c, d, e, f⟩).getLsbD i = [a, b, c, d, e, f].getD i false := by decide
  exact hall _ _ _ _ _ _ i h

theorem openingSet_bit (l : Six LeafState) {i : Nat} (h : i < 6) : (openingSet l).getLsbD i = true ↔
    l.toList.getD i .absent = .open ∨ l.toList.getD i .absent = .moving := by
  have hopening : ∀ v : LeafState, v.opening = true ↔ v = .open ∨ v = .moving := fun v => by cases v <;> simp [LeafState.opening]
  rw [openingSet, setOf_bit _ h, ← hopening]
  match i, h with
  | 0, _ => rfl
  | 1, _ => rfl
  | 2, _ => rfl
  | 3, _ => rfl
  | 4, _ => rfl
  | 5, _ => rfl

theorem openingSet_high (l : Six LeafState) {i : Nat} (h : ¬i < 6) : (openingSet l).getLsbD i = false := by
  have hall : ∀ a b c d e f : Bool, ∀ i < 8, ¬i < 6 → (setOf ⟨a, b, c, d, e, f⟩).getLsbD i = false := by decide
  by_cases hi : i < 8
  · exact hall _ _ _ _ _ _ i hi h
  · exact BitVec.getLsbD_of_ge _ _ (by omega)

/-! ### Marks (R173, R174) -/

/-- Some leaf is marked that was not. -/
def NewMarks (c v : CarDoors) : Prop := ∃ d, ∃ i < 6, (v.marks.get d).getLsbD i = true ∧ (c.marks.get d).getLsbD i = false

theorem authorised_bit (c : CarDoors) (d : Side) {i : Nat} (h : i < 6) : (c.authorised d).getLsbD i = true ↔
    c.close.get d = true ∨ ∃ g, c.grants.get d = some g ∧ g.set.getLsbD i = true := by
  have hfull : (0xFF#8).getLsbD i = true := by interval_cases i <;> rfl
  unfold CarDoors.authorised
  split
  next hclose => simp only [hfull, hclose, true_or]
  next hclose =>
    cases hg : c.grants.get d <;> simp [hclose]

theorem judgeMarks_bit (c : CarDoors) (d : Side) (present opening : Byte) {i : Nat} (h : i < 6) :
    (c.judgeMarks d present opening).getLsbD i = true ↔
      if present.getLsbD i = true then opening.getLsbD i = true ∧ c.close.get d = false ∧
        ¬∃ g, c.grants.get d = some g ∧ g.set.getLsbD i = true
      else (c.marks.get d).getLsbD i = true := by
  have hauth := authorised_bit c d h
  have hwidth : i < 8 := by omega
  unfold CarDoors.judgeMarks
  simp only [BitVec.getLsbD_or, BitVec.getLsbD_and, BitVec.getLsbD_not, hwidth, decide_true, Bool.true_and]
  cases hp : present.getLsbD i
  · simp
  · rw [← Bool.not_eq_true (c.close.get d), ← not_or, ← hauth]
    simp

/-- No mark is new outside the six compartments. -/
theorem judgeMarks_old (c : CarDoors) (d : Side) (present : Byte) (l : Six LeafState) :
    c.judgeMarks d present (openingSet l) &&& ~~~(c.marks.get d) = 0 ↔
      ∀ i < 6, (c.judgeMarks d present (openingSet l)).getLsbD i = true → (c.marks.get d).getLsbD i = true := by
  constructor
  · intro h i hi hset
    have hbit := congrArg (fun v : Byte => v.getLsbD i) h
    by_contra hold
    simp [hset, hold, show i < 8 by omega, -BitVec.getLsbD_eq_getElem] at hbit
  · intro h
    refine BitVec.eq_of_getLsbD_eq fun i hi => ?_
    by_cases hlow : i < 6
    · have := h i hlow
      cases hset : (c.judgeMarks d present (openingSet l)).getLsbD i <;>
        simp_all [-BitVec.getLsbD_eq_getElem]
    · unfold CarDoors.judgeMarks
      simp only [BitVec.getLsbD_or, BitVec.getLsbD_and, BitVec.getLsbD_not, openingSet_high l hlow]
      cases (c.marks.get d).getLsbD i <;> simp [-BitVec.getLsbD_eq_getElem]

theorem not_newMarks_iff (c : CarDoors) (present : PerSide Byte) (k : StatusBlock) :
    (c.judgeMarks .left present.left (openingSet k.leaves.left) &&& ~~~c.marks.left = 0 ∧
      c.judgeMarks .right present.right (openingSet k.leaves.right) &&& ~~~c.marks.right = 0) ↔
    ¬NewMarks c (c.marked present ⟨openingSet k.leaves.left, openingSet k.leaves.right⟩) := by
  have hleft := judgeMarks_old c .left present.left k.leaves.left
  have hright := judgeMarks_old c .right present.right k.leaves.right
  refine (and_congr hleft hright).trans ⟨fun ⟨hl, hr⟩ ⟨d, i, hi, hset, hold⟩ => ?_, fun h => ⟨fun i hi hset => ?_, fun i hi hset => ?_⟩⟩
  · cases d
    · exact absurd ((hl i hi hset).symm.trans hold) nofun
    · exact absurd ((hr i hi hset).symm.trans hold) nofun
  · by_contra hold
    exact h ⟨.left, i, hi, hset, by simpa using hold⟩
  · by_contra hold
    exact h ⟨.right, i, hi, hset, by simpa using hold⟩

/-- The doors of a car with its marks judged at a block. -/
def State.markedDoors (s : State) (x : Car) (k : StatusBlock) : CarDoors :=
  (s.doors.get x).marked ⟨s.present x .left, s.present x .right⟩ ⟨openingSet k.leaves.left, openingSet k.leaves.right⟩

theorem judgeUnauthorised_quiet {x : Car} {k : StatusBlock} {s : State} (hcurrent : s.stale x = false)
    (hnew : ¬NewMarks (s.doors.get x) (s.markedDoors x k)) : judgeUnauthorised x k s = s.setDoors x (s.markedDoors x k) := by
  rw [judgeUnauthorised, if_neg (by simp [hcurrent])]
  exact if_pos ((not_newMarks_iff (s.doors.get x) ⟨s.present x .left, s.present x .right⟩ k).mpr hnew)

theorem judgeUnauthorised_new {x : Car} {k : StatusBlock} {s : State} (hcurrent : s.stale x = false)
    (hnew : NewMarks (s.doors.get x) (s.markedDoors x k)) : judgeUnauthorised x k s =
      match s.berthOf x with
      | some b => moveBerth b (raiseOnBoth .doorUnauthorised b.station (s.setDoors x (s.markedDoors x k)))
      | none => raiseAll .doorUnauthorised (s.setDoors x (s.markedDoors x k)) := by
  rw [judgeUnauthorised, if_neg (by simp [hcurrent])]
  refine (if_neg fun h => (not_newMarks_iff (s.doors.get x) ⟨s.present x .left, s.present x .right⟩ k).mp h hnew).trans ?_
  have hberth : ∀ v, (s.setDoors x v).berthOf x = s.berthOf x := fun v => by cases x <;> rfl
  rw [hberth]
  cases s.berthOf x <;> rfl

/-- The judgement of marks: the notice and the berth moved exactly where a mark is new (R173, R174). -/
theorem judgeUnauthorised_outcome (x : Car) (k : StatusBlock) (s : State) :
    (∀ q j, ((judgeUnauthorised x k s).links.get q).flags.getLsbD j = true ↔ (s.links.get q).flags.getLsbD j = true ∨
      j = 17 ∧ NewMarks (s.doors.get x) ((judgeUnauthorised x k s).doors.get x) ∧
        (s.berthOf x = none ∨ q = .d ∨ ∃ b, s.berthOf x = some b ∧ q = b.station)) ∧
    (∀ b, NewMarks (s.doors.get x) ((judgeUnauthorised x k s).doors.get x) → s.berthOf x = some b →
      (judgeUnauthorised x k s).board.berths.get b = (s.board.berths.get b).moveOut) ∧
    (∀ b, ¬NewMarks (s.doors.get x) ((judgeUnauthorised x k s).doors.get x) ∨ s.berthOf x ≠ some b →
      (judgeUnauthorised x k s).board.berths.get b = s.board.berths.get b) := by
  cases hstale : s.stale x
  · have hdoors : (judgeUnauthorised x k s).doors.get x = s.markedDoors x k := by
      rw [judgeUnauthorised_doors, hstale]
      exact PerCar.get_set_same _ _ _
    rw [hdoors]
    by_cases hnew : NewMarks (s.doors.get x) (s.markedDoors x k)
    · rw [judgeUnauthorised_new hstale hnew]
      cases hb : s.berthOf x with
      | none =>
        refine ⟨fun q j => ?_, fun _ _ h => absurd h nofun, fun _ _ => rfl⟩
        have hflag := raiseAll_flag .doorUnauthorised (s.setDoors x (s.markedDoors x k)) q j
        simp only [Notice.code, State.setDoors_links] at hflag
        simp only [hflag, hnew, true_or, and_true]
      | some b =>
        have hboth : (raiseOnBoth .doorUnauthorised b.station (s.setDoors x (s.markedDoors x k))).board = s.board :=
          (raiseUnauthorised_keeps (some b) (s.setDoors x (s.markedDoors x k))).2.2.2.1
        refine ⟨fun q j => ?_, fun b' _ hb' => ?_, fun b' hb' => ?_⟩
        · have hflag := raiseOnBoth_flag .doorUnauthorised b.station (s.setDoors x (s.markedDoors x k)) q j
          simp only [Notice.code, State.setDoors_links] at hflag
          simp only [moveBerth_frame, hflag, hnew]
          simp [and_comm]
        · cases hb'
          simp [moveBerth, hboth]
        · have hne : b' ≠ b := fun e => by simp [e, hnew] at hb'
          simp [moveBerth, PerBerth.get_set_ne _ _ _ _ hne, hboth]
    · rw [judgeUnauthorised_quiet hstale hnew]
      simp [hnew]
  · have hnone : ¬NewMarks (s.doors.get x) (s.doors.get x) := fun ⟨_, _, _, hset, hold⟩ => absurd (hset.symm.trans hold) nofun
    rw [judgeUnauthorised, if_pos hstale]
    simp [hnone]

/-- What the door controller does at a block: the notice and the berth moved exactly where a mark is new. -/
theorem doorBlock_outcome (x : Car) (k : StatusBlock) (s : State) :
    (∀ q j, ((doorBlock x k s).links.get q).flags.getLsbD j = true ↔ (s.links.get q).flags.getLsbD j = true ∨
      j = 17 ∧ NewMarks (s.doors.get x) (s.doorsAfter x k) ∧
        (s.berthOf x = none ∨ q = .d ∨ ∃ b, s.berthOf x = some b ∧ q = b.station)) ∧
    (∀ b, NewMarks (s.doors.get x) (s.doorsAfter x k) → s.berthOf x = some b →
      (doorBlock x k s).board.berths.get b = (s.board.berths.get b).moveOut) ∧
    (∀ b, ¬NewMarks (s.doors.get x) (s.doorsAfter x k) ∨ s.berthOf x ≠ some b →
      (doorBlock x k s).board.berths.get b = s.board.berths.get b) := by
  set t := judgeCloseOrders x k (writeLeaves x k s) with ht
  have hkept : t.links = s.links ∧ t.board = s.board ∧ t.trip = s.trip ∧ (t.doors.get x).marks = (s.doors.get x).marks := by
    rw [ht]
    unfold judgeCloseOrders
    split <;> simp [writeLeaves]
  obtain ⟨hlinks, hboard, htrip, hmarks⟩ := hkept
  have hberth : t.berthOf x = s.berthOf x := by cases x <;> simp [State.berthOf, State.berthA, htrip]
  have hafter : (doorBlock x k s).doors.get x = s.doorsAfter x k := by rw [doorBlock_doors, PerCar.get_set_same]
  have hnew : NewMarks (t.doors.get x) ((judgeUnauthorised x k t).doors.get x) ↔ NewMarks (s.doors.get x) (s.doorsAfter x k) := by
    rw [← hafter, NewMarks, NewMarks, hmarks]
    rfl
  have houtcome := judgeUnauthorised_outcome x k t
  rw [hnew, hlinks, hboard, hberth] at houtcome
  exact houtcome

/-! ### The passenger alarm (R79) -/

/-- The line record after a newly reported passenger alarm outside a move release. -/
def Trip.alarmed (t : Trip) : Trip :=
  match t.line with
  | .running ph => if ph = .holding then t else { t with line := .running .holding, stop := .hold, holdCause := some .alarm }
  | .recovery true => if t.stop = .hold ∨ t.stop = .service then t else { t with stop := .hold, holdCause := some .alarm }
  | _ => t

theorem takeAlarm_eq {s : State} (h : s.trip.moveRelease = false) :
    takeAlarm s = { raiseAll .passengerAlarm s with trip := s.trip.alarmed } := by
  unfold takeAlarm Trip.alarmed
  dsimp only [raiseAll]
  split
  next hline => simp [hline]
  next ph hne hline =>
    have hph : ph ≠ .holding := hne
    simp [hline, hph, holdTrip, setPhase]
  next hline =>
    split
    next hstop => simp [hline, hstop]
    next hstop => simp [hline, hstop]
    next hhold hservice =>
      have hstop : ¬(s.trip.stop = .hold ∨ s.trip.stop = .service) := fun e => e.elim hhold hservice
      simp [hline, hstop, holdMove, h]
  next h1 h2 h3 =>
    cases hline : s.trip.line with
    | running ph => exact absurd hline (h2 ph)
    | recovery m =>
      cases m
      · rfl
      · exact absurd hline h3
    | _ => rfl

/-- An alarm moves the line record within its line state's berths. -/
theorem alarmed_berthOf {s t : State} (h : t.trip = s.trip ∨ t.trip = s.trip.alarmed) (x : Car) : t.berthOf x = s.berthOf x := by
  have hberth : t.berthA = s.berthA := by
    unfold State.berthA
    rcases h with h | h
    · rw [h]
    · rw [h]
      unfold Trip.alarmed
      cases hline : s.trip.line with
      | running ph =>
        by_cases hp : ph = .holding <;> simp [hp, hline]
      | recovery m =>
        cases m
        · simp [hline]
        · by_cases hp : s.trip.stop = .hold ∨ s.trip.stop = .service <;> simp [hp, hline]
      | _ => simp [hline]
  cases x <;> simp [State.berthOf, hberth]

/-- What is handed on of a block that takes no trip cause, up to the counts. -/
theorem blockJudged_quietly {x : Car} {b : Bool} {k : StatusBlock} {s : State} (hover : k.overspeed = false)
    (hlocked : s.sup.drvEn = false ∨ s.sideLocked x k .left = true ∧ s.sideLocked x k .right = true) :
    blockJudged x b k s = if k.alarm && !b then takeAlarm (doorBlock x k s) else doorBlock x k s := by
  obtain ⟨-, hsup, -⟩ := doorBlock_frame x k s
  have hnone : causeIf ((doorBlock x k s).sup.drvEn && !(s.sideLocked x k .left && s.sideLocked x k .right)) .doorUnlockedMoving
      (doorBlock x k s) = doorBlock x k s := if_neg (by rcases hlocked with h | ⟨hl, hr⟩ <;> simp [*])
  rw [blockJudged, hnone, hover]
  rfl

/-! ### Counts (R195 to R197) -/

/-- A berth's figures after a boarded delta: the pen lowered, what it lacks counted as excess (R196). -/
def BerthBoard.boardedBy (v : BerthBoard) (n : Nat) : BerthBoard :=
  { v with pen := v.pen - n, excess := if v.pen < n then min 255 (v.excess + (n - v.pen)) else v.excess }

theorem boardAtBerth_eq (b : Berth) (n : Nat) (s : State) : boardAtBerth b n s =
    if (s.board.berths.get b).pen < n then raiseAll .countUncertain (s.setBoard b ((s.board.berths.get b).boardedBy n))
    else s.setBoard b ((s.board.berths.get b).boardedBy n) := by
  unfold boardAtBerth BerthBoard.boardedBy
  dsimp only
  split
  next h =>
    rw [Nat.sub_eq_zero_of_le (Nat.le_of_lt h)]
    rfl
  next => rfl

theorem boardAtBerth_board (b : Berth) (n : Nat) (s : State) :
    (boardAtBerth b n s).board = { s.board with berths := s.board.berths.set b ((s.board.berths.get b).boardedBy n) } := by
  rw [boardAtBerth_eq]
  split <;> simp [State.setBoard]

theorem boardAtBerth_flag (b : Berth) (n : Nat) (s : State) (q : Port) (j : Nat) :
    ((boardAtBerth b n s).links.get q).flags.getLsbD j = true ↔
      (s.links.get q).flags.getLsbD j = true ∨ j = 18 ∧ (s.board.berths.get b).pen < n := by
  rw [boardAtBerth_eq]
  split
  next h =>
    rw [raiseAll_flag]
    simp [Notice.code, h]
  next h => simp [h]

theorem berthOf_congr {s t : State} (h : t.trip = s.trip) (x : Car) : t.berthOf x = s.berthOf x := by
  cases x <;> simp [State.berthOf, State.berthA, h]

/-- A boarded and an alighted delta of a car that stands at no berth. -/
theorem counted_away {x : Car} {s : State} (n m : Nat) (hb : s.berthOf x = none) : alighted x m (boarded x n s) = s.setCarBoard x
    { s.board.cars.get x with onboard := min 255 ((s.board.cars.get x).onboard + n) - m } := by
  have hboarded : boarded x n s = s.setCarBoard x { s.board.cars.get x with onboard := min 255 ((s.board.cars.get x).onboard + n) } := by
    rw [boarded, hb]
    rfl
  have hthere : ∀ v, (s.setCarBoard x v).berthOf x = none := fun v => (berthOf_congr rfl x).trans hb
  rw [hboarded, alighted]
  dsimp only
  rw [hthere]
  simp [State.setCarBoard]

/-- A boarded and an alighted delta of a car at its berth: what they leave of the figures, the notice the boarded one's. -/
theorem counted_there {x : Car} {s : State} {b : Berth} (n m : Nat) (hb : s.berthOf x = some b) :
    (alighted x m (boarded x n s)).board = {
      berths := s.board.berths.set b
        { (s.board.berths.get b).boardedBy n with alighting := min 255 ((s.board.berths.get b).alighting + m) }
      cars := s.board.cars.set x { s.board.cars.get x with onboard := min 255 ((s.board.cars.get x).onboard + n) - m } } ∧
    (alighted x m (boarded x n s)).links = (boardAtBerth b n s).links := by
  have hboarded : boarded x n s = (boardAtBerth b n s).setCarBoard x
      { s.board.cars.get x with onboard := min 255 ((s.board.cars.get x).onboard + n) } := by
    rw [boarded, hb]
    dsimp only
    rw [boardAtBerth_board]
    rfl
  rw [hboarded, alighted]
  dsimp only
  rw [berthOf_congr (s := s) (by simp [boardAtBerth_keeps]), hb]
  simp [State.setCarBoard, State.setBoard, boardAtBerth_board, BerthBoard.boardedBy, satAdd]

/-- What the deltas of a block leave where they are counted. -/
theorem counted_outcome (x : Car) (n m : Nat) (s : State) :
    (alighted x m (boarded x n s)).board.cars = s.board.cars.set x
      { s.board.cars.get x with onboard := min 255 ((s.board.cars.get x).onboard + n) - m } ∧
    (∀ b, s.berthOf x = some b → (alighted x m (boarded x n s)).board.berths.get b =
      { (s.board.berths.get b).boardedBy n with alighting := min 255 ((s.board.berths.get b).alighting + m) }) ∧
    (∀ b, s.berthOf x ≠ some b → (alighted x m (boarded x n s)).board.berths.get b = s.board.berths.get b) ∧
    ∀ q j, ((alighted x m (boarded x n s)).links.get q).flags.getLsbD j = true ↔ (s.links.get q).flags.getLsbD j = true ∨
      j = 18 ∧ ∃ b, s.berthOf x = some b ∧ (s.board.berths.get b).pen < n := by
  cases hb : s.berthOf x with
  | none =>
    rw [counted_away n m hb]
    simp
  | some b =>
    obtain ⟨hboard, hlinks⟩ := counted_there n m hb
    rw [hboard, hlinks]
    refine ⟨rfl, fun b' hb' => ?_, fun b' hb' => ?_, fun q j => ?_⟩
    · cases hb'
      simp
    · exact PerBerth.get_set_ne _ _ _ _ fun e => hb' (by rw [e])
    · rw [boardAtBerth_flag]
      simp

/-- The counts handed on leave the berth states and every notice but COUNT_UNCERTAIN. -/
theorem handOnCounts_stands (x : Car) (first : Bool) (k : StatusBlock) (s : State) :
    (∀ b, ((handOnCounts x first k s).board.berths.get b).state = (s.board.berths.get b).state) ∧
    ∀ j, j ≠ 18 → FlagKept j s (handOnCounts x first k s) := by
  have hcounts : ∀ (d : Option (Nat × Nat)) (t : State), (∀ b, ((handCounts x first d t).board.berths.get b).state = (t.board.berths.get b).state) ∧
      ∀ j, j ≠ 18 → FlagKept j t (handCounts x first d t) := fun d t => by
    unfold handCounts
    split
    · exact ⟨fun _ => rfl, fun _ _ _ => rfl⟩
    next n m =>
      split
      · unfold markUncertain
        dsimp only
        split
        · exact ⟨fun _ => rfl, fun _ _ _ => rfl⟩
        · exact ⟨fun _ => rfl, fun j hj => raiseAll_kept .countUncertain _ hj⟩
      · obtain ⟨-, hthere, haway, hflag⟩ := counted_outcome x n m t
        refine ⟨fun b => ?_, fun j hj q => Bool.eq_iff_iff.mpr ((hflag q j).trans (by simp [hj]))⟩
        by_cases hb : t.berthOf x = some b
        · rw [hthere b hb]
          rfl
        · rw [haway b hb]
  unfold handOnCounts
  dsimp only
  split
  · exact hcounts _ _
  · exact ⟨fun _ => rfl, fun _ _ _ => rfl⟩

/-! ### What a block hands on without a trip cause -/

/-- A block that takes no trip cause, on the state with the block applied. -/
structure QuietBlock (x : Car) (k : StatusBlock) (s : State) : Prop where
  speed : k.overspeed = false
  locked : s.sup.drvEn = false ∨ s.sideLocked x k .left = true ∧ s.sideLocked x k .right = true
  release : s.trip.moveRelease = false

/-- Its outcome but for the counts: the doors, the notices, the berth moved and the alarm. -/
theorem QuietBlock.judged {x : Car} {b : Bool} {k : StatusBlock} {s : State} (h : QuietBlock x k s) :
    (blockJudged x b k s).doors = s.doors.set x (s.doorsAfter x k) ∧ (blockJudged x b k s).sup = s.sup ∧
    (blockJudged x b k s).trip = (if k.alarm && !b then s.trip.alarmed else s.trip) ∧
    (blockJudged x b k s).board = (doorBlock x k s).board ∧
    ∀ q j, ((blockJudged x b k s).links.get q).flags.getLsbD j = true ↔ ((doorBlock x k s).links.get q).flags.getLsbD j = true ∨
      (k.alarm && !b) = true ∧ j = 16 := by
  obtain ⟨htrip, hsup, -⟩ := doorBlock_frame x k s
  rw [blockJudged_quietly h.speed h.locked]
  cases k.alarm && !b
  · simp [doorBlock_doors, hsup, htrip]
  · rw [if_pos rfl, takeAlarm_eq (by rw [htrip, h.release])]
    refine ⟨doorBlock_doors x k s, hsup, congrArg Trip.alarmed htrip, rfl, fun q j => ?_⟩
    exact (raiseAll_flag .passengerAlarm (doorBlock x k s) q j).trans (by simp [Notice.code])

theorem doorsAfter_side (s : State) (x : Car) (k : StatusBlock) (d : Side) :
    (s.doorsAfter x k).close.get d = ((s.doors.get x).close.get d && !(!s.stale x && s.sideLocked x k d)) ∧
    (s.doorsAfter x k).grants.get d = (s.doors.get x).grants.get d := by
  unfold State.doorsAfter
  cases hstale : s.stale x
  · cases d <;> simp [CarDoors.marked, CarDoors.closed, PerSide.get]
  · simp

theorem doorsAfter_mark (s : State) (x : Car) (k : StatusBlock) (d : Side) {i : Nat} (hi : i < 6) :
    ((s.doorsAfter x k).marks.get d).getLsbD i = true ↔
      if s.stale x = false ∧ (s.present x d).getLsbD i = true then
        ((k.leaves.get d).toList.getD i .absent = .open ∨ (k.leaves.get d).toList.getD i .absent = .moving) ∧
          (s.doorsAfter x k).close.get d = false ∧ ¬∃ g, (s.doors.get x).grants.get d = some g ∧ g.set.getLsbD i = true
      else ((s.doors.get x).marks.get d).getLsbD i = true := by
  unfold State.doorsAfter
  cases hstale : s.stale x
  · have hmark := judgeMarks_bit (({ s.doors.get x with leaves := s.written x k } : CarDoors).closed (s.sideLocked x k .left) (s.sideLocked x k .right))
      d (s.present x d) (openingSet (k.leaves.get d)) hi
    rw [openingSet_bit _ hi] at hmark
    cases d <;> simpa [CarDoors.marked, CarDoors.closed, PerSide.get] using hmark
  · simp

theorem usable_iff (l : Link) : l.usable = true ↔ l = .complete ∨ l = .check := by cases l <;> simp [Link.usable]

/-- What a block applied to the link leaves for the judgements that follow. -/
theorem blockApplied_judgements (x : Car) (k : StatusBlock) (s : State) :
    (∀ d, (blockApplied x k s).present x d = s.present x d) ∧ (∀ d, (blockApplied x k s).sideLocked x k d = s.sideLocked x k d) ∧
    (blockApplied x k s).stale x = !(((s.track.cars.get x).afterBlock k).link.usable) := by
  have hlink : (blockApplied x k s).track.cars.get x = ((s.track.cars.get x).keepBlock k).applied k := by
    rw [blockApplied_track]
    exact PerCar.get_set_same _ _ _
  have hpresent : ∀ d, (blockApplied x k s).present x d = s.present x d := State.present_ability (by
    rw [hlink]
    exact (applied_keeps _ k).1)
  refine ⟨hpresent, fun d => ?_, ?_⟩
  · unfold State.sideLocked
    rw [hpresent]
  · rw [State.stale, hlink, afterBlock_eq]

theorem takeStatus_link (x : Car) (k : StatusBlock) (s : State) :
    (endTurn (takeStatus x k (unquiet s))).track.cars.get x = (s.track.cars.get x).afterBlock k := by
  rw [endTurn, State.setTrack, takeStatus_track]
  exact PerCar.get_set_same _ _ _

/-- Settles O36: the door controller's judgements bit by bit, then the alarm, the counts handed on leaving both. -/
theorem statusBlockJudgesDoorsAndAlarm : Obligations.StatusBlockJudgesDoorsAndAlarm := by
  intro x k s hlimit hheard hturn hover hlocked hrelease
  refine ⟨endTurn (takeStatus x k (unquiet s)), exec_statusBlock hlimit hheard hturn, ?_⟩
  set u := blockApplied x k (unquiet s) with hu
  obtain ⟨-, -, htrip, hsup, hdoors, hboard, -, hlinks⟩ := blockApplied_keeps x k (unquiet s)
  obtain ⟨hpresent, hside, hstale⟩ := blockApplied_judgements x k (unquiet s)
  rw [← hu] at htrip hsup hdoors hboard hlinks hpresent hside hstale
  have hquiet : QuietBlock x k u :=
    { speed := hover, locked := by rw [hsup, hside, hside]; exact hlocked, release := by rw [htrip]; exact hrelease }
  obtain ⟨hjdoors, hjsup, hjtrip, hjboard, hjflag⟩ := hquiet.judged (b := (s.track.cars.get x).alarm)
  obtain ⟨hflag, hmoved, hstood⟩ := doorBlock_outcome x k u
  obtain ⟨-, hctrip, hcsup, hcdoors, -⟩ := handOnCounts_keeps x ((s.track.cars.get x).link == .confirm) k (blockJudged x (s.track.cars.get x).alarm k u)
  obtain ⟨hcstate, hcflag⟩ := handOnCounts_stands x ((s.track.cars.get x).link == .confirm) k (blockJudged x (s.track.cars.get x).alarm k u)
  intro usable c v opening granted newly alarm
  have husable : u.stale x = false ↔ usable := by
    rw [hstale]
    simp only [usable, takeStatus_link, Bool.not_eq_false', usable_iff]
    rfl
  have hv : v = u.doorsAfter x k := by
    show (takeStatus x k (unquiet s)).doors.get x = _
    rw [takeStatus_eq]
    exact (congrArg (PerCar.get · x) (hcdoors.trans hjdoors)).trans (PerCar.get_set_same _ _ _)
  have hnewly : newly ↔ NewMarks (u.doors.get x) (u.doorsAfter x k) := by
    rw [← hv, hdoors]
    rfl
  have halarm : alarm ↔ (k.alarm && !(s.track.cars.get x).alarm) = true := by
    rw [Bool.and_eq_true, Bool.not_eq_true']
    rfl
  have hberth : u.berthOf x = s.berthOf x := berthOf_congr htrip x
  have hsides : ∀ d, u.sideLocked x k d = s.sideLocked x k d := hside
  have hpresents : ∀ d, u.present x d = s.present x d := hpresent
  have hraised : ∀ q j, j ≠ 14 → (u.links.get q).flags.getLsbD j = (s.links.get q).flags.getLsbD j := hlinks
  have hflags : ∀ q j, j ≠ 18 → ((endTurn (takeStatus x k (unquiet s))).links.get q).flags.getLsbD j =
      ((blockJudged x (s.track.cars.get x).alarm k u).links.get q).flags.getLsbD j := fun q j hj => hcflag j hj q
  have hstate : ∀ b, ((endTurn (takeStatus x k (unquiet s))).board.berths.get b).state = ((doorBlock x k u).board.berths.get b).state := fun b =>
    (hcstate b).trans (by rw [hjboard])
  refine ⟨fun d => ?_, fun d i hi => ?_, ?_, fun q => ?_, fun b hn hb => ?_, fun b hb => ?_, fun q => ?_, ?_, ?_⟩
  · obtain ⟨hclose, hgrants⟩ := doorsAfter_side u x k d
    have hcurrent : (!u.stale x) = decide usable := Bool.eq_iff_iff.mpr (by rw [decide_eq_true_iff, ← husable, Bool.not_eq_true'])
    rw [hcurrent, hsides, hdoors] at hclose
    rw [hdoors] at hgrants
    rw [hv]
    exact ⟨hclose, hgrants⟩
  · have hmark := doorsAfter_mark u x k d hi
    rw [hpresents, hdoors, ← hv] at hmark
    refine hmark.trans ?_
    by_cases hcase : usable ∧ (s.present x d).getLsbD i = true
    · rw [if_pos hcase, if_pos ⟨husable.mpr hcase.1, hcase.2⟩]
      rfl
    · rw [if_neg hcase, if_neg fun h => hcase ⟨husable.mp h.1, h.2⟩]
      rfl
  · refine (congrArg (PerCar.get · x.other) (hcdoors.trans hjdoors)).trans ?_
    rw [PerCar.get_set_ne _ _ _ _ (by cases x <;> decide), hdoors]
    rfl
  · rw [hflags q 17 (by decide), hjflag, hflag, hraised q 17 (by decide), hnewly, hberth]
    simp
  · rw [hstate, hmoved b (hnewly.mp hn) (hberth.trans hb), hboard]
    rfl
  · rw [hstate, hstood b (hb.imp (fun h => fun hn => h (hnewly.mpr hn)) fun h => fun e => h (hberth.symm.trans e)), hboard]
    rfl
  · rw [hflags q 16 (by decide), hjflag, hflag, hraised q 16 (by decide), halarm]
    simp
  · have hafter : (endTurn (takeStatus x k (unquiet s))).trip = (if k.alarm && !(s.track.cars.get x).alarm then u.trip.alarmed else u.trip) :=
      hctrip.trans hjtrip
    rw [hafter, htrip]
    by_cases ha : alarm
    · rw [if_pos ha, if_pos (halarm.mp ha)]
      rfl
    · rw [if_neg ha, if_neg fun h => ha (halarm.mpr h)]
      rfl
  · exact (hcsup.trans hjsup).trans hsup

/-! ### The counts handed on (R155) -/

/-- Counts with no baselines are not counted, and neither are those of an unusable link. -/
theorem handOnCounts_none {x : Car} {first : Bool} {k : StatusBlock} {s : State}
    (h : (s.track.cars.get x).link.usable = false ∨ (s.track.cars.get x).baselines = none) :
    (handOnCounts x first k s).board = s.board ∧ (handOnCounts x first k s).links = s.links := by
  unfold handOnCounts
  dsimp only
  split
  next hu =>
    have hnone : (s.track.cars.get x).baselines = none := h.resolve_left (by simp [hu])
    rw [hnone]
    exact ⟨rfl, rfl⟩
  next => exact ⟨rfl, rfl⟩

theorem handOnCounts_deltas {x : Car} {first : Bool} {k : StatusBlock} {s : State} {p : Byte × Byte}
    (hu : (s.track.cars.get x).link.usable = true) (hp : (s.track.cars.get x).baselines = some p) : handOnCounts x first k s =
    handCounts x first (some ((k.boarded.toNat + 256 - p.1.toNat) % 256, (k.alighted.toNat + 256 - p.2.toNat) % 256))
      (s.setCar x { s.track.cars.get x with baselines := some (k.boarded, k.alighted) }) := by
  have hdelta : ∀ a b : Byte, (a - b).toNat = (a.toNat + 256 - b.toNat) % 256 := fun a b => by
    have := b.isLt
    rw [BitVec.toNat_sub]
    congr 1
    omega
  unfold handOnCounts
  dsimp only
  rw [if_pos hu, hp, blockDeltas, Option.map_some, hdelta, hdelta]

theorem markUncertain_outcome (x : Car) (s : State) :
    (markUncertain x s).board.cars = s.board.cars.set x { s.board.cars.get x with uncertain := true } ∧
    (markUncertain x s).board.berths = s.board.berths ∧
    ∀ q j, ((markUncertain x s).links.get q).flags.getLsbD j = true ↔
      (s.links.get q).flags.getLsbD j = true ∨ j = 18 ∧ (s.board.cars.get x).uncertain = false := by
  unfold markUncertain
  dsimp only
  split
  next h =>
    refine ⟨?_, rfl, fun q j => by simp [h]⟩
    rw [← h]
    cases x <;> rfl
  next h =>
    refine ⟨by simp [State.setCarBoard], rfl, fun q j => ?_⟩
    rw [raiseAll_flag]
    simp [h, Notice.code]

theorem handOnCounts_other (x : Car) (first : Bool) (k : StatusBlock) (s : State) :
    (handOnCounts x first k s).board.cars.get x.other = s.board.cars.get x.other := by
  have hother : x.other ≠ x := by cases x <;> decide
  have hcounts : ∀ (d : Option (Nat × Nat)) (t : State), (handCounts x first d t).board.cars.get x.other = t.board.cars.get x.other := fun d t => by
    unfold handCounts
    split
    · rfl
    · split
      · rw [(markUncertain_outcome x t).1, PerCar.get_set_ne _ _ _ _ hother]
      · rw [(counted_outcome x _ _ t).1, PerCar.get_set_ne _ _ _ _ hother]
  unfold handOnCounts
  dsimp only
  split
  · exact hcounts _ _
  · rfl

/-- What the judgements of a block that takes no trip cause leave for its counts. -/
theorem QuietBlock.uncounted {x : Car} {b : Bool} {k : StatusBlock} {s : State} (h : QuietBlock x k s) :
    (blockJudged x b k s).board.cars = s.board.cars ∧
    (∀ i, (blockJudged x b k s).board.berths.get i =
      { s.board.berths.get i with state := ((blockJudged x b k s).board.berths.get i).state }) ∧
    FlagKept 18 s (blockJudged x b k s) ∧ (blockJudged x b k s).berthOf x = s.berthOf x := by
  obtain ⟨-, -, htrip, hboard, hflag⟩ := h.judged (b := b)
  obtain ⟨hdflag, hmoved, hstood⟩ := doorBlock_outcome x k s
  obtain ⟨-, -, -, hcars⟩ := doorBlock_keeps x k s
  rw [hboard]
  refine ⟨hcars, fun i => ?_, fun q => Bool.eq_iff_iff.mpr ?_, alarmed_berthOf ?_ x⟩
  · by_cases hi : NewMarks (s.doors.get x) (s.doorsAfter x k) ∧ s.berthOf x = some i
    · rw [hmoved i hi.1 hi.2]
      rw [moveOut_eq]
    · rw [hstood i (not_and_or.mp hi)]
  · rw [hflag, hdflag]
    simp
  · rw [htrip]
    split
    · exact .inr rfl
    · exact .inl rfl

/-- Settles O37: the counts by their baselines and deltas, on the figures that the block's judgements left. -/
theorem statusBlockHandsOnCounts : Obligations.StatusBlockHandsOnCounts := by
  intro x k s hlimit hheard hturn hover hlocked hrelease
  refine ⟨_, exec_statusBlock hlimit hheard hturn, ?_⟩
  have hframe : SeqFrame (endTurn (takeStatus x k (unquiet s))) (settleWith true (endTurn (takeStatus x k (unquiet s)))) :=
    settleWith_seqFrame true _
  generalize settleWith true (endTurn (takeStatus x k (unquiet s))) = t at hframe
  set u := blockApplied x k (unquiet s) with hu
  set w := blockJudged x (s.track.cars.get x).alarm k u with hw
  set y := handOnCounts x ((s.track.cars.get x).link == .confirm) k w with hy
  obtain ⟨-, -, htrip, hsup, -, hboard, -, hlinks⟩ := blockApplied_keeps x k (unquiet s)
  obtain ⟨-, hside, -⟩ := blockApplied_judgements x k (unquiet s)
  have hquiet : QuietBlock x k u :=
    { speed := hover, locked := by rw [hsup, hside, hside]; exact hlocked, release := by rw [htrip]; exact hrelease }
  obtain ⟨hcars, hberths, hflag, hberth⟩ := hquiet.uncounted (b := (s.track.cars.get x).alarm)
  have htrack : w.track.cars.get x = ((s.track.cars.get x).keepBlock k).applied k := by
    rw [hw, (blockJudged_keeps _ _ _ _).2.1, hu, blockApplied_track]
    exact PerCar.get_set_same _ _ _
  intro c usable n raised kept figures unchanged
  have hbase : (w.track.cars.get x).baselines = c.baselines := by
    rw [htrack]
    exact (applied_keeps _ k).2.2.2.2.1
  have husable : (w.track.cars.get x).link.usable = true ↔ usable := by
    simp only [usable, hframe.track, takeStatus_link, usable_iff, htrack, afterBlock_eq]
  have hown : ∀ q, (w.links.get q).flags.getLsbD 18 = (s.links.get q).flags.getLsbD 18 := fun q => (hflag q).trans (hlinks q 18 (by decide))
  have hlast : ∀ q, (t.links.get q).flags.getLsbD 18 = (y.links.get q).flags.getLsbD 18 := fun q => hframe.quiet q 18 rfl
  have hwcars : w.board.cars = s.board.cars := hcars.trans (congrArg Board.cars hboard)
  have htcars : t.board.cars = y.board.cars := hframe.cars
  have hwberth : w.berthOf x = s.berthOf x := hberth.trans (berthOf_congr htrip x)
  have hfigures : ∀ b pen alighting excess, y.board.berths.get b = { w.board.berths.get b with
      pen := pen, alighting := alighting, excess := excess } → figures b pen alighting excess := fun b pen alighting excess h => by
    have hyb : (endTurn (takeStatus x k (unquiet s))).board.berths.get b = { w.board.berths.get b with
      pen := pen, alighting := alighting, excess := excess } := h
    refine (hframe.berths b).trans ?_
    rw [hyb, hberths b, hboard]
    rfl
  have hsame : ∀ b, w.board.berths.get b = { w.board.berths.get b with
      pen := (s.board.berths.get b).pen, alighting := (s.board.berths.get b).alighting, excess := (s.board.berths.get b).excess } := fun b => by
    rw [hberths b, hboard]
    rfl
  refine ⟨?_, fun hnone => ?_, fun p hu hp => ?_⟩
  · rw [htcars, hy, handOnCounts_other, hwcars]
  · obtain ⟨hyboard, hylinks⟩ := handOnCounts_none (first := (s.track.cars.get x).link == .confirm) (k := k) (s := w)
      (hnone.imp (fun h => Bool.eq_false_iff.mpr fun e => h (husable.mp e)) fun h => hbase.trans h)
    refine ⟨?_, fun q => ?_, fun b => hfigures b _ _ _ ?_⟩
    · rw [htcars, hyboard, hwcars]
    · rw [hlast, hylinks, hown]
    · rw [hyboard]
      exact hsame b
  · intro boarded alighted discarded
    have hdelta := handOnCounts_deltas (first := (s.track.cars.get x).link == .confirm) (k := k) (husable.mpr hu) (hbase.trans hp)
    rw [← hy] at hdelta
    set v := w.setCar x { w.track.cars.get x with baselines := some (k.boarded, k.alighted) } with hv
    have hmark : (((s.track.cars.get x).link == .confirm) && (decide (64 < boarded) || decide (64 < alighted))) = true ↔ discarded := by
      simp [discarded, c]
    have hvcars : (v.board.cars.get x) = n := congrArg (PerCar.get · x) hwcars
    have hvlinks : v.links = w.links := rfl
    have hvberth : v.berthOf x = s.berthOf x := (berthOf_congr rfl x).trans hwberth
    refine ⟨fun hd => ?_, fun hd => ?_⟩
    · have hy : y = markUncertain x v := hdelta.trans (if_pos (hmark.mpr hd))
      obtain ⟨hycars, hyberths, hyflag⟩ := markUncertain_outcome x v
      rw [← hy] at hycars hyberths hyflag
      refine ⟨?_, fun b => hfigures b _ _ _ ?_, fun hn q => ?_, fun hn q => ?_⟩
      · rw [htcars, hycars, PerCar.get_set_same, hvcars]
      · rw [hyberths]
        exact hsame b
      · rw [hlast]
        exact (hyflag q 18).mpr (.inr ⟨rfl, by rw [hvcars, hn]⟩)
      · rw [hlast, ← hown]
        exact Bool.eq_iff_iff.mpr ((hyflag q 18).trans (by rw [hvcars, hn, hvlinks]; simp))
    · have hy : y = Machine.alighted x alighted (Machine.boarded x boarded v) := hdelta.trans (if_neg fun e => hd (hmark.mp e))
      obtain ⟨hycars, hythere, hyaway, hyflag⟩ := counted_outcome x boarded alighted v
      rw [← hy, hvberth] at hythere hyaway hyflag
      rw [← hy] at hycars
      have hpen : ∀ b, (v.board.berths.get b).pen = (s.board.berths.get b).pen := fun b =>
        show (w.board.berths.get b).pen = _ by rw [hsame b]
      refine ⟨?_, fun b hb => hfigures b _ _ _ ?_, fun hb q => ?_, fun b hb => ?_⟩
      · rw [htcars, hycars, PerCar.get_set_same, hvcars]
      · rw [hyaway b hb]
        exact hsame b
      · rw [hlast, ← hown]
        exact Bool.eq_iff_iff.mpr ((hyflag q 18).trans (by rw [hvlinks]; simp [hb]))
      · intro r
        refine ⟨hfigures b _ _ _ ?_, fun hlow q => ?_, fun hhigh q => ?_⟩
        · have hvb : v.board.berths.get b = { w.board.berths.get b with pen := r.pen, alighting := r.alighting, excess := r.excess } := hsame b
          rw [hythere b hb, hvb]
          rfl
        · rw [hlast]
          exact (hyflag q 18).mpr (.inr ⟨rfl, b, hb, by rw [hpen]; exact hlow⟩)
        · rw [hlast, ← hown]
          have hnot : ¬(s.board.berths.get b).pen < boarded := Nat.not_lt.mpr hhigh
          exact Bool.eq_iff_iff.mpr ((hyflag q 18).trans (by rw [hvlinks]; simp [hb, hpen, hnot]))

end Sys2Proof.Machine
end

section
/-! PROOFS. What leaves the track line alone, and the one way out of DOWN (O41). -/

namespace Sys2Proof.Machine

/-! ### Requests that leave the track line alone -/

section
variable (p : Port) (body : List Byte) (s : State)

theorem openLine_track : (openLine s).track = s.track := by
  unfold openLine
  dsimp only
  split <;> simp [enterAligned]

theorem runWith_track (d : Dir) (halt : Bool) (speed : Nat) : (runWith d halt speed s).1.track = s.track := by
  have haccept : ∀ a b c e, (acceptRun a b c e s).track = s.track := fun a b c e => by simp [acceptRun]
  unfold runWith
  split
  · rfl
  · split
    · rfl
    · split
      · rfl
      · exact haccept _ _ _ _

theorem endDispatch_track (e : Ending) : (endDispatch e s).track = s.track := by
  unfold endDispatch
  dsimp only
  split <;> simp

theorem holdBody_track {take : State × Reply} (h : take.1.track = s.track) : (holdBody body s take).1.track = s.track := by
  unfold holdBody
  split
  · exact h
  · rfl

theorem resetTrip_track : (resetTrip s).track = s.track := by
  have hchosen : ∀ c t, (enterChosen c t).track = t.track := fun c t => by
    unfold enterChosen
    split <;> simp [enterAligned]
  rw [resetTrip_eq, hchosen]
  simp

theorem moveTo_track (b : Berth) : (moveTo b s).1.track = s.track := by
  unfold moveTo
  split
  · rfl
  · split
    · rfl
    · split
      · rfl
      · split
        · rfl
        · simp [acceptMove]

theorem doorReleaseAt_track (b : Berth) (d : Side) : (doorReleaseAt p b d s).1.track = s.track := by
  unfold doorReleaseAt
  split
  · split
    · rfl
    · split
      · rfl
      · simp [answerWith]
  · rfl

theorem closeSide_track (x : Car) (d : Side) : (closeSide x d s).track = s.track := by
  unfold closeSide
  split
  · simp
  · split <;> rfl

theorem closeSides_track (x : Car) (set : Byte) : (closeSides x set s).track = s.track := by
  unfold closeSides
  induction sidesOf set generalizing s with
  | nil => rfl
  | cons d l ih => exact (ih _).trans (closeSide_track s x d)

theorem doorCloseAt_track (b : Berth) (set : Byte) : (doorCloseAt b set s).1.track = s.track := by
  unfold doorCloseAt
  dsimp only [answerWith]
  split <;> simp [closeSides_track]

theorem boardingOpenAt_track (b : Berth) : (boardingOpenAt b s).1.track = s.track := by
  unfold boardingOpenAt
  split
  · rfl
  · split
    · rfl
    · split
      · rfl
      · split
        · rfl
        · split <;> rfl

theorem raiseOnBoth_track (n : Notice) : (raiseOnBoth n p s).track = s.track := by
  unfold raiseOnBoth
  split <;> simp

theorem admission_track (g : Nat) (code : Byte) (group : Nat) (b : Berth) : (admitAt p g code group b s).1.track = s.track := by
  unfold admitAt
  split
  · rfl
  · split
    · rfl
    · split
      · rfl
      · split
        · exact raiseOnBoth_track _ _ _
        · rfl

theorem passEntry_track (g n : Nat) (b : Berth) : (passEntry p g n b s).1.track = s.track := by
  unfold passEntry
  split
  · rfl
  · exact raiseOnBoth_track _ _ _

theorem stationClearAt_track (b : Berth) (e : Bool) : (stationClearAt b e s).1.track = s.track := by
  have hclear : ∀ x, (clearStation b x s).1.track = s.track := fun x => by
    cases x <;> rfl
  unfold stationClearAt
  split
  · rfl
  · split
    · rfl
    · split
      · split
        · split
          · exact hclear _
          · rfl
        · rfl
      · exact hclear _

theorem setConsent_track (v : Bool) : (setConsent p v s).track = s.track := by
  unfold setConsent
  split <;> rfl

end

/-- Every request but TABLE COMMIT and COUNTS READ leaves the track line alone. -/
theorem serve_track (r : Request) (hcommit : r ≠ .tableCommit) (hcounts : r ≠ .countsRead) (p : Port) (body : List Byte) (s : State) :
    (r.serve p body s).1.track = s.track := by
  cases r
  case tableCommit => exact absurd rfl hcommit
  case countsRead => exact absurd rfl hcounts
  all_goals
    simp only [Request.serve, reqStatusRead, reqNoticeClear, reqNoticeEnable, reqEmergencyStop, reqTableBegin, reqTableEntries, reqTableRead,
      reqOpenLine, reqCloseLine, reqModeSet, reqRun, reqHold, reqResume, reqTripReset, reqRecoveryMove, reqBrakeTest, reqRailTest,
      reqDepartConsent, reqDoorRelease, reqDoorClose, reqBoardingOpen, reqBoardingClose, reqAdmit, reqPassage, reqStationClear, reqWeather]
    repeat' split
  all_goals
    simp [done, openLine_track, setMode, runWith_track, holdBody_track, endDispatch_track, resetTrip_track, moveTo_track, acceptBrakeTest,
      acceptRailTest, setConsent_track, doorReleaseAt_track, doorCloseAt_track, boardingOpenAt_track, admission_track, passEntry_track, passExit,
      stationClearAt_track]

/-! ### A link in DOWN stays there -/

/-- A car's link in DOWN before is in DOWN after. -/
def DownHeld (x : Car) (s t : State) : Prop := (s.track.cars.get x).link = .down → (t.track.cars.get x).link = .down

namespace DownHeld
variable {x : Car} {s t u : State}

theorem refl (s : State) : DownHeld x s s := id

theorem trans (h : DownHeld x s t) (k : DownHeld x t u) : DownHeld x s u := k ∘ h

theorem of_track (h : t.track = s.track) : DownHeld x s t := fun e => by rw [h, e]

theorem of_cars (h : t.track.cars = s.track.cars) : DownHeld x s t := fun e => by rw [h, e]

theorem thenIf {c : Prop} [Decidable c] {f : State → State} (h : DownHeld x s t) (k : c → DownHeld x t (f t)) : DownHeld x s (if c then f t else t) := by
  split
  · exact h.trans (k ‹_›)
  · exact h

theorem settled (h : DownHeld x s t) (b : State) : DownHeld x s (settle b t) := h.trans (of_track (settle_seqFrame b t).track)

end DownHeld

section
variable (x : Car)

/-- A link record changed but for a state of DOWN. -/
theorem setCar_down (y : Car) (v : CarLink) (s : State) (h : (s.track.cars.get y).link = .down → v.link = .down) :
    DownHeld x s (s.setCar y v) := fun e => by
  by_cases hx : x = y
  · subst hx
    simpa using h e
  · simpa [PerCar.get_set_ne _ _ _ _ hx] using e

/-- A link moved from another state than DOWN. -/
theorem setLink_held (y : Car) (l : Link) (s : State) (h : (s.track.cars.get y).link ≠ .down) : DownHeld x s (setLink y l s) := by
  rw [setLink_eq]
  split
  · exact .refl s
  · have hmoved : DownHeld x s (linkMoved y l s) := fun e => by
      have hne : x ≠ y := fun hx => h (hx ▸ e)
      simp [PerCar.get_set_ne _ _ _ _ hne, e]
    split
    · exact hmoved.trans (.of_track (by simp))
    · exact hmoved

theorem compareAbility_down (y : Car) (s : State) : DownHeld x s (compareAbility y s) := by
  unfold compareAbility
  split
  next hlink =>
    have hup : (s.track.cars.get y).link ≠ .down := by simp [hlink.1]
    split
    · split
      · refine (setLink_held x y .confirm s hup).trans (.trans ?_ (.of_track rfl))
        exact setCar_down x y _ _ id
      · exact setLink_held x y .mismatch s hup
    · exact .refl s
  next => exact .refl s

theorem relisten_down (y : Car) (s : State) : DownHeld x s (relisten y s) := by
  unfold relisten
  dsimp only
  split
  · exact .refl s
  next hup => exact (setCar_down x y _ s (by exact id)).trans (setLink_held x y .listen _ (by simpa using hup))

theorem retakeReference_track (s : State) : (retakeReference s).track = s.track := by
  unfold retakeReference
  split <;> rfl

theorem commitValidated_down (v : Validated) (s : State) : DownHeld x s (commitValidated v s).1 := by
  have hcommit : DownHeld x s (match v with | .line h => commitLine h s | _ => done (commitOther v s)).1 := by
    split
    next h =>
      refine .of_track ?_
      unfold commitLine
      dsimp only [answerWith]
      rw [(causeIf_measured _ _ _).track]
      split <;> simp [retakeReference_track]
    next =>
      dsimp only [done]
      cases v with
      | cars c =>
        have htables : DownHeld x s (s.setTables { s.tables with cars := some c, staging := none }) := .of_track rfl
        exact (htables.trans (relisten_down x .a _)).trans (relisten_down x .b _)
      | _ => exact .of_track rfl
  unfold commitValidated
  dsimp only
  split
  · exact hcommit
  · exact (hcommit.trans (compareAbility_down x .a _)).trans (compareAbility_down x .b _)

theorem serve_down (r : Request) (p : Port) (body : List Byte) (s : State) : DownHeld x s (r.serve p body s).1 := by
  by_cases hcommit : r = .tableCommit
  · subst hcommit
    show DownHeld x s (reqTableCommit p body s).1
    unfold reqTableCommit
    split
    · exact .refl s
    split
    · exact .refl s
    split
    · exact .refl s
    split
    · exact .refl s
    · exact commitValidated_down x _ s
  by_cases hcounts : r = .countsRead
  · subst hcounts
    show DownHeld x s (reqCountsRead p body s).1
    unfold reqCountsRead
    split
    · exact .refl s
    split
    · exact fun e => by simpa [zeroAll, CarLink.read] using e
    · exact .of_track rfl
  · exact .of_track (serve_track r hcommit hcounts p body s)

/-! ### Requests by their slots and frames -/

theorem setPort_down (p : Port) (q : PortState) (s : State) : DownHeld x s (s.setPort p q) := .of_track rfl

theorem execute_down (p : Port) (f : Frame) (s : State) : DownHeld x s (execute p f s) := by
  refine .trans (t := (takeRequest p f.kind f.body s).1) ?_ (.of_track rfl)
  unfold takeRequest
  split
  · dsimp only
    split
    · split
      · exact serve_down x _ p _ s
      · exact (serve_down x _ p _ s).settled s
    · exact .refl s
  · exact .refl s

theorem deliver_down (p : Port) (kind : Byte) (body : List Byte) (s : State) : DownHeld x s (deliver p kind body s) := by
  unfold deliver
  split
  · exact execute_down x p _ s
  · exact .of_track rfl
  · exact .of_track (by simp)

theorem discard_down (p : Port) (e : LinkError) (s : State) : DownHeld x s (discard p e s) := .of_track (by simp [discard])

theorem goodCharacter_down (p : Port) (b : Byte) (s : State) : DownHeld x s (goodCharacter p b s) := by
  unfold goodCharacter
  dsimp only
  split
  · split <;> exact .of_track rfl
  · exact .of_track rfl
  · split
    · exact discard_down x _ _ s
    · exact .of_track rfl
  · exact .of_track rfl
  · split
    · exact (setPort_down x _ _ s).trans (deliver_down x _ _ _ _)
    · exact discard_down x _ _ s

theorem takeCharacter_down (p : Port) (samples : List (BitVec 3)) (s : State) : DownHeld x s (takeCharacter p samples s) := by
  unfold takeCharacter
  split
  · exact .of_track rfl
  · exact (setPort_down x _ _ s).trans (discard_down x _ _ _)
  · exact discard_down x _ _ s
  · exact goodCharacter_down x _ _ s

theorem finishAnswer_down (p : Port) (s : State) : DownHeld x s (finishAnswer p s) := by
  unfold finishAnswer
  dsimp only
  split
  · exact (setPort_down x _ _ s).trans (execute_down x p _ _)
  · exact .of_track rfl

end

end Sys2Proof.Machine
end

section
/-! PROOFS. Every event but its car's ACCEPT leaves a link in DOWN (O41). -/

namespace Sys2Proof.Machine

section
variable (x : Car)

theorem Goes.kept {s t : State} (h : t.track = s.track) : Goes (DownHeld x s) (.next t) := .next (.of_track h)

/-- A command that takes its event on a condition and does nothing otherwise. -/
theorem Goes.whenDown {s t : State} {c : Prop} [Decidable c] (h : c → DownHeld x s t) : Goes (DownHeld x s) (if c then .next t else .next s) :=
  .ite (fun hc => .next (h hc)) fun _ => .next (.refl s)

theorem Goes.unlessDown {s t : State} {c : Prop} [Decidable c] (h : ¬c → DownHeld x s t) : Goes (DownHeld x s) (if c then .next s else .next t) :=
  .ite (fun _ => .next (.refl s)) fun hc => .next (h hc)

/-! ### The rope and the marker inputs -/

theorem judgeStandstill_track (s : State) : (judgeStandstill s).track = s.track := by
  unfold judgeStandstill
  split <;> simp

theorem activeEdge_track (m : MarkerInput) (s : State) : (activeEdge m s).track = s.track := by
  have hset : ∀ c t, (setCertainty c t).track = t.track := fun c t => by simp
  have hcorrect : ∀ y e t, (correct y e t).track = t.track := fun y e t => by
    unfold correct
    dsimp only
    repeat' split
    all_goals simp
  have hattribute : ∀ t, (attributeEdge m t).track = t.track := fun t => by
    unfold attributeEdge
    split
    · exact hcorrect _ _ _
    · exact hcorrect _ _ _
    · rfl
  have hestablish : ∀ y p h t, (establish y p h t).track = t.track := fun y p h t =>
    (causeIf_measured _ _ _).track.trans (hset _ _)
  unfold activeEdge
  split
  · split
    · split
      · exact hestablish _ _ _ _
      · rfl
    · rfl
  · split
    · rfl
    · exact hattribute s

theorem setLevel_track (m : MarkerInput) (v : Bool) (s : State) : (setLevel m v s).track = s.track := by
  unfold setLevel
  split <;> rfl

theorem execCountStep_down (ch : Chan) (l : PhaseLine) (n : Nat) (s : State) : Goes (DownHeld x s) (execCountStep ch l n s) := by
  obtain ⟨t, ht, hmeasured⟩ := countStep_measured ch l n s
  refine ⟨t, ht, .of_track ?_⟩
  rw [hmeasured.track]
  exact (stepped_keeps s ch l (max s.now n)).2.1

theorem execQuadratureError_down (ch : Chan) (s : State) : Goes (DownHeld x s) (execQuadratureError ch s) :=
  .next (DownHeld.settled (.of_track (by simp)) s)

theorem execStandstillGapExpiry_down (ch : Chan) (s : State) : Goes (DownHeld x s) (execStandstillGapExpiry ch s) :=
  .whenDown x fun _ => DownHeld.settled (.of_track (by simp)) s

theorem execStandstillDwellExpiry_down (s : State) : Goes (DownHeld x s) (execStandstillDwellExpiry s) :=
  .whenDown x fun _ => DownHeld.settled (.of_track (by simp [judgeStandstill_track, clearMarkedOrders])) s

theorem execMarkerEdge_down (m : MarkerInput) (v : Bool) (s : State) : Goes (DownHeld x s) (execMarkerEdge m v s) :=
  .ite (fun _ => .next (.refl s)) fun _ =>
    .ite (fun _ => .next (DownHeld.settled (.of_track ((activeEdge_track m _).trans (setLevel_track m v s))) s)) fun _ =>
      .next (DownHeld.settled (.of_track (setLevel_track m v s)) s)

/-! ### The line, the trip, the supervisor and the tests -/

theorem execStalenessLimitExpiry_down (s : State) : Goes (DownHeld x s) (execStalenessLimitExpiry s) :=
  .whenDown x fun _ => .of_track (by simp)

theorem execDispatchTimeout_down (s : State) : Goes (DownHeld x s) (execDispatchTimeout s) :=
  .whenDown x fun _ => DownHeld.settled (.of_track (by simp [endDispatch_track])) s

theorem profileStepWith_track (h : Header) (s : State) : (profileStepWith h s).track = s.track := by
  have hform : ∀ t, (formStep h t).track = t.track := fun t => by
    unfold formStep
    dsimp only
    split <;> simp
  unfold profileStepWith
  dsimp only
  split <;> simp [hform]

theorem execProfileStep_down (s : State) : Goes (DownHeld x s) (execProfileStep s) := by
  unfold execProfileStep
  split
  · exact .next (DownHeld.settled (.of_track (by simp [profileStepWith_track])) s)
  · exact .next (.refl s)

theorem watchDoorZone_track (b : Bool) (s : State) : (watchDoorZone b s).track = s.track := (causeIf_measured _ _ s).track

theorem judgeEnvelope_track (e : Nat) (s : State) : (judgeEnvelope e s).track = s.track := by
  unfold judgeEnvelope
  dsimp only
  split <;> simp

theorem sampleWith_track (h : Header) (s : State) : (sampleWith h s).track = s.track := by
  have hformed : ∀ c : Bool, ∀ e t, (judgeSpeeds (if c then judgeEnvelope e t else idleEnvelope t)).track = t.track := fun c e t => by
    cases c
    · rfl
    · exact judgeEnvelope_track e t
  unfold sampleWith
  dsimp only
  have hramp : (rampCaps h s).track = s.track := rfl
  split <;> simp only [causeIf_frame, serviceStop_frame, watchDoorZone_track, hformed, hramp]

theorem sampleBlind_track (s : State) : (sampleBlind s).track = s.track := by
  rw [sampleBlind, watchDoorZone_track]
  rfl

theorem execSupervisionSample_down (s : State) : Goes (DownHeld x s) (execSupervisionSample s) := by
  unfold execSupervisionSample
  split
  · exact .next (DownHeld.settled (.of_track (sampleWith_track _ s)) s)
  · exact .next (DownHeld.settled (.of_track (sampleBlind_track s)) s)

theorem execBrakeFeedbackChange_down (br : Brake) (v : Bool) (s : State) : Goes (DownHeld x s) (execBrakeFeedbackChange br v s) := by
  have htake : (takeFeedback br v s).track = s.track := by cases br <;> rfl
  refine .unlessDown x fun _ => DownHeld.settled (.of_track ?_) s
  split <;> simp [htake]

theorem execBrakeFeedbackLimitExpiry_down (br : Brake) (s : State) : Goes (DownHeld x s) (execBrakeFeedbackLimitExpiry br s) := by
  have hstop : (stopFeedbackLimit br s).track = s.track := by cases br <;> rfl
  exact .whenDown x fun _ => DownHeld.settled (.of_track (by simp [hstop])) s

theorem execEbTestWindowExpiry_down (s : State) : Goes (DownHeld x s) (execEbTestWindowExpiry s) := by
  unfold execEbTestWindowExpiry
  split
  · exact .next (DownHeld.settled (.of_track (by simp)) s)
  · exact .next (.refl s)

theorem execCreepLimitExpiry_down (s : State) : Goes (DownHeld x s) (execCreepLimitExpiry s) := by
  unfold execCreepLimitExpiry
  split
  · exact .next (DownHeld.settled (.of_track (by simp)) s)
  · exact .next (.refl s)

theorem execBrakeLimitExpiry_down (s : State) : Goes (DownHeld x s) (execBrakeLimitExpiry s) := by
  unfold execBrakeLimitExpiry
  split
  · exact .next (DownHeld.settled (.of_track (by simp)) s)
  · exact .next (.refl s)

theorem execObligationMinute_down (s : State) : Goes (DownHeld x s) (execObligationMinute s) := by
  refine .next (DownHeld.settled (.of_track ?_) s)
  split
  · split <;> simp
  · split <;> simp

theorem execPassageWindowExpiry_down (b : Berth) (s : State) : Goes (DownHeld x s) (execPassageWindowExpiry b s) :=
  .unlessDown x fun _ => DownHeld.settled (.of_track (by simp)) s

/-! ### The track line -/

theorem tryTurn_down (s : State) : DownHeld x s (tryTurn s) := by
  unfold tryTurn
  split
  · split <;> exact .of_cars rfl
  · exact .refl s

theorem missAnswer_down (s : State) : DownHeld x s (missAnswer s) := by
  cases ht : s.track.turn with
  | none =>
    rw [missAnswer, ht]
    exact .refl s
  | some t =>
    intro e
    by_cases hx : x = t.car
    · subst hx
      rw [missAnswer_eq ht]
      dsimp only
      have hcheck : ¬(t.kind = .poll ∧ (s.track.cars.get t.car).link = .complete) := fun h => by simp [e] at h
      rw [if_neg hcheck, if_neg hcheck]
      split
      · simpa using e
      · split <;> simpa using e
    · rw [missAnswer_eq ht]
      dsimp only
      split <;> simpa [PerCar.get_set_ne _ _ _ _ hx] using e

theorem missEvent_down (s : State) : DownHeld x s (missEvent s) := ((missAnswer_down x s).trans (tryTurn_down x _)).settled s

theorem unquiet_down (s : State) : DownHeld x s (unquiet s) := .of_cars rfl

theorem missedAnswer_down (s : State) : DownHeld x s (missEvent (unquiet s)) := (unquiet_down x s).trans (missEvent_down x _)

theorem takeCall_down (y : Car) (s : State) : DownHeld x s (takeCall y s) := by
  obtain ⟨c, l, e⟩ := takeCall_frame y s
  rw [e]
  exact .trans (setCar_down x y { s.track.cars.get y with window := true, calls := c } s id) (.of_cars rfl)

theorem strayDrive_down (s : State) : DownHeld x s (strayDrive s) := by
  rw [strayDrive_eq]
  split
  · exact ((unquiet_down x s).trans (takeCall_down x .a _)).trans (takeCall_down x .b _)
  · exact unquiet_down x s

theorem endTurn_down (s : State) : DownHeld x s (endTurn s) := .of_cars rfl

theorem answered_down {s t : State} (h : DownHeld x s t) : DownHeld x s (tryTurn (endTurn t)) :=
  (h.trans (endTurn_down x t)).trans (tryTurn_down x _)

theorem abilityLink_down (t : Tables) (y : Car) (r : Ability) (c : CarLink) (h : c.link = .down) : (abilityLink t y r c).link = .down := by
  simp [abilityLink, h]

theorem takeAbility_down (y : Car) (r : Ability) (s : State) : DownHeld x s (takeAbility y r s) := fun e => by
  rw [takeAbility_track]
  exact setCar_down x y _ s (abilityLink_down s.tables y r _) e

theorem afterBlock_down (k : StatusBlock) (c : CarLink) (h : c.link = .down) : (c.afterBlock k).link = .down := by
  rw [afterBlock_eq]
  show ((c.keepBlock k).applied k).link = .down
  rw [applied_link]
  simp [CarLink.keepBlock, h]

theorem takeStatus_down (y : Car) (k : StatusBlock) (s : State) : DownHeld x s (takeStatus y k s) := fun e => by
  rw [takeStatus_track]
  exact setCar_down x y _ s (afterBlock_down k _) e

theorem execInvalidAnswerReceived_down (s : State) : Goes (DownHeld x s) (execInvalidAnswerReceived s) :=
  .ite (fun _ => .next (missedAnswer_down x s)) fun _ => .next (strayDrive_down x s)

theorem execAbilityRecordReceived_down (l : List LineChar) (s : State) : Goes (DownHeld x s) (execAbilityRecordReceived l s) := by
  unfold execAbilityRecordReceived
  split
  · split
    · exact .next ((answered_down x ((unquiet_down x s).trans (takeAbility_down x _ _ _))).settled s)
    · exact .next (missedAnswer_down x s)
  · exact .next (strayDrive_down x s)

theorem execStatusBlockReceived_down (l : List LineChar) (s : State) : Goes (DownHeld x s) (execStatusBlockReceived l s) := by
  unfold execStatusBlockReceived
  split
  · split
    · exact .next ((answered_down x ((unquiet_down x s).trans (takeStatus_down x _ _ _))).trans (.of_track (settleWith_seqFrame _ _).track))
    · exact .next (missedAnswer_down x s)
  · exact .next (missedAnswer_down x s)
  · exact .next (strayDrive_down x s)

theorem execPollTimerExpiry_down (s : State) : Goes (DownHeld x s) (execPollTimerExpiry s) := by
  unfold execPollTimerExpiry
  split
  · exact .next (DownHeld.trans (.of_cars (by rfl)) (tryTurn_down x _))
  · exact .next (tryTurn_down x s)

theorem execFreeIntervalReached_down (s : State) : Goes (DownHeld x s) (execFreeIntervalReached s) := by
  exact .unlessDown x fun _ => .trans (.of_cars (by rfl)) (tryTurn_down x _)

theorem jam_down (s : State) : DownHeld x s (jam s) := by
  refine .of_cars ?_
  simp [jam, endTurn]

theorem execDriveLimitExpiry_down (s : State) : Goes (DownHeld x s) (execDriveLimitExpiry s) := by
  refine .ite (fun _ => .next (.refl s)) fun _ => .ite (fun _ => .next (.of_cars rfl)) fun _ =>
    .next ((DownHeld.trans (.of_cars (by rfl)) (jam_down x _)).settled s)

theorem loseCar_held (y : Car) (s : State) : DownHeld x s (loseCar y s) := by
  have hsilent : DownHeld x s (s.setCar y { s.track.cars.get y with silence := false }) := setCar_down x y _ s id
  by_cases h : (s.track.cars.get y).link = .mismatch ∨ (s.track.cars.get y).link = .down
  · rw [loseCar_kept h]
    exact hsilent
  · have hlost : loseCar y s = setLink y .down (s.setCar y { s.track.cars.get y with silence := false }) := by
      unfold loseCar
      dsimp only
      split
      · exact absurd (.inl ‹_›) h
      · rfl
    rw [hlost]
    exact hsilent.trans (setLink_held x y .down _ (by simpa using fun e => h (.inr e)))

theorem execSilenceLimitExpiry_down (y : Car) (s : State) : Goes (DownHeld x s) (execSilenceLimitExpiry y s) :=
  .whenDown x fun _ => (loseCar_held x y s).settled s

theorem execFreshnessLimitExpiry_down (y : Car) (s : State) : Goes (DownHeld x s) (execFreshnessLimitExpiry y s) :=
  .next ((setCar_down x y { s.track.cars.get y with fresh := false } s id).settled s)

/-! ### The one way out of DOWN (R144) -/

/-- The state and the character at which a car's link leaves DOWN: its ACCEPT, awaited and heard in an IDENTIFY turn. -/
def Accepts (c : LineChar) (s : State) : Prop :=
  c = lineChar x.acceptCode ∧ s.track.phase = .select ∧ s.track.acceptLimit = true ∧ s.track.unheard = false ∧ s.track.turn = some ⟨x, .identify⟩

theorem takeAccept_held (t : Turn) (s : State) (h : t ≠ ⟨x, .identify⟩) : DownHeld x s (takeAccept t s) := by
  obtain ⟨y, kind⟩ := t
  cases kind with
  | poll => exact .of_cars rfl
  | identify =>
    have hx : x ≠ y := fun e => h (by rw [e])
    by_cases hdown : (s.track.cars.get y).link = .down
    · rw [takeAccept_down hdown]
      refine .trans (fun e => ?_) (.of_track rfl)
      exact (congrArg CarLink.link (PerCar.get_set_ne _ _ _ _ hx)).trans e
    · rw [takeAccept_identify hdown]
      exact .of_cars rfl

theorem oneCharacter_held (c : LineChar) (s : State) (h : ¬Accepts x c s) : DownHeld x s (oneCharacter c s) := by
  by_cases hfree : s.track.phase = .free
  · rw [oneCharacter_free c s hfree]
    split
    · exact (unquiet_down x s).trans (takeCall_down x _ _)
    · exact strayDrive_down x s
  · unfold oneCharacter
    split
    · exact absurd ‹_› hfree
    next t hphase hears hturn =>
      split
      next haccept =>
        refine (takeAccept_held x t s fun ht => h ?_).settled s
        subst ht
        have heard : s.track.acceptLimit = true ∧ s.track.unheard = false := by simpa [Track.hearsAccept] using hears
        exact ⟨(acceptOf_eq_some c x).mp haccept, hphase, heard.1, heard.2, hturn⟩
      next =>
        split
        · exact unquiet_down x s
        · exact missedAnswer_down x s
    · exact unquiet_down x s

theorem deliver_goesDown (p : Port) (kind : Byte) (body : List Byte) (s : State) : Goes (DownHeld x s) (.next (deliver p kind body s)) :=
  .next (deliver_down x p kind body s)

/-- No command but its ACCEPT takes a car's link out of DOWN. -/
theorem exec_down (c : Instr) (s : State) (h : ∀ ch, c = .acceptReceived ch ∨ c = .callReceived ch → ¬Accepts x ch s) :
    Goes (DownHeld x s) (exec c s) := by
  cases c
  case powerOn => exact .next fun _ => by cases x <;> rfl
  case lineReset => exact .next fun _ => by cases x <;> rfl
  case stationCharacterReceived p samples => exact .unlessDown x fun _ => takeCharacter_down x p samples s
  case gapLimitExpiry p => exact .whenDown x fun _ => discard_down x p .gap s
  case answerSent p =>
    show Goes (DownHeld x s) (execAnswerSent p s)
    unfold execAnswerSent
    split
    · exact .next (finishAnswer_down x p s)
    · exact .next (.refl s)
  case startEdge p => exact .next (setPort_down x p _ s)
  case stalenessLimitExpiry => exact execStalenessLimitExpiry_down x s
  case countStep ch l n => exact execCountStep_down x ch l n s
  case quadratureError ch => exact execQuadratureError_down x ch s
  case standstillGapExpiry ch => exact execStandstillGapExpiry_down x ch s
  case standstillDwellExpiry => exact execStandstillDwellExpiry_down x s
  case markerEdge m v => exact execMarkerEdge_down x m v s
  case supervisionSample => exact execSupervisionSample_down x s
  case profileStep => exact execProfileStep_down x s
  case brakeFeedbackChange br v => exact execBrakeFeedbackChange_down x br v s
  case brakeFeedbackLimitExpiry br => exact execBrakeFeedbackLimitExpiry_down x br s
  case dispatchTimeout => exact execDispatchTimeout_down x s
  case ebTestWindowExpiry => exact execEbTestWindowExpiry_down x s
  case creepLimitExpiry => exact execCreepLimitExpiry_down x s
  case brakeLimitExpiry => exact execBrakeLimitExpiry_down x s
  case obligationMinute => exact execObligationMinute_down x s
  case passageWindowExpiry b => exact execPassageWindowExpiry_down x b s
  case pollTimerExpiry => exact execPollTimerExpiry_down x s
  case freeIntervalReached => exact execFreeIntervalReached_down x s
  case selectionSent => exact .whenDown x fun _ => .of_cars rfl
  case acceptReceived ch => exact .next (oneCharacter_held x ch s (h ch (.inl rfl)))
  case commandBlockSent => exact .whenDown x fun _ => .of_cars rfl
  case acceptLimitExpiry => exact .whenDown x fun _ => missEvent_down x s
  case answerLimitExpiry => exact .whenDown x fun _ => missEvent_down x s
  case invalidAnswerReceived => exact execInvalidAnswerReceived_down x s
  case statusBlockReceived l => exact execStatusBlockReceived_down x l s
  case abilityRecordReceived l => exact execAbilityRecordReceived_down x l s
  case callReceived ch => exact .next (oneCharacter_held x ch s (h ch (.inr rfl)))
  case garbledCall => exact .next (strayDrive_down x s)
  case callWindowExpiry y => exact .next (setCar_down x y { s.track.cars.get y with window := false } s id)
  case trackDriveStart => exact .unlessDown x fun _ => .of_cars rfl
  case trackDriveEnd => exact .next (.of_cars rfl)
  case driveLimitExpiry => exact execDriveLimitExpiry_down x s
  case silenceLimitExpiry y => exact execSilenceLimitExpiry_down x y s
  case freshnessLimitExpiry y => exact execFreshnessLimitExpiry_down x y s
  all_goals exact deliver_goesDown x _ _ _ s

end

/-- Settles O41: the ACCEPT of an IDENTIFY turn moves the link, and by `exec_down` nothing else does. -/
theorem linkLeavesDownByAcceptAlone : Obligations.LinkLeavesDownByAcceptAlone := by
  intro x s hdown accept
  have hcode : accept = lineChar x.acceptCode := acceptChar_eq x
  refine ⟨fun hphase hlimit hheard hturn => ?_, fun c t hexec hup => ?_⟩
  · have hframe : SeqFrame (takeAccept ⟨x, .identify⟩ s) (settle s (takeAccept ⟨x, .identify⟩ s)) := settle_seqFrame s _
    refine ⟨_, by rw [hcode, oneCharacter_waiting hphase hlimit hheard hturn], ?_⟩
    rw [hframe.track, takeAccept_down hdown]
    simp
  · by_contra hnot
    refine hup ((exec_down x c s fun ch hc haccept => hnot ?_).of_eq hexec hdown)
    obtain ⟨hch, hrest⟩ := haccept
    rw [hcode, ← hch]
    exact ⟨hc, hrest⟩

end Sys2Proof.Machine
end

section
/-! PROOFS. The profile step (O22): the setpoint and its terms, the start of a stop, the service stop. -/

namespace Sys2Proof.Machine

/-! ### The profile distance and the overrun (R68, R73) -/

theorem toGo_eq (s : State) (t : PerBerth BerthEntry) (c : Course) (x : Car) : s.toGo t c x =
    let b := c.target.get x
    let l := (s.trip.offsets.get x).get b
    if c.dir = .up ↔ x = .a then ((t.get b).position : Int) - l.ascending - s.pos x else s.pos x - ((t.get b).position + l.descending) := by
  have hasc := ascends_iff c.dir x
  unfold State.toGo State.offset
  by_cases h : c.dir = .up ↔ x = .a
  · rw [if_pos (hasc.mpr h)]
    exact (if_pos h).symm
  · rw [if_neg fun e => h (hasc.mp e)]
    exact (if_neg h).symm

theorem pastTarget_iff (s : State) : s.pastTarget = true ↔
    ∃ t c, s.tables.berths = some t ∧ s.course = some c ∧ (s.toGo t c .a < -1500 ∨ s.toGo t c .b < -1500) := by
  unfold State.pastTarget
  split
  next t c ht hc => simp [ht, hc]
  next h => exact ⟨nofun, fun ⟨t, c, ht, hc, _⟩ => (h t c ht hc).elim⟩

theorem overrun_running {s : State} {ph : Phase} (h : Header) (hline : s.trip.line = .running ph) : s.overrun h = s.pastTarget := by
  simp only [State.overrun, hline]

theorem overrun_moving {s : State} (h : Header) (hline : s.trip.line = .recovery true) :
    s.overrun h = if s.rope.certainty = .unknown then s.blindOverrun h else s.pastTarget := by
  simp only [State.overrun, hline]

theorem overrun_still {s : State} (h : Header) (hline : s.trip.line.inMotion = false) : s.overrun h = false := by
  unfold State.overrun
  cases hl : s.trip.line with
  | running ph => simp [hl, LineState.inMotion] at hline
  | recovery m => cases m <;> simp [hl, LineState.inMotion] at hline ⊢
  | _ => rfl

/-! ### The setpoint of a step (R69, R70) -/

theorem leastOf_three (a b : Nat) (l : Option Nat) (e : Nat) : leastOf a ([b] ++ l.toList ++ [e]) =
    match l with | some v => min (min (min a b) v) e | none => min (min a b) e := by
  cases l <;> rfl

theorem leastOf_two (a : Nat) (l : Option Nat) (e : Nat) : leastOf a (l.toList ++ [e]) =
    match l with | some v => min (min a v) e | none => min a e := by
  cases l <;> rfl

theorem stepCap_eq (s : State) (h : Header) : s.stepCap h =
    if s.trip.line = .testing .railA ∨ s.trip.line = .testing .railB then min h.vCr h.inspectionCap
    else match s.trip.record with
      | some r => if r.kind = .recovery then r.speed else min r.speed (modeCap s.trip.mode h)
      | none => 0 := by
  have hrail : s.trip.line.isRail = true ↔ s.trip.line = .testing .railA ∨ s.trip.line = .testing .railB := by
    cases s.trip.line with
    | testing k => cases k <;> simp [LineState.isRail]
    | _ => simp [LineState.isRail]
  unfold State.stepCap
  by_cases hr : s.trip.line.isRail = true
  · rw [if_pos hr, if_pos (hrail.mp hr)]
  · rw [if_neg hr, if_neg fun e => hr (hrail.mpr e)]
    cases s.trip.record with
    | none => rfl
    | some r => cases hk : r.kind <;> simp [hk]

/-- The phase by the term that gave the setpoint, in the order of R70. -/
theorem stepPhase_eq (s : State) (h : Header) (f : Nat) :
    let stopping := s.plan h = some f ∧ f < h.vCr
    let creep := s.plan h = some f ∧ f = h.vCr ∧ ∃ d, s.profileDist = some d ∧ 0 < d ∧ d ≤ h.creepRun
    let decel := s.plan h = some f ∧ ∃ d, s.profileDist = some d ∧ h.creepRun < d
    let cruise := f = s.stepCap h ∨ f = s.formE h
    (stopping → s.stepPhase h f = .stopping) ∧ (¬stopping → creep → s.stepPhase h f = .creep) ∧
    (¬stopping → ¬creep → decel → s.stepPhase h f = .decel) ∧ (¬stopping → ¬creep → ¬decel → cruise → s.stepPhase h f = .cruise) ∧
    (¬stopping → ¬creep → ¬decel → ¬cruise → s.stepPhase h f = .accel) := by
  intro stopping creep decel cruise
  cases hp : s.plan h with
  | none =>
    have hs : ¬stopping := fun e => by simp [stopping, hp] at e
    have hc : ¬creep := fun e => by simp [creep, hp] at e
    have hd : ¬decel := fun e => by simp [decel, hp] at e
    have hphase : s.stepPhase h f = if cruise then .cruise else .accel := by
      unfold State.stepPhase
      rw [hp]
      cases s.profileDist <;> rfl
    simp [hs, hc, hd, hphase]
  | some p =>
    have hdist : ∃ d, s.profileDist = some d := by
      unfold State.plan at hp
      split at hp
      · cases hp
      · cases hdist : s.profileDist with
        | none => simp [hdist] at hp
        | some d => exact ⟨d, rfl⟩
    obtain ⟨d, hdist⟩ := hdist
    have hs : (f = p ∧ p < h.vCr) ↔ stopping := by
      simp only [stopping, hp, Option.some.injEq]
      exact ⟨fun e => ⟨e.1.symm, e.1 ▸ e.2⟩, fun e => ⟨e.1.symm, e.1 ▸ e.2⟩⟩
    have hc : (f = p ∧ 0 < d ∧ d ≤ h.creepRun ∧ p = h.vCr) ↔ creep := by
      simp only [creep, hp, hdist, Option.some.injEq, exists_eq_left']
      exact ⟨fun ⟨e, h0, h1, hv⟩ => ⟨e.symm, e.trans hv, h0, h1⟩, fun ⟨e, hv, h0, h1⟩ => ⟨e.symm, h0, h1, e.trans hv⟩⟩
    have hd : (f = p ∧ (h.creepRun : Int) < d) ↔ decel := by
      simp only [decel, hp, hdist, Option.some.injEq, exists_eq_left']
      exact ⟨fun ⟨e, h1⟩ => ⟨e.symm, h1⟩, fun ⟨e, h1⟩ => ⟨e.symm, h1⟩⟩
    have hphase : s.stepPhase h f = if f = p ∧ p < h.vCr then .stopping else if f = p ∧ 0 < d ∧ d ≤ h.creepRun ∧ p = h.vCr then .creep
        else if f = p ∧ (h.creepRun : Int) < d then .decel else if cruise then .cruise else .accel := by
      unfold State.stepPhase
      rw [hp, hdist]
    rw [hphase]
    simp only [hs, hc, hd]
    exact ⟨fun a => if_pos a, fun a b => by rw [if_neg a, if_pos b], fun a b c => by rw [if_neg a, if_neg b, if_pos c],
      fun a b c e => by rw [if_neg a, if_neg b, if_neg c, if_pos e], fun a b c e => by rw [if_neg a, if_neg b, if_neg c, if_neg e]⟩

theorem planned_cases (h : Header) (d : Int) : (d ≤ 0 → planned h d = 0) ∧
    (0 < d → d ≤ h.creepRun → planned h d = min h.vCr (isqrt (2 * h.aDec * d.toNat))) ∧
    (h.creepRun < d → planned h d = isqrt (h.vCr * h.vCr + 2 * h.aDec * (d - h.creepRun).toNat)) := by
  unfold planned
  refine ⟨fun hd => ?_, fun hpos hd => ?_, fun hd => if_pos hd⟩
  · rw [if_neg (by omega), if_neg (by omega)]
  · rw [if_neg (by omega), if_pos hpos]

/-! ### The step (R67) -/

theorem plan_isSome (s : State) (h : Header) : (s.plan h).isSome = (decide (s.rope.certainty ≠ .unknown) && s.profileDist.isSome) := by
  unfold State.plan
  by_cases hc : s.rope.certainty = .unknown
  · simp [hc]
  · simp [hc]

/-- A step forms its setpoint, and its phase where no stop is in hand, in the line record alone. -/
theorem formStep_trip (h : Header) (s : State) : (formStep h s).trip = { s.trip with
    forming := s.formSetpoint h, distances := decide (s.rope.certainty ≠ .unknown) && s.profileDist.isSome
    line := match s.trip.line with
      | .running .holding => .running .holding
      | .running ph => if s.trip.stop = .none then .running (s.stepPhase h (s.formSetpoint h)) else .running ph
      | l => l } := by
  rw [← plan_isSome s h]
  unfold formStep
  dsimp only
  split
  next hfree =>
    obtain ⟨hstop, hnot⟩ := hfree
    unfold setPhase
    split
    next ph hline =>
      have hph : ph ≠ .holding := fun e => hnot (by rw [hline, e])
      cases ph <;> simp_all
    next hline =>
      cases hl : s.trip.line with
      | running ph => exact absurd hl (hline ph)
      | _ => rfl
  next hheld =>
    have hline : (match s.trip.line with
        | .running .holding => LineState.running .holding
        | .running ph => if s.trip.stop = .none then .running (s.stepPhase h (s.formSetpoint h)) else .running ph
        | l => l) = s.trip.line := by
      cases hl : s.trip.line with
      | running ph =>
        cases ph
        case holding => rfl
        all_goals
          have hstop : ¬s.trip.stop = .none := fun e => hheld ⟨e, by rw [hl]; nofun⟩
          exact if_neg hstop
      | _ => rfl
    rw [hline]

theorem formStep_rest (h : Header) (s : State) : { formStep h s with trip := s.trip } = s := by
  unfold formStep setPhase
  dsimp only
  split
  · split <;> rfl
  · rfl

theorem exec_profileStep {s : State} {h : Header} (hstep : s.trip.stepping = true) (hheader : s.tables.header = some h) :
    exec .profileStep s = .next (settle s (profileStop (profileStepWith h s))) := by
  show execProfileStep s = _
  simp only [execProfileStep, hstep, hheader]

theorem exec_profileStep_idle {s : State} (h : s.trip.stepping = false ∨ s.tables.header = none) : exec .profileStep s = .next s := by
  show execProfileStep s = _
  unfold execProfileStep
  split
  next hstep hheader => rcases h with h | h <;> simp [h] at hstep hheader
  next => rfl

/-! ### The start of a stop of kind PROFILE (R74) -/

theorem profiled_iff (s : State) : s.profiled = true ↔ s.trip.line.inMotion = true ∧ (s.trip.line = .recovery true → s.trip.distances = true) := by
  unfold State.profiled
  cases hline : s.trip.line with
  | running ph => simp [LineState.inMotion]
  | recovery m => cases m <;> simp [LineState.inMotion]
  | _ => simp [LineState.inMotion]

/-- The figures at which a stop of kind PROFILE begins (R74). -/
def State.profileDue (s : State) : Prop :=
  s.trip.line.inMotion = true ∧ (s.trip.line = .recovery true → s.trip.distances = true) ∧ s.trip.stepping = true ∧ s.trip.stop = .none ∧
    s.rope.certainty ≠ .unknown ∧ s.trip.held = 0 ∧ s.vSup = 0 ∧
    ∃ h d, s.tables.header = some h ∧ s.profileDist = some d ∧ planned h d = 0

theorem setSb_off_eq (s : State) (hline : s.trip.line.inMotion = true) : setSb false s = { s with
    sup := if s.sup.sbRel then { s.sup with
        sbRel := false, sbLimit := s.sup.sbFb, dirWatch := none
        rollaway := if s.sup.rollaway = none ∧ s.rope.flag = true then some s.rope.sRef else s.sup.rollaway }
      else s.sup } := by
  have hline' : (s.trip.line != .testing .eb) = true := by
    cases hl : s.trip.line with
    | testing k => simp [hl, LineState.inMotion] at hline
    | _ => rfl
  cases hsb : s.sup.sbRel
  · rw [setSb_same hsb]
    rfl
  · unfold setSb armRollaway
    rw [if_neg (by rw [hsb]; nofun)]
    cases hroll : s.sup.rollaway <;> cases hflag : s.rope.flag <;> simp [hline', hroll, hflag]

theorem profileStop_due {s : State} (h : s.profileDue) : profileStop s = { s with
    trip := { s.trip with stop := .profile }
    sup := if s.sup.sbRel then { s.sup with
        sbRel := false, sbLimit := s.sup.sbFb, dirWatch := none
        rollaway := if s.sup.rollaway = none ∧ s.rope.flag = true then some s.rope.sRef else s.sup.rollaway }
      else s.sup } := by
  obtain ⟨hmotion, hdistances, hstep, hstop, hcertainty, hheld, hv, hd, d, hheader, hdist, hplanned⟩ := h
  have hcond : (s.profiled && s.trip.stepping && s.trip.stop == .none && s.rope.certainty != .unknown && s.trip.held == 0 && s.vSup == 0) = true := by
    simp [(profiled_iff s).mpr ⟨hmotion, hdistances⟩, hstep, hstop, hcertainty, hheld, hv]
  rw [profileStop, if_pos hcond, hheader, hdist]
  dsimp only
  rw [if_pos hplanned, setSb_off_eq s hmotion]

theorem profileStop_undue {s : State} (h : ¬s.profileDue) : profileStop s = s := by
  unfold profileStop
  split
  next hcond =>
    split
    next hd d hheader hdist =>
      split
      next hplanned =>
        simp only [Bool.and_eq_true, beq_iff_eq, bne_iff_ne] at hcond
        obtain ⟨⟨⟨⟨⟨hprofiled, hstep⟩, hstop⟩, hcertainty⟩, hheld⟩, hv⟩ := hcond
        obtain ⟨hmotion, hdistances⟩ := (profiled_iff s).mp hprofiled
        exact absurd ⟨hmotion, hdistances, hstep, hstop, hcertainty, hheld, hv, hd, d, hheader, hdist, hplanned⟩ h
      next => rfl
    next => rfl
  next => rfl

/-! ### The service stop (R100) -/

/-- What a service stop leaves, whatever an undecided rail test has still to record. -/
theorem serviceStop_taken {c : ServiceCause} {s : State} (hline : s.trip.line.supervised = true) (hstop : s.trip.stop ≠ .service)
    (hnone : s.sup.causes = []) : (serviceStop c s).trip = (serviceStopped c s).trip ∧ (serviceStop c s).sup = (serviceStopped c s).sup ∧
    ∀ q j, ((serviceStopped c s).links.get q).flags.getLsbD j = true → ((serviceStop c s).links.get q).flags.getLsbD j = true := by
  have habort : ∀ k u, ∀ q j, (u.links.get q).flags.getLsbD j = true → ((abortToEnding k u).links.get q).flags.getLsbD j = true := fun k u q j h => by
    have hlinks : (abortToEnding k u).links = (raiseAll .testDone u).links := by simp [abortToEnding, setStage, stopTestLimits, writeTest]
    rw [hlinks]
    exact (raiseAll_flag .testDone u q j).mpr (.inl h)
  rw [serviceStop_eq, if_pos (by simp [hline, hstop, hnone])]
  split
  · split
    · exact ⟨rfl, rfl, fun _ _ => id⟩
    · exact ⟨by simp, by simp, habort _ _⟩
  · exact ⟨rfl, rfl, fun _ _ => id⟩

theorem serviceStop_untaken {c : ServiceCause} {s : State} (h : ¬(s.trip.line.supervised = true ∧ s.trip.stop ≠ .service ∧ s.sup.causes = [])) :
    serviceStop c s = s := by
  rw [serviceStop_eq]
  refine if_neg fun e => h ?_
  simpa [and_assoc] using e

theorem serviceStopped_trip (c : ServiceCause) (s : State) : (serviceStopped c s).trip = { s.trip with
    held := 0, forming := 0, stop := .service, holdCause := some .service, moveRelease := false
    stepping := s.trip.stepping && !s.sup.drvEn, frameCount := (s.trip.frameCount + 1) % 256
    frame := (serviceStopped c s).trip.frame
    line := match s.trip.line with | .running _ => .running .holding | l => l } ∧ (serviceStopped c s).trip.frame.speed = 0 := by
  unfold serviceStopped setPhase
  dsimp only
  split
  next ph hline =>
    have hrun : s.trip.line = .running ph := by simpa [forceZero, emitFrame, setDrv_off_trip_eq, -setDrv_off_trip] using hline
    simp [forceZero, emitFrame, setDrv_off_trip_eq, -setDrv_off_trip, hrun]
  next hline =>
    have hrun : ∀ ph, s.trip.line ≠ .running ph := fun ph h =>
      hline ph (by simpa [forceZero, emitFrame, setDrv_off_trip_eq, -setDrv_off_trip] using h)
    have hsame : (match s.trip.line with | .running _ => LineState.running .holding | l => l) = s.trip.line := by
      cases hl : s.trip.line with
      | running ph => exact absurd hl (hrun ph)
      | _ => rfl
    rw [hsame]
    simp [forceZero, emitFrame, setDrv_off_trip_eq, -setDrv_off_trip]

theorem serviceStopped_sup (c : ServiceCause) (s : State) : (serviceStopped c s).sup.sbRel = false ∧ (serviceStopped c s).sup.drvEn = false ∧
    (serviceStopped c s).sup.ebRel = s.sup.ebRel ∧ (serviceStopped c s).sup.lastService = some c ∧
    (serviceStopped c s).sup.serviceCount = min 255 (s.sup.serviceCount + 1) ∧
    ∀ p, ((serviceStopped c s).links.get p).flags.getLsbD 9 = true := by
  refine ⟨by simp [serviceStopped], by simp [serviceStopped], by simp [serviceStopped], by simp [serviceStopped],
    by simp [serviceStopped, satAdd], fun p => ?_⟩
  have hlinks : (serviceStopped c s).links = (raiseAll .serviceStop s).links := by simp [serviceStopped]
  rw [hlinks]
  exact (raiseAll_flag .serviceStop s p 9).mpr (.inr rfl)

theorem and_bit_of_set {f : NoticeSet} {n : Notice} (h : f.getLsbD n.code = true) : f &&& n.bit = n.bit := by
  refine BitVec.eq_of_getLsbD_eq fun i _ => ?_
  rw [BitVec.getLsbD_and]
  by_cases hi : i = n.code
  · rw [hi, h, Bool.true_and]
  · rw [notice_bit_other hi, Bool.and_false]

/-- Settles O22: the step by its two stages, the stops by their conditions, the setpoint by its terms. -/
theorem profileStepFormsTheSetpoint : Obligations.ProfileStepFormsTheSetpoint := by
  refine ⟨fun s => ⟨exec_profileStep_idle, fun h hstep hheader => ?_⟩, fun s => ⟨profileStop_due, profileStop_undue⟩, fun s => ?_, fun h s => ?_⟩
  · refine ⟨emitFrame { s with trip := { s.trip with held := s.trip.forming } },
      formStep h (emitFrame { s with trip := { s.trip with held := s.trip.forming } }), rfl, rfl, formStep_trip h _, ?_,
      exec_profileStep hstep hheader⟩
    exact congrArg (fun t : State => { t with trip := s.trip }) (formStep_rest h (emitFrame { s with trip := { s.trip with held := s.trip.forming } }))
  · intro t taken
    refine ⟨fun ⟨hline, hstop, hnone⟩ => ?_, serviceStop_untaken⟩
    obtain ⟨htrip, hsup, hflags⟩ := serviceStop_taken (c := .berthOverrun) hline hstop hnone
    obtain ⟨hfields, hspeed⟩ := serviceStopped_trip .berthOverrun s
    obtain ⟨hsb, hdrv, heb, hlast, hcount, hbit⟩ := serviceStopped_sup .berthOverrun s
    have htrip' : t.trip = (serviceStopped .berthOverrun s).trip := htrip
    have hsup' : t.sup = (serviceStopped .berthOverrun s).sup := hsup
    rw [htrip', hsup', hspeed, hsb, hdrv, heb, hlast, hcount, hfields]
    refine ⟨rfl, rfl, rfl, rfl, rfl, rfl, rfl, fun ph hrun => by rw [hrun], rfl, rfl, rfl, rfl, rfl, fun p => ?_⟩
    exact and_bit_of_set (n := .serviceStop) (hflags p 9 (hbit p))
  · intro course toGo past
    have hcourse : course = s.course := rfl
    have htoGo : ∀ t c x, toGo t c x = s.toGo t c x := fun t c x => (toGo_eq s t c x).symm
    have hpast : s.pastTarget = true ↔ past := by
      simp only [past, hcourse, htoGo]
      exact pastTarget_iff s
    refine ⟨?_, fun ph hline => ?_, fun hline => ?_, overrun_still h, ?_⟩
    · rw [hcourse]
      unfold State.profileDist
      cases s.tables.berths with
      | none => rfl
      | some t =>
        cases s.course with
        | none => rfl
        | some c => simp only [htoGo]
    · rw [overrun_running h hline, hpast]
    · rw [overrun_moving h hline]
      split
      · exact decide_eq_true_iff
      · exact hpast
    · intro plan least cap
      have hcap : s.stepCap h = cap := stepCap_eq s h
      have hphase := stepPhase_eq s h
      rw [hcap] at hphase
      refine ⟨?_, hphase, planned_cases h⟩
      unfold State.formSetpoint
      cases s.trip.stop with
      | none => exact (leastOf_three _ _ _ _).trans (by rw [hcap]; rfl)
      | hold =>
        dsimp only
        split
        · exact leastOf_two _ _ _
        · rfl
      | _ => rfl

end Sys2Proof.Machine
end

section
/-! PROOFS. The speed supervisor's sample: the caps and the envelope (O23). -/

namespace Sys2Proof.Machine

/-! ### What the causes and stops of a sample leave -/

/-- The supervisor's own figures of a sample: the caps, E with its warning and the over-S run. -/
def State.sampleFigures (s : State) : (Option Nat × Option Nat) × Nat × Bool × Nat :=
  ((s.sup.windCap, s.sup.certCap), s.sup.envelope, s.sup.warning, s.sup.overS)

/-- The measurement, the sample's figures and the warning's notice stand, and the obligations, the trip number and the weather. -/
structure Sampled (s t : State) : Prop where
  measured : Measured s t
  figures : t.sampleFigures = s.sampleFigures
  obligations : t.sched.obligations = s.sched.obligations
  number : t.trip.number = s.trip.number
  weather : t.trip.weather = s.trip.weather
  flag : FlagKept 2 s t

namespace Sampled
variable {s t u : State}

theorem refl (s : State) : Sampled s s := ⟨.refl s, rfl, rfl, rfl, rfl, fun _ => rfl⟩

theorem trans (h : Sampled s t) (k : Sampled t u) : Sampled s u where
  measured := h.measured.trans k.measured
  figures := k.figures.trans h.figures
  obligations := k.obligations.trans h.obligations
  number := k.number.trans h.number
  weather := k.weather.trans h.weather
  flag := h.flag.trans k.flag

theorem of_seqFrame (h : SeqFrame s t) : Sampled s t where
  measured := h.measured
  figures := by rw [State.sampleFigures, h.sup]; rfl
  obligations := by rw [h.sched]
  number := by rw [h.trip]
  weather := by rw [h.trip]
  flag q := h.quiet q 2 rfl

theorem of_links (h : Measured s t) (hsup : t.sampleFigures = s.sampleFigures) (hsched : t.sched.obligations = s.sched.obligations)
    (htrip : t.trip = s.trip) (hflag : FlagKept 2 s t) : Sampled s t := ⟨h, hsup, hsched, by rw [htrip], by rw [htrip], hflag⟩

end Sampled

theorem clearTestOrder_sampled (x : Car) (s : State) : Sampled s (clearTestOrder x s) := by
  have hclears : ∀ v o, Sampled s { s with sup := { s.sup with railOrder := v, orderClears := o } } := fun v o =>
    ⟨.of_rope rfl rfl rfl rfl rfl, rfl, rfl, rfl, rfl, fun _ => rfl⟩
  unfold clearTestOrder
  split
  · split
    · exact hclears _ _
    · exact hclears _ _
  · exact .refl s

theorem endTestAtTrip_sampled (s : State) : Sampled s (endTestAtTrip s) := by
  have hdone : ∀ k, Sampled s (raiseAll .testDone (writeTest k .aborted s.sched.largest s)) := fun k =>
    .of_links (.of_rope (by simp [writeTest]) (by simp [writeTest]) (by simp [writeTest]) (by simp [writeTest]) (by simp [writeTest]))
      (by rfl) (by rfl) (by rfl) (raiseAll_kept .testDone (writeTest k .aborted s.sched.largest s) (by decide))
  have hcleared : ∀ t : State, Sampled s t →
      Sampled s (clearTestOrder .b (clearTestOrder .a (stopTestLimits { t with sched := { t.sched with test := none } }))) := fun t h =>
    ((h.trans (u := stopTestLimits { t with sched := { t.sched with test := none } })
      ⟨.of_rope rfl rfl rfl rfl rfl, rfl, rfl, rfl, rfl, fun _ => rfl⟩).trans (clearTestOrder_sampled .a _)).trans (clearTestOrder_sampled .b _)
  unfold endTestAtTrip
  split
  · refine hcleared _ ?_
    split
    · exact .refl s
    · exact hdone _
  · exact .refl s

theorem tripLine_sampled (e : CauseEntry) (s : State) : Sampled s (tripLine e s) := by
  have hdown := ((SeqFrame.trans (setEb_seqFrame false s) (setSb_seqFrame false _)).trans (setDrv_seqFrame false _))
  have hzero : ∀ t : State, Sampled t (tripController (forceZero t)) := fun t =>
    ⟨.of_rope (by simp) (by simp) (by simp) (by simp) (by simp), by simp [State.sampleFigures], by simp, by rfl, by rfl, fun q => by simp⟩
  have htripped : ∀ t : State, Sampled t (restartFeedback { t with sup := { t.sup with
      causes := [e], tripCount := satAdd 255 t.sup.tripCount 1 } }) := fun t =>
    ⟨.of_rope (by rfl) (by rfl) (by rfl) (by rfl) (by rfl), by rfl, by rfl, by rfl, by rfl, fun q => by rfl⟩
  have hraised : ∀ t : State, Sampled t (moveAllBerths (raiseAll .trip t)) := fun t =>
    .of_links (.of_rope (by simp) (by simp) (by simp) (by simp) (by simp)) (by simp [State.sampleFigures]) (by simp) (by simp)
      fun q => by simpa using raiseAll_kept (j := 2) .trip t (by decide) q
  exact ((((((Sampled.of_seqFrame hdown).trans (hzero _)).trans (endTestAtTrip_sampled _)).trans (.of_seqFrame (enterLine_seqFrame .tripped _))).trans
    (htripped _)).trans (.of_seqFrame (armRollaway_seqFrame _))).trans (hraised _)

theorem listCause_sampled (e : CauseEntry) (s : State) : Sampled s (listCause e s) := by
  have hraised : ∀ v : Sup, v.windCap = s.sup.windCap → v.certCap = s.sup.certCap → v.envelope = s.sup.envelope → v.warning = s.sup.warning →
      v.overS = s.sup.overS → Sampled s (raiseAll .trip { s with sup := v }) := fun v h1 h2 h3 h4 h5 =>
    .of_links (.of_rope (by simp) (by simp) (by simp) (by simp) (by simp)) (by simp [State.sampleFigures, *]) (by simp) (by simp)
      (raiseAll_kept .trip { s with sup := v } (by decide))
  unfold listCause
  split
  · exact .refl s
  · split
    · exact hraised _ rfl rfl rfl rfl rfl
    · split
      · exact .refl s
      · exact hraised _ rfl rfl rfl rfl rfl

theorem takeCause_sampled (c : Cause) (p : Option Port) (s : State) : Sampled s (takeCause c p s) := by
  have horders : Sampled s (causeOrders c s) := by
    unfold causeOrders
    split
    · exact ⟨.of_rope rfl rfl rfl rfl rfl, rfl, rfl, rfl, rfl, fun _ => rfl⟩
    · exact .refl s
  have hlisted : ∀ t : State, Sampled t (causeListed ⟨c, p⟩ t) := fun t => by
    unfold causeListed
    split
    · exact tripLine_sampled _ t
    · exact listCause_sampled _ t
  have hclosed : ∀ t : State, Sampled t (closeAll (withdrawAll t)) := fun t =>
    .of_links (.of_rope (by simp) (by simp) (by simp) (withdrawAll_board t).1 (by simp)) (by simp [State.sampleFigures]) (by simp) (by simp)
      fun q => by simp
  exact (horders.trans (hlisted _)).trans (hclosed _)

theorem causeIf_sampled (b : Bool) (c : Cause) (s : State) : Sampled s (causeIf b c s) := by
  cases b
  · exact .refl s
  · exact takeCause_sampled c none s

theorem serviceStop_sampled (c : ServiceCause) (s : State) : Sampled s (serviceStop c s) := by
  have hdown := SeqFrame.trans (setSb_seqFrame false s) (setDrv_seqFrame false _)
  have hzero : ∀ t : State, Sampled t (forceZero t) := fun t =>
    ⟨.of_rope (by simp) (by simp) (by simp) (by simp) (by simp), by simp [State.sampleFigures], by simp, by rfl, by rfl, fun q => by simp⟩
  have hphase : ∀ t : State, Sampled t (setPhase .holding (raiseAll .serviceStop { t with sup := { t.sup with
      lastService := some c, serviceCount := satAdd 255 t.sup.serviceCount 1 } })) := fun t =>
    ⟨.of_rope (by simp) (by simp) (by simp) (by simp) (by simp), by simp [State.sampleFigures], by simp, by simp [setPhase_trip], by simp [setPhase_trip],
      fun q => by simpa using raiseAll_kept (j := 2) .serviceStop t (by decide) q⟩
  have hstop : Sampled s (serviceStopped c s) := ((Sampled.of_seqFrame hdown).trans (hzero _)).trans ((hphase _).trans
    ⟨.of_rope rfl rfl rfl rfl rfl, rfl, rfl, rfl, rfl, fun _ => rfl⟩)
  rw [serviceStop_eq]
  split
  · split
    · split
      · exact hstop
      · exact hstop.trans (.of_seqFrame (abortToEnding_seqFrame _ _))
    · exact hstop
  · exact .refl s

/-! ### The sample's own figures (R25, R94 to R96, R99) -/

/-- What a sample leaves before its causes are judged. -/
def sampleJudged (h : Header) (s : State) : State :=
  judgeSpeeds (if (rampCaps h s).trip.line.supervised then judgeEnvelope ((rampCaps h s).formE h) (rampCaps h s) else idleEnvelope (rampCaps h s))

theorem sampleBlind_sampled (s : State) : Sampled (judgeSpeeds (idleEnvelope s)) (sampleBlind s) := causeIf_sampled _ _ _

theorem judgeEnvelope_keeps (e : Nat) (s : State) : (judgeEnvelope e s).tables = s.tables ∧ (judgeEnvelope e s).rope = s.rope ∧
    (judgeEnvelope e s).track = s.track ∧ (judgeEnvelope e s).sched = s.sched ∧ (judgeEnvelope e s).trip = s.trip ∧
    (judgeEnvelope e s).board = s.board ∧ (judgeEnvelope e s).doors = s.doors ∧ (judgeEnvelope e s).now = s.now ∧
    (judgeEnvelope e s).sup = { s.sup with envelope := e, warning := decide (e < s.vSup), overS := (judgeEnvelope e s).sup.overS } := by
  unfold judgeEnvelope
  dsimp only
  split <;> simp

theorem rampCaps_vSup (h : Header) (s : State) : (rampCaps h s).vSup = s.vSup := State.vSup_congr rfl rfl

theorem sampleJudged_keeps (h : Header) (s : State) : (sampleJudged h s).tables = s.tables ∧ (sampleJudged h s).track = s.track ∧
    (sampleJudged h s).sched = s.sched ∧ (sampleJudged h s).trip = s.trip ∧ (sampleJudged h s).board = s.board ∧ (sampleJudged h s).doors = s.doors ∧
    (sampleJudged h s).rope = { s.rope with disagree := if s.speedsApart then min 3 (s.rope.disagree + 1) else 0 } := by
  have hspeeds : ∀ t : State, t.tables = s.tables → t.rope = s.rope → (judgeSpeeds t).rope = { s.rope with
      disagree := if s.speedsApart then min 3 (s.rope.disagree + 1) else 0 } := fun t ht hr => by
    have happart : t.speedsApart = s.speedsApart := by
      unfold State.speedsApart State.vSup State.speed
      rw [ht, hr]
    rw [judgeSpeeds, happart, hr]
  obtain ⟨htables, hrope, htrack, hsched, htrip, hboard, hdoors, -⟩ := judgeEnvelope_keeps ((rampCaps h s).formE h) (rampCaps h s)
  unfold sampleJudged
  split
  · exact ⟨htables, htrack, hsched, htrip, hboard, hdoors, hspeeds _ htables hrope⟩
  · exact ⟨rfl, rfl, rfl, rfl, rfl, rfl, hspeeds _ rfl rfl⟩

theorem sampleJudged_sup (h : Header) (s : State) : (sampleJudged h s).sup = { s.sup with
    windCap := (rampCaps h s).sup.windCap, certCap := (rampCaps h s).sup.certCap, envelope := (sampleJudged h s).sup.envelope
    warning := (sampleJudged h s).sup.warning, overS := (sampleJudged h s).sup.overS } := by
  unfold sampleJudged judgeSpeeds
  dsimp only
  split
  · rw [(judgeEnvelope_keeps ((rampCaps h s).formE h) (rampCaps h s)).2.2.2.2.2.2.2.2]
    rfl
  · rfl

/-- The causes that a sample judges, in its order, each with its condition. -/
def State.sampleCauses (s : State) (h : Header) : List (Cause × Bool) :=
  [(.envelopeExceeded, s.trip.line.supervised && decide (tripThreshold ((rampCaps h s).formE h) < s.vSup)),
   (.absoluteOverspeed, decide (absoluteThreshold h < s.vSup)),
   (.encoderDisagree, s.speedsApart && decide (2 ≤ s.rope.disagree)),
   (.doorZoneMovement, s.anyGrant && decide (30 < distance s.coord s.rope.sRef)),
   (.endOverrun, s.endOverrun h)]

/-- Causes taken one after another where their conditions hold. -/
def takeCauses (l : List (Cause × Bool)) (s : State) : State := l.foldl (fun t p => causeIf p.2 p.1 t) s

theorem takeCauses_sampled (l : List (Cause × Bool)) (s : State) : Sampled s (takeCauses l s) := by
  induction l generalizing s with
  | nil => exact .refl s
  | cons p l ih => exact (causeIf_sampled p.2 p.1 s).trans (ih _)

theorem sampleWith_eq (h : Header) (s : State) : sampleWith h s =
    if s.trip.line.supervised && decide (serviceThreshold ((rampCaps h s).formE h) < s.vSup) && decide (1 ≤ s.sup.overS) then
      serviceStop .envelopeService (takeCauses (s.sampleCauses h) (sampleJudged h s))
    else takeCauses (s.sampleCauses h) (sampleJudged h s) := by
  obtain ⟨htables, -, -, -, -, -, hrope⟩ := sampleJudged_keeps h s
  have hdisagree : ((sampleJudged h s).rope.disagree == 3) = (s.speedsApart && decide (2 ≤ s.rope.disagree)) := by
    rw [hrope]
    by_cases hd : 2 ≤ s.rope.disagree <;> cases s.speedsApart <;> simp [hd]
  have hzone : ∀ t, Sampled (sampleJudged h s) t → watchDoorZone s.anyGrant t =
      causeIf (s.anyGrant && decide (30 < distance s.coord s.rope.sRef)) .doorZoneMovement t := fun t ht => by
    have hsRef : t.rope.sRef = s.rope.sRef := by rw [ht.measured.rope, hrope]
    have hcoord : t.coord = s.coord := ht.measured.coord.trans (State.coord_congr (by rw [htables]) (by rw [hrope]) (by rw [hrope]))
    rw [watchDoorZone, hcoord, hsRef]
  have hfour := takeCauses_sampled [(.envelopeExceeded, s.trip.line.supervised && decide (tripThreshold ((rampCaps h s).formE h) < s.vSup)),
   (.absoluteOverspeed, decide (absoluteThreshold h < s.vSup)), (.encoderDisagree, s.speedsApart && decide (2 ≤ s.rope.disagree))] (sampleJudged h s)
  have hcauses : takeCauses (s.sampleCauses h) (sampleJudged h s) = causeIf (s.endOverrun h) .endOverrun (watchDoorZone s.anyGrant
      (causeIf ((sampleJudged h s).rope.disagree == 3) .encoderDisagree (causeIf (decide (absoluteThreshold h < (rampCaps h s).vSup)) .absoluteOverspeed
        (causeIf ((rampCaps h s).trip.line.supervised && decide (tripThreshold ((rampCaps h s).formE h) < (rampCaps h s).vSup)) .envelopeExceeded
          (sampleJudged h s))))) := by
    rw [hdisagree, rampCaps_vSup]
    exact congrArg (causeIf (s.endOverrun h) .endOverrun) (hzone _ hfour).symm
  rw [hcauses, Bool.and_assoc]
  rfl

theorem sampleWith_sampled (h : Header) (s : State) : Sampled (sampleJudged h s) (sampleWith h s) := by
  rw [sampleWith_eq]
  split
  · exact (takeCauses_sampled _ _).trans (serviceStop_sampled .envelopeService _)
  · exact takeCauses_sampled _ _

theorem exec_sampleWith {s : State} {h : Header} (hheader : s.tables.header = some h) :
    exec .supervisionSample s = .next (settle s (sampleWith h s)) := by
  show execSupervisionSample s = _
  rw [execSupervisionSample, hheader]

theorem exec_sampleBlind {s : State} (hheader : s.tables.header = none) : exec .supervisionSample s = .next (settle s (sampleBlind s)) := by
  show execSupervisionSample s = _
  rw [execSupervisionSample, hheader]

/-! ### The terms of E (R94, R95) -/

theorem leastOf_spec (n : Nat) (l : List Nat) : leastOf n l ≤ n ∧ (∀ v ∈ l, leastOf n l ≤ v) ∧ (leastOf n l = n ∨ leastOf n l ∈ l) := by
  induction l generalizing n with
  | nil => exact ⟨Nat.le_refl n, by simp, .inl rfl⟩
  | cons a l ih =>
    obtain ⟨hle, hall, hmem⟩ := ih (min n a)
    have hstep : leastOf n (a :: l) = leastOf (min n a) l := rfl
    rw [hstep]
    refine ⟨by omega, fun v hv => ?_, ?_⟩
    · rcases List.mem_cons.mp hv with rfl | hv
      · omega
      · exact hall v hv
    · rcases hmem with e | e
      · rcases Nat.le_total n a with hna | hna
        · exact .inl (by rw [e]; omega)
        · exact .inr (by rw [e, Nat.min_eq_right hna]; exact List.mem_cons_self)
      · exact .inr (List.mem_cons_of_mem a e)

theorem mem_sectionCandidates {h : Header} {l : List SectionEntry} {up : Bool} {x : Int} {v : Nat} : v ∈ sectionCandidates h l up x ↔
    ∃ j ∈ l, if up = true then x < j.start ∧ v = candidate h j.limit (j.start - x) else j.stop ≤ x ∧ v = candidate h j.limit (x - j.stop) := by
  cases up <;> simp [sectionCandidates, and_assoc, eq_comm]

theorem targetPresent_iff (s : State) : s.targetPresent = true ↔
    (s.trip.line = .testing .railA ∨ s.trip.line = .testing .railB →
      ∃ k, s.sched.test = some (k, .releasing) ∨ s.sched.test = some (k, .creep)) := by
  have hrail : s.trip.line.isRail = true ↔ s.trip.line = .testing .railA ∨ s.trip.line = .testing .railB := by
    unfold LineState.isRail
    split <;> simp_all
  rw [← hrail, State.targetPresent]
  split
  next h =>
    simp only [h, true_implies]
    rcases s.sched.test with - | ⟨k, g⟩
    · simp
    · cases g <;> simp
  next h => exact ⟨fun _ e => absurd e h, fun _ => rfl⟩

theorem exists_car {p : Car → Prop} : (∃ x, p x) ↔ p .a ∨ p .b :=
  ⟨fun ⟨x, h⟩ => by cases x <;> simp [h], fun h => h.elim (⟨.a, ·⟩) (⟨.b, ·⟩)⟩

theorem mem_envelopeTerms {s : State} {h : Header} {v : Nat} : v ∈ s.envelopeTerms h ↔
    s.sup.windCap = some v ∨ s.sup.certCap = some v ∨ (s.targetPresent = true ∧ ∃ d, s.profileDist = some d ∧ v = candidate h h.vCr d) ∨
    ∃ l c x, s.tables.sections = some l ∧ s.course = some c ∧
      (currentLimit l (s.pos x) = some v ∨ v ∈ sectionCandidates h l (c.dir.ascends x) (s.pos x)) := by
  have htarget : v ∈ (s.targetCandidate h).toList ↔ s.targetPresent = true ∧ ∃ d, s.profileDist = some d ∧ v = candidate h h.vCr d := by
    cases hpresent : s.targetPresent <;> cases hdist : s.profileDist <;> simp [State.targetCandidate, hpresent, hdist, @eq_comm _ v]
  have hsections : v ∈ (match s.tables.sections, s.course with
      | some l, some c => (currentLimit l (s.pos .a)).toList ++ (currentLimit l (s.pos .b)).toList ++
          sectionCandidates h l (c.dir.ascends .a) (s.pos .a) ++ sectionCandidates h l (c.dir.ascends .b) (s.pos .b)
      | _, _ => []) ↔ ∃ l c x, s.tables.sections = some l ∧ s.course = some c ∧
      (currentLimit l (s.pos x) = some v ∨ v ∈ sectionCandidates h l (c.dir.ascends x) (s.pos x)) := by
    cases s.tables.sections with
    | none => simp
    | some l =>
      cases s.course with
      | none => simp
      | some c =>
        simp only [List.mem_append, Option.mem_toList, Option.some.injEq, exists_and_left, exists_eq_left', exists_car]
        tauto
  simp only [State.envelopeTerms, List.mem_append, Option.mem_toList, htarget, or_assoc]
  exact or_congr Iff.rfl (or_congr Iff.rfl (or_congr Iff.rfl hsections))

/-- E is the least of its terms and 32,767; at certainty UNKNOWN it is v_cr. -/
theorem formE_spec (h : Header) (s : State) : (s.rope.certainty = .unknown → s.formE h = h.vCr) ∧
    (s.rope.certainty ≠ .unknown → s.formE h ≤ 32767 ∧ (∀ v, v = modeCap s.trip.mode h ∨ v ∈ s.envelopeTerms h → s.formE h ≤ v) ∧
      (s.formE h = 32767 ∨ s.formE h = modeCap s.trip.mode h ∨ s.formE h ∈ s.envelopeTerms h)) := by
  refine ⟨fun e => if_pos e, fun e => ?_⟩
  obtain ⟨hle, hall, hmem⟩ := leastOf_spec (modeCap s.trip.mode h) (s.envelopeTerms h)
  have hform : s.formE h = min 32767 (leastOf (modeCap s.trip.mode h) (s.envelopeTerms h)) := if_neg e
  refine ⟨by omega, fun v hv => ?_, ?_⟩
  · rcases hv with rfl | hv
    · omega
    · have := hall v hv
      omega
  · rcases Nat.le_total 32767 (leastOf (modeCap s.trip.mode h) (s.envelopeTerms h)) with hn | hn
    · exact .inl (by omega)
    · rw [hform, Nat.min_eq_right hn]
      exact .inr hmem

/-- A cap brought toward its target in one sample, as a figure. -/
def rampedCap (h : Header) (old : Option Nat) (target : Nat) : Nat :=
  match old with
  | none => target
  | some c => if c ≤ target then target else max target (c - h.aDec * 10 / 1000)

theorem ramp_eq (h : Header) (old : Option Nat) (target : Nat) : ramp h old target = some (rampedCap h old target) := by
  cases old with
  | none => rfl
  | some c => exact (apply_ite some _ _ _).symm

/-- Once its figures are formed, a sample takes its causes and stop and the steps due, which leave what it has formed. -/
theorem sample_formed (s : State) : ∃ u t, exec .supervisionSample s = .next t ∧ Sampled u t ∧ u.tables = s.tables ∧ u.track = s.track ∧
    u.sched = s.sched ∧ u.trip = s.trip ∧ u.board = s.board ∧
    u.rope = { s.rope with disagree := if s.speedsApart then min 3 (s.rope.disagree + 1) else 0 } ∧
    (s.tables.header = none → u = judgeSpeeds (idleEnvelope s)) ∧ (∀ h, s.tables.header = some h → u = sampleJudged h s) := by
  cases hheader : s.tables.header with
  | none =>
    exact ⟨judgeSpeeds (idleEnvelope s), _, exec_sampleBlind hheader, (sampleBlind_sampled s).trans (.of_seqFrame (settle_seqFrame _ _)),
      rfl, rfl, rfl, rfl, rfl, rfl, fun _ => rfl, nofun⟩
  | some h =>
    obtain ⟨htables, htrack, hsched, htrip, hboard, -, hrope⟩ := sampleJudged_keeps h s
    exact ⟨sampleJudged h s, _, exec_sampleWith hheader, (sampleWith_sampled h s).trans (.of_seqFrame (settle_seqFrame _ _)),
      htables, htrack, hsched, htrip, hboard, hrope, nofun, fun k hk => by rw [Option.some.inj hk]⟩

theorem Sampled.sup {s t : State} (h : Sampled s t) : t.sup.windCap = s.sup.windCap ∧ t.sup.certCap = s.sup.certCap ∧
    t.sup.envelope = s.sup.envelope ∧ t.sup.warning = s.sup.warning ∧ t.sup.overS = s.sup.overS := by
  simpa [State.sampleFigures, and_assoc] using h.figures

/-- E and its warning where the line state forms E, and 0 where it does not. -/
theorem sampleJudged_figures (h : Header) (s : State) :
    (sampleJudged h s).sup.windCap = (rampCaps h s).sup.windCap ∧ (sampleJudged h s).sup.certCap = (rampCaps h s).sup.certCap ∧
    (s.trip.line.supervised = true → (sampleJudged h s).sup.envelope = (rampCaps h s).formE h ∧
      (sampleJudged h s).sup.warning = decide ((rampCaps h s).formE h < s.vSup)) ∧
    (s.trip.line.supervised = false → (sampleJudged h s).sup.envelope = 0 ∧ (sampleJudged h s).sup.overS = 0 ∧
      (sampleJudged h s).sup.warning = false) := by
  have hsup := sampleJudged_sup h s
  refine ⟨by rw [hsup], by rw [hsup], fun e => ?_, fun e => ?_⟩
  · have hjudged : (sampleJudged h s).sup = (judgeEnvelope ((rampCaps h s).formE h) (rampCaps h s)).sup := by
      have hformed : sampleJudged h s = judgeSpeeds (judgeEnvelope ((rampCaps h s).formE h) (rampCaps h s)) := congrArg judgeSpeeds (if_pos e)
      rw [hformed]
      rfl
    obtain ⟨-, -, -, -, -, -, -, -, hfigures⟩ := judgeEnvelope_keeps ((rampCaps h s).formE h) (rampCaps h s)
    rw [hjudged, hfigures]
    exact ⟨rfl, by rw [rampCaps_vSup]⟩
  · have hidle : sampleJudged h s = judgeSpeeds (idleEnvelope (rampCaps h s)) := congrArg judgeSpeeds (if_neg (by rw [Bool.not_eq_true]; exact e))
    rw [hidle]
    exact ⟨rfl, rfl, rfl⟩

/-- Settles O23: the figures of the sample stand through its causes and steps, and E by its terms. -/
theorem sampleFormsTheEnvelope : Obligations.SampleFormsTheEnvelope := by
  refine ⟨fun s => ?_, fun h s => ?_⟩
  · obtain ⟨u, t, hexec, hsampled, htables, htrack, hsched, htrip, hboard, hrope, hblind, hwith⟩ := sample_formed s
    obtain ⟨hwind, hcert, henvelope, hwarning, hover⟩ := hsampled.sup
    refine ⟨t, hexec, ?_⟩
    intro cap
    refine ⟨fun h hheader => ?_, fun hheader => ?_, fun hidle => ?_, ?_, ?_, ?_, ?_, ?_, ?_, ?_⟩
    · intro w c capped
      obtain ⟨hw, hc, hformed, -⟩ := sampleJudged_figures h s
      have hwindTarget : w = rampedCap h s.sup.windCap (windTarget h s.trip.weather.wind) := rfl
      have hcertTarget : c = rampedCap h s.sup.certCap (certTarget h s.rope.certainty) := by cases hk : s.rope.certainty <;> simp only [c, hk] <;> rfl
      have hcapped : capped = rampCaps h s := by simp only [capped, hwindTarget, hcertTarget, rampCaps, ramp_eq]
      rw [hwind, hcert, henvelope, hwarning, hwith h hheader, hcapped, hw, hc, ← hcapped]
      exact ⟨rfl, rfl, fun e => hcapped ▸ hformed e⟩
    · rw [hwind, hcert, hblind hheader]
      exact ⟨rfl, rfl⟩
    · rw [henvelope, hover, hwarning]
      cases hheader : s.tables.header with
      | none => rw [hblind hheader]; exact ⟨rfl, rfl, rfl⟩
      | some h =>
        rw [hwith h hheader]
        obtain ⟨-, -, -, hzero⟩ := sampleJudged_figures h s
        exact hzero (hidle.resolve_left (by rw [hheader]; nofun))
    · rw [hsampled.measured.rope, hrope]
      simp only [State.speedsApart, decide_eq_true_eq]
    · rw [hsampled.measured.tables, htables]
    · rw [hsampled.measured.track, htrack]
    · rw [hsampled.obligations, hsched]
    · rw [hsampled.measured.cars, hboard]
    · rw [hsampled.number, htrip]
    · rw [hsampled.weather, htrip]
  · intro e braking targeted ofSections term
    obtain ⟨hunknown, hterms⟩ := formE_spec h s
    have hterm : ∀ v, term v ↔ v = modeCap s.trip.mode h ∨ v ∈ s.envelopeTerms h := fun v => by
      have hsections : (∃ l c x, s.tables.sections = some l ∧ s.course = some c ∧
          (currentLimit l (s.pos x) = some v ∨ v ∈ sectionCandidates h l (c.dir.ascends x) (s.pos x))) ↔ ofSections v := by
        simp only [mem_sectionCandidates, ascends_iff]
        rfl
      rw [mem_envelopeTerms, targetPresent_iff, hsections, or_comm (a := _ ∧ _)]
      exact Iff.rfl
    refine ⟨hunknown, fun hknown => ?_⟩
    obtain ⟨hle, hall, hmem⟩ := hterms hknown
    exact ⟨hle, fun v hv => hall v ((hterm v).mp hv), hmem.imp_right (hterm _).mpr⟩

end Sys2Proof.Machine
end

section
/-! PROOFS. The speed supervisor's sample: what it counts, the causes it takes and its service stop (O24). -/

namespace Sys2Proof.Machine

/-! ### Causes taken one after another (R109 to R111) -/

/-- TRIPPED with the outputs down, the held setpoint 0 and the service stops counted so far. -/
structure Halted (n : Nat) (s : State) : Prop where
  down : DownTripped s
  held : s.trip.held = 0
  count : s.sup.serviceCount = n

theorem causeOrders_count (c : Cause) (s : State) : (causeOrders c s).sup.serviceCount = s.sup.serviceCount := by
  unfold causeOrders orderTrip
  split <;> rfl

theorem takeCause_halts (c : Cause) (p : Option Port) {s : State} (hnone : s.sup.causes = []) : Halted s.sup.serviceCount (takeCause c p s) := by
  rw [takeCause_first p hnone]
  obtain ⟨hline, hheld, -⟩ := tripLine_trip ⟨c, p⟩ (causeOrders c s)
  obtain ⟨htest, -⟩ := tripLine_sched ⟨c, p⟩ (causeOrders c s)
  exact ⟨⟨by simp, by simpa using hline, by simp, by simp, by simp, by simpa using htest⟩, by simpa using hheld, by simp [causeOrders_count]⟩

theorem Halted.takeCause {n : Nat} {s : State} (h : Halted n s) (c : Cause) (p : Option Port) : Halted n (takeCause c p s) := by
  obtain ⟨htrip, hsup, -⟩ := takeCause_further_blocks (c := c) p h.down.causes
  have hcount : (listCause ⟨c, p⟩ (causeOrders c s)).sup.serviceCount = (causeOrders c s).sup.serviceCount := by
    unfold listCause
    split <;> [rfl; split <;> [simp; split <;> simp]]
  exact ⟨h.down.takeCause c p, by rw [htrip, h.held], by rw [hsup, hcount, causeOrders_count, h.count]⟩

/-- A further cause is appended while fewer than four are listed, and overflows from then on. -/
theorem takeCause_listing (c : Cause) {s : State} (hnew : ∀ f ∈ s.sup.causes, f.cause ≠ c) :
    (s.sup.causes.length < 4 → (takeCause c none s).sup.causes = s.sup.causes ++ [⟨c, none⟩] ∧
      (takeCause c none s).sup.overflow = s.sup.overflow) ∧
    (4 ≤ s.sup.causes.length → (takeCause c none s).sup.causes = s.sup.causes ∧ (takeCause c none s).sup.overflow = true) := by
  obtain ⟨-, -, -, -, -, hoverflow, -⟩ := causeOrders_sup c s
  have hcauses : (causeOrders c s).sup.causes = s.sup.causes := by simp
  by_cases hnone : s.sup.causes = []
  · rw [takeCause_first none hnone, hnone]
    simp [hoverflow]
  · obtain ⟨-, hsup, -⟩ := takeCause_further_blocks (c := c) none hnone
    obtain ⟨-, hcases⟩ := listCause_cases ⟨c, none⟩ (causeOrders c s)
    rw [hcauses, hoverflow] at hcases
    obtain ⟨hroom, hover, hfull⟩ := hcases hnew
    rw [hsup]
    refine ⟨fun h => ?_, fun h => ?_⟩
    · rw [hroom h]
      simp [hoverflow]
    · cases ho : s.sup.overflow
      · rw [hfull h ho]
        simp
      · rw [hover h ho, hcauses, hoverflow]
        exact ⟨rfl, ho⟩

/-- The causes met of a list of conditions, in their order. -/
def causesMet (l : List (Cause × Bool)) : List CauseEntry := (l.filter (·.2)).map fun p => ⟨p.1, none⟩

/-- Causes taken in their order: the first four are listed, a fifth overflows. -/
theorem takeCauses_listing (l : List (Cause × Bool)) (hnodup : (l.map (·.1)).Nodup) {s : State} (hlength : s.sup.causes.length ≤ 4)
    (hnew : ∀ p ∈ l, ∀ f ∈ s.sup.causes, f.cause ≠ p.1) :
    (takeCauses l s).sup.causes = (s.sup.causes ++ causesMet l).take 4 ∧
    ((takeCauses l s).sup.overflow = true ↔ s.sup.overflow = true ∨ 4 < s.sup.causes.length + (causesMet l).length) := by
  induction l generalizing s with
  | nil => simp [takeCauses, causesMet, hlength]
  | cons p l ih =>
    obtain ⟨c, b⟩ := p
    obtain ⟨hc, hnodup'⟩ := List.nodup_cons.mp hnodup
    have hstep : takeCauses ((c, b) :: l) s = takeCauses l (causeIf b c s) := rfl
    have hother : ∀ p ∈ l, c ≠ p.1 := fun p hp e => hc (List.mem_map.mpr ⟨p, hp, e.symm⟩)
    rw [hstep]
    cases b with
    | false => exact ih hnodup' hlength fun p hp => hnew p (List.mem_cons_of_mem _ hp)
    | true =>
      obtain ⟨hroom, hfull⟩ := takeCause_listing c (s := s) (hnew _ List.mem_cons_self)
      have hmet : causesMet ((c, true) :: l) = ⟨c, none⟩ :: causesMet l := rfl
      have htaken : causeIf true c s = takeCause c none s := rfl
      rw [hmet, htaken]
      by_cases hl : s.sup.causes.length < 4
      · obtain ⟨hcauses, hoverflow⟩ := hroom hl
        obtain ⟨hlist, hover⟩ := ih hnodup' (s := takeCause c none s) (by rw [hcauses]; simp; omega) fun p hp f hf => by
          rw [hcauses] at hf
          rcases List.mem_append.mp hf with hf | hf
          · exact hnew p (List.mem_cons_of_mem _ hp) f hf
          · rw [List.mem_singleton.mp hf]
            exact hother p hp
        refine ⟨by rw [hlist, hcauses, List.append_assoc]; rfl, hover.trans ?_⟩
        rw [hcauses, hoverflow]
        simp only [List.length_append, List.length_cons, List.length_nil]
        exact or_congr Iff.rfl (by omega)
      · obtain ⟨hcauses, hoverflow⟩ := hfull (by omega)
        obtain ⟨hlist, hover⟩ := ih hnodup' (s := takeCause c none s) (by rw [hcauses]; exact hlength) fun p hp f hf => by
          rw [hcauses] at hf
          exact hnew p (List.mem_cons_of_mem _ hp) f hf
        have hfour : s.sup.causes.length = 4 := by omega
        refine ⟨?_, hover.trans ?_⟩
        · rw [hlist, hcauses, List.take_append_of_le_length (by omega), List.take_append_of_le_length (by omega)]
        · rw [hoverflow]
          simp only [List.length_cons, true_or, true_iff]
          omega

/-- A cause is listed, or the overflow flag is set. -/
def Told (c : Cause) (s : State) : Prop := Listed c s ∨ s.sup.overflow = true

theorem takeCause_told (d : Cause) (s : State) : Told d (takeCause d none s) ∧ ∀ c, Told c s → Told c (takeCause d none s) := by
  obtain ⟨-, -, -, -, -, hoverflow, -⟩ := causeOrders_sup d s
  have hcauses : (causeOrders d s).sup.causes = s.sup.causes := by simp
  by_cases hlisted : Listed d s
  · have hnone : s.sup.causes ≠ [] := fun e => by obtain ⟨f, hf, -⟩ := hlisted; simp [e] at hf
    obtain ⟨-, hsup, -⟩ := takeCause_further_blocks (c := d) none hnone
    obtain ⟨hrepeat, -⟩ := listCause_cases ⟨d, none⟩ (causeOrders d s)
    rw [hrepeat (by rwa [hcauses])] at hsup
    have hkept : ∀ c, Told c s → Told c (takeCause d none s) := fun c hc => by
      rw [Told, Listed, hsup, hcauses, hoverflow]
      exact hc
    exact ⟨hkept d (.inl hlisted), hkept⟩
  · obtain ⟨hroom, hfull⟩ := takeCause_listing d (s := s) fun f hf e => hlisted ⟨f, hf, e⟩
    by_cases hl : s.sup.causes.length < 4
    · obtain ⟨hlist, hover⟩ := hroom hl
      simp only [Told, Listed, hlist, hover, List.mem_append, List.mem_singleton]
      refine ⟨.inl ⟨_, .inr rfl, rfl⟩, fun c hc => hc.imp_left fun ⟨f, hf, hfc⟩ => ⟨f, .inl hf, hfc⟩⟩
    · obtain ⟨-, hover⟩ := hfull (by omega)
      exact ⟨.inr hover, fun c _ => .inr hover⟩

theorem takeCauses_told (l : List (Cause × Bool)) (s : State) :
    (∀ c, Told c s → Told c (takeCauses l s)) ∧ ∀ c, (c, true) ∈ l → Told c (takeCauses l s) := by
  induction l generalizing s with
  | nil => exact ⟨fun _ => id, by simp⟩
  | cons p l ih =>
    obtain ⟨d, b⟩ := p
    obtain ⟨hkept, hmet⟩ := ih (causeIf b d s)
    cases b with
    | false =>
      refine ⟨hkept, fun c hc => hmet c ?_⟩
      simpa using hc
    | true =>
      obtain ⟨htold, hafter⟩ := takeCause_told d s
      refine ⟨fun c hc => hkept c (hafter c hc), fun c hc => ?_⟩
      rcases List.mem_cons.mp hc with e | hc
      · obtain rfl : c = d := congrArg Prod.fst e
        exact hkept c htold
      · exact hmet c hc

/-- Once the line is halted it stays so; a first cause met halts it. -/
theorem takeCauses_halted {n : Nat} (l : List (Cause × Bool)) {s : State} (h : Halted n s) : Halted n (takeCauses l s) := by
  induction l generalizing s with
  | nil => exact h
  | cons p l ih =>
    obtain ⟨d, b⟩ := p
    cases b with
    | false => exact ih h
    | true => exact ih (h.takeCause d none)

theorem takeCauses_halts {l : List (Cause × Bool)} {s : State} (hnone : s.sup.causes = []) {c : Cause} (h : (c, true) ∈ l) :
    Halted s.sup.serviceCount (takeCauses l s) := by
  induction l with
  | nil => simp at h
  | cons p l ih =>
    obtain ⟨d, b⟩ := p
    cases b with
    | false => exact ih (by simpa using h)
    | true => exact takeCauses_halted l (takeCause_halts d none hnone)

theorem takeCauses_none {l : List (Cause × Bool)} {s : State} (h : ∀ c, (c, true) ∉ l) : takeCauses l s = s := by
  induction l with
  | nil => rfl
  | cons p l ih =>
    obtain ⟨d, b⟩ := p
    obtain rfl : b = false := by
      cases b with
      | false => rfl
      | true => exact absurd List.mem_cons_self (h d)
    exact ih fun c hc => h c (List.mem_cons_of_mem _ hc)

/-- Orders of TRIP stand through further causes (R111). -/
theorem takeCause_orders_kept (c : Cause) (p : Option Port) {s : State} (h : s.sup.railOrder = ⟨.trip, .trip⟩) :
    (takeCause c p s).sup.railOrder = ⟨.trip, .trip⟩ := by
  rw [(takeCause_blocks c p s).2.1]
  refine causeListed_orders ?_
  unfold causeOrders orderTrip
  split
  · rfl
  · exact h

theorem takeCauses_orders_kept (l : List (Cause × Bool)) {s : State} (h : s.sup.railOrder = ⟨.trip, .trip⟩) :
    (takeCauses l s).sup.railOrder = ⟨.trip, .trip⟩ := by
  induction l generalizing s with
  | nil => exact h
  | cons p l ih =>
    obtain ⟨d, b⟩ := p
    cases b with
    | false => exact ih h
    | true => exact ih (takeCause_orders_kept d none h)

theorem takeCauses_orders {l : List (Cause × Bool)} (s : State) {c : Cause} (h : (c, true) ∈ l) (hc : c.setsOrders = true) :
    (takeCauses l s).sup.railOrder = ⟨.trip, .trip⟩ := by
  induction l generalizing s with
  | nil => simp at h
  | cons p l ih =>
    rcases List.mem_cons.mp h with rfl | h
    · exact takeCauses_orders_kept l (takeCause_orders none s hc)
    · exact ih _ h

/-! ### The steps due after a service stop (R100) -/

/-- The three output lines. -/
def State.outputs (s : State) : Bool × Bool × Bool := (s.sup.ebRel, s.sup.sbRel, s.sup.drvEn)

theorem enterHeld_outputs (s : State) : (enterHeld s).outputs = s.outputs ∧ ((enterHeld s).trip.line.isTest = true → s.trip.line.isTest = true) := by
  unfold enterHeld
  split
  · simp [State.outputs, LineState.isTest]
  · exact ⟨rfl, id⟩

theorem endMove_service_outputs {s : State} (h : s.sup.sbRel = false) :
    (endMove .service s).outputs = s.outputs ∧ ((endMove .service s).trip.line.isTest = true → s.trip.line.isTest = true) := by
  unfold endMove
  split
  · simp [setSb_same h, State.outputs, LineState.isTest]
  · exact ⟨rfl, id⟩

/-- A completed service stop leaves the outputs, and the line outside every test. -/
theorem completeStop_outputs {s : State} (hsb : s.sup.sbRel = false) (hstop : s.trip.stop = .service) :
    (completeStop s).outputs = s.outputs ∧ ((completeStop s).trip.line.isTest = true → s.trip.line.isTest = true) := by
  unfold completeStop
  split
  next h => simp [hstop] at h
  next h => simp [hstop] at h
  next => exact enterHeld_outputs s
  next => rw [hstop]; exact endMove_service_outputs hsb
  next => exact ⟨rfl, id⟩

/-- A service stop in hand with the lines down. -/
structure Served (s : State) : Prop where
  line : s.trip.line.supervised = true
  stop : s.trip.stop = .service
  release : s.trip.moveRelease = false
  sb : s.sup.sbRel = false
  drv : s.sup.drvEn = false

theorem settleWith_served (v : Bool) {s : State} (h : Served s) : (settleWith v s).outputs = s.outputs := by
  obtain ⟨hline, hstop, hrelease, hsb, hdrv⟩ := h
  have hinterlock : settleInterlock v s = s := by
    unfold settleInterlock
    split
    next hl => simp [hl, LineState.supervised, LineState.inMotion, LineState.isRail] at hline
    next hl => simp [hl, LineState.supervised, LineState.inMotion, LineState.isRail] at hline
    next => rw [hrelease, Bool.false_and, if_neg nofun]
    next => rfl
  have heb : settleEbApplied s = s := by
    unfold settleEbApplied
    split
    next hl _ => simp [hl, LineState.supervised, LineState.inMotion, LineState.isRail] at hline
    next => rfl
  have happlied : settleApplied s = s := by rw [settleApplied, setDrv_same hdrv, ite_self]
  have hsettled : settleWith v s = settleTest (settleComplete s) := by
    rw [settleWith, hinterlock, settleHold_down hsb, heb, settleReleased_same (.inl hsb), happlied]
  rw [hsettled]
  by_cases hmotion : s.trip.line.inMotion = true
  · have htest : s.trip.line.isTest = false := by
      cases hl : s.trip.line <;> simp_all [LineState.isTest, LineState.inMotion]
    obtain ⟨hout, hleft⟩ : (settleComplete s).outputs = s.outputs ∧ ((settleComplete s).trip.line.isTest = true → s.trip.line.isTest = true) := by
      unfold settleComplete
      split
      · exact completeStop_outputs hsb hstop
      · exact ⟨rfl, id⟩
    rw [settleTest_same (Bool.eq_false_iff.mpr fun e => by simp [hleft e] at htest), hout]
  · rw [settleComplete_same fun e => absurd e hmotion]
    unfold settleTest
    split
    next hl _ => simp [hl, LineState.supervised, LineState.inMotion, LineState.isRail] at hline
    next k _ _ hl _ =>
      split
      · rw [endRailTest_eq hl]
        simp only [State.outputs, raiseAll_frame]
        split <;> rfl
      · rfl
    next => rfl

theorem serviceStopped_served (c : ServiceCause) {s : State} (hline : s.trip.line.supervised = true) : Served (serviceStopped c s) := by
  obtain ⟨htrip, -⟩ := serviceStopped_trip c s
  obtain ⟨hsb, hdrv, -⟩ := serviceStopped_sup c s
  refine ⟨?_, by rw [htrip], by rw [htrip], hsb, hdrv⟩
  rw [htrip]
  cases hl : s.trip.line with
  | running ph => rfl
  | _ => simpa [hl] using hline

theorem serviceStop_served (c : ServiceCause) {s : State} (hline : s.trip.line.supervised = true) (hstop : s.trip.stop ≠ .service)
    (hnone : s.sup.causes = []) : Served (serviceStop c s) := by
  obtain ⟨htrip, hsup, -⟩ := serviceStop_taken (c := c) hline hstop hnone
  obtain ⟨h1, h2, h3, h4, h5⟩ := serviceStopped_served c hline
  exact ⟨by rw [htrip, h1], by rw [htrip, h2], by rw [htrip, h3], by rw [hsup, h4], by rw [hsup, h5]⟩

theorem serviceStop_list (c : ServiceCause) (s : State) :
    (serviceStop c s).sup.causes = s.sup.causes ∧ (serviceStop c s).sup.overflow = s.sup.overflow := by
  by_cases h : s.trip.line.supervised = true ∧ s.trip.stop ≠ .service ∧ s.sup.causes = []
  · obtain ⟨-, hsup, -⟩ := serviceStop_taken (c := c) h.1 h.2.1 h.2.2
    rw [hsup]
    simp [serviceStopped]
  · rw [serviceStop_untaken h]
    exact ⟨rfl, rfl⟩

/-! ### A sample with a header active (R99) -/

theorem endOverrun_iff (s : State) (h : Header) : s.endOverrun h = true ↔
    s.rope.certainty ≠ .unknown ∧ ∃ x, s.pos x < -1000 ∨ (h.lineLen : Int) + 1000 < s.pos x := by
  simp only [State.endOverrun, Bool.and_eq_true, Bool.or_eq_true, decide_eq_true_eq, bne_iff_ne, exists_car, ne_eq]
  tauto

/-- The causes before the sample's service stop. -/
theorem sample_list (h : Header) (s : State) : (settle s (sampleWith h s)).sup.causes = (takeCauses (s.sampleCauses h) (sampleJudged h s)).sup.causes ∧
    (settle s (sampleWith h s)).sup.overflow = (takeCauses (s.sampleCauses h) (sampleJudged h s)).sup.overflow := by
  rw [(settle_seqFrame s (sampleWith h s)).sup, sampleWith_eq]
  split
  · exact serviceStop_list _ _
  · exact ⟨rfl, rfl⟩

theorem sampleJudged_list (h : Header) (s : State) : (sampleJudged h s).sup.causes = s.sup.causes ∧
    (sampleJudged h s).sup.overflow = s.sup.overflow ∧ (sampleJudged h s).sup.serviceCount = s.sup.serviceCount := by
  rw [sampleJudged_sup]
  exact ⟨rfl, rfl, rfl⟩

/-- A sample that takes a cause ends with its causes: no service stop and no further step. -/
theorem sample_halted {h : Header} {s : State} (hnone : s.sup.causes = []) {c : Cause} (hc : (c, true) ∈ s.sampleCauses h) :
    settle s (sampleWith h s) = takeCauses (s.sampleCauses h) (sampleJudged h s) ∧
    Halted s.sup.serviceCount (takeCauses (s.sampleCauses h) (sampleJudged h s)) := by
  obtain ⟨hcauses, -, hcount⟩ := sampleJudged_list h s
  have hhalted := takeCauses_halts (s := sampleJudged h s) (by rw [hcauses, hnone]) hc
  rw [hcount] at hhalted
  have hsample : sampleWith h s = takeCauses (s.sampleCauses h) (sampleJudged h s) := by
    rw [sampleWith_eq]
    split
    · exact serviceStop_untaken fun e => hhalted.down.causes e.2.2
    · rfl
  exact ⟨by rw [hsample]; exact settle_still _ _ (by rw [hhalted.down.line]; rfl), hhalted⟩

/-- The list after a sample with none listed before. -/
theorem sample_listing {h : Header} {s : State} (hnone : s.sup.causes = []) :
    (settle s (sampleWith h s)).sup.causes = (causesMet (s.sampleCauses h)).take 4 ∧
    ((settle s (sampleWith h s)).sup.overflow = true ↔ s.sup.overflow = true ∨ 4 < (causesMet (s.sampleCauses h)).length) := by
  obtain ⟨hlist, hover⟩ := sample_list h s
  obtain ⟨hcauses, hoverflow, -⟩ := sampleJudged_list h s
  rw [hnone] at hcauses
  obtain ⟨htaken, hfull⟩ := takeCauses_listing (s.sampleCauses h) (s := sampleJudged h s) (by simp [State.sampleCauses]) (by simp [hcauses])
    (by simp [hcauses])
  rw [hlist, hover, htaken, hfull, hcauses, hoverflow]
  simp

theorem mem_causesMet {l : List (Cause × Bool)} {f : CauseEntry} : f ∈ causesMet l ↔ f.port = none ∧ (f.cause, true) ∈ l := by
  simp only [causesMet, List.mem_map, List.mem_filter]
  constructor
  · rintro ⟨⟨c, b⟩, ⟨hmem, rfl⟩, rfl⟩
    exact ⟨rfl, hmem⟩
  · rintro ⟨hport, hmem⟩
    refine ⟨_, ⟨hmem, rfl⟩, ?_⟩
    obtain ⟨c, p⟩ := f
    exact congrArg _ hport.symm

theorem causesMet_append (l m : List (Cause × Bool)) : causesMet (l ++ m) = causesMet l ++ causesMet m := by simp [causesMet]

/-- Of four conditions and a fifth, the first four met are listed: all that are met, but the fifth where the four are. -/
theorem causesMet_take {l : List (Cause × Bool)} (hl : l.length = 4) (c : Cause) (b : Bool) :
    (causesMet (l ++ [(c, b)])).take 4 = causesMet (l ++ [(c, b && !l.all (·.2))]) ∧
    (4 < (causesMet (l ++ [(c, b)])).length ↔ b = true ∧ l.all (·.2) = true) := by
  have hone : ∀ b, causesMet [(c, b)] = if b then [⟨c, none⟩] else [] := fun b => by cases b <;> rfl
  rw [causesMet_append, causesMet_append, hone, hone]
  have hlength : (causesMet l).length = (l.filter (·.2)).length := by simp [causesMet]
  have hle : (l.filter (·.2)).length ≤ 4 := hl ▸ List.length_filter_le _ l
  cases hall : l.all (·.2) with
  | true =>
    have hfour : (causesMet l).length = 4 := by rw [hlength, List.filter_eq_self.mpr (by simpa using hall), hl]
    cases b <;> simp [hfour]
  | false =>
    have hless : (l.filter (·.2)).length < 4 := by
      rw [← hl]
      exact List.length_filter_lt_length_iff_exists.mpr (by simpa using hall)
    rw [List.take_of_length_le (by cases b <;> simp [hlength] <;> omega)]
    cases b <;> simp [hlength] <;> omega

/-- The first four of a sample's causes. -/
def State.firstCauses (s : State) (h : Header) : List (Cause × Bool) := (s.sampleCauses h).take 4

theorem sampleCauses_split (s : State) (h : Header) : s.sampleCauses h = s.firstCauses h ++ [(.endOverrun, s.endOverrun h)] := rfl

theorem mem_sampleCauses {s : State} {h : Header} {c : Cause} : (c, true) ∈ s.sampleCauses h ↔
    (c = .envelopeExceeded ∧ s.trip.line.supervised = true ∧ tripThreshold ((rampCaps h s).formE h) < s.vSup) ∨
    (c = .absoluteOverspeed ∧ absoluteThreshold h < s.vSup) ∨
    (c = .encoderDisagree ∧ 150 + s.vSup / 16 < distance (s.speed .ch1) (s.speed .ch2) ∧ 2 ≤ s.rope.disagree) ∨
    (c = .doorZoneMovement ∧ s.anyGrant = true ∧ 30 < distance s.coord s.rope.sRef) ∨
    (c = .endOverrun ∧ s.endOverrun h = true) := by
  simp only [State.sampleCauses, List.mem_cons, Prod.mk.injEq, List.not_mem_nil, or_false, @eq_comm _ true, Bool.and_eq_true, decide_eq_true_eq,
    State.speedsApart]

/-- The fifth cause is listed where the four before it are not all met. -/
theorem mem_firstFour {s : State} {h : Header} {c : Cause} :
    (c, true) ∈ s.firstCauses h ++ [(.endOverrun, s.endOverrun h && !(s.firstCauses h).all (·.2))] ↔
    (c, true) ∈ s.sampleCauses h ∧ ¬(c = .endOverrun ∧ (s.firstCauses h).all (·.2) = true) := by
  have hother : (Cause.endOverrun, true) ∉ s.firstCauses h := by simp [State.firstCauses, State.sampleCauses]
  rw [sampleCauses_split]
  simp only [List.mem_append, List.mem_singleton, Prod.mk.injEq, @eq_comm _ true, Bool.and_eq_true, Bool.not_eq_eq_eq_not, Bool.not_true]
  by_cases hc : c = .endOverrun
  · subst hc
    simp [hother, and_comm]
  · simp [hc]

theorem firstCauses_all (s : State) (h : Header) : (s.firstCauses h).all (·.2) = true ↔ ∀ c,
    c = .envelopeExceeded ∨ c = .absoluteOverspeed ∨ c = .encoderDisagree ∨ c = .doorZoneMovement → (c, true) ∈ s.sampleCauses h := by
  simp only [State.firstCauses, State.sampleCauses, List.take, List.all_cons, List.all_nil, Bool.and_eq_true, decide_eq_true_eq,
    State.speedsApart, Bool.and_true, forall_eq_or_imp, forall_eq]
  simp

theorem sampleJudged_over (h : Header) {s : State} (hforms : s.trip.line.supervised = true) : (sampleJudged h s).sup.overS =
    if serviceThreshold ((rampCaps h s).formE h) < s.vSup then (if s.sup.overS = 0 then 1 else 0) else 0 := by
  have hjudged : (sampleJudged h s).sup = (judgeEnvelope ((rampCaps h s).formE h) (rampCaps h s)).sup := by
    have hformed : sampleJudged h s = judgeSpeeds (judgeEnvelope ((rampCaps h s).formE h) (rampCaps h s)) := congrArg judgeSpeeds (if_pos hforms)
    rw [hformed]
    rfl
  have hrun : (rampCaps h s).sup.overS = s.sup.overS := rfl
  rw [hjudged]
  simp only [judgeEnvelope, rampCaps_vSup, hrun]
  split
  · rcases Nat.eq_zero_or_pos s.sup.overS with e | e
    · rw [if_neg (by omega), if_pos e, e]
    · rw [if_pos (by omega), if_neg (by omega)]
  · rfl

theorem sampleJudged_flag (h : Header) (s : State) (p : Port) : ((sampleJudged h s).links.get p).flags.getLsbD 2 = true ↔
    (s.links.get p).flags.getLsbD 2 = true ∨ s.trip.line.supervised = true ∧ (rampCaps h s).formE h < s.vSup ∧ s.sup.warning = false := by
  have hline : (rampCaps h s).trip.line = s.trip.line := rfl
  have hwarning : (rampCaps h s).sup.warning = s.sup.warning := rfl
  have hlinks : (rampCaps h s).links = s.links := rfl
  have hjudged : ∀ e, ((judgeEnvelope e (rampCaps h s)).links.get p).flags.getLsbD 2 = true ↔
      (s.links.get p).flags.getLsbD 2 = true ∨ e < s.vSup ∧ s.sup.warning = false := fun e => by
    simp only [judgeEnvelope, rampCaps_vSup, hwarning]
    by_cases hraise : (decide (e < s.vSup) && !s.sup.warning) = true
    · rw [if_pos hraise]
      have hcond : e < s.vSup ∧ s.sup.warning = false := by simpa using hraise
      simp only [hcond, and_self, or_true, iff_true]
      exact (raiseAll_flag .envelopeWarning (rampCaps h s) p 2).mpr (.inr rfl)
    · rw [if_neg hraise, hlinks]
      have hcond : ¬(e < s.vSup ∧ s.sup.warning = false) := by simpa using hraise
      simp only [hcond, or_false]
  cases hforms : s.trip.line.supervised with
  | true =>
    have hformed : sampleJudged h s = judgeSpeeds (judgeEnvelope ((rampCaps h s).formE h) (rampCaps h s)) := congrArg judgeSpeeds (if_pos hforms)
    rw [hformed]
    simp only [true_and]
    exact hjudged ((rampCaps h s).formE h)
  | false =>
    have hidle : sampleJudged h s = judgeSpeeds (idleEnvelope (rampCaps h s)) :=
      congrArg judgeSpeeds (if_neg (by rw [hline, hforms]; nofun))
    rw [hidle]
    simp only [Bool.false_eq_true, false_and, or_false]
    exact Iff.rfl

/-- A sample with no header judges the rope's movement with a grant active alone. -/
theorem sampleBlind_list {s : State} (hnone : s.sup.causes = []) :
    (s.anyGrant = true ∧ 30 < distance s.coord s.rope.sRef →
      (settle s (sampleBlind s)).trip.line = .tripped ∧ (settle s (sampleBlind s)).sup.causes = [⟨.doorZoneMovement, none⟩]) ∧
    (¬(s.anyGrant = true ∧ 30 < distance s.coord s.rope.sRef) → (settle s (sampleBlind s)).sup.causes = []) := by
  have hjudged : sampleBlind s = causeIf (s.anyGrant && decide (30 < distance s.coord s.rope.sRef)) .doorZoneMovement
      (judgeSpeeds (idleEnvelope s)) := rfl
  rw [hjudged]
  refine ⟨fun hmoved => ?_, fun hstill => ?_⟩
  · obtain ⟨hline, hcauses⟩ := takeCause_first_line (c := .doorZoneMovement) (s := judgeSpeeds (idleEnvelope s)) hnone
    have htaken : causeIf (s.anyGrant && decide (30 < distance s.coord s.rope.sRef)) .doorZoneMovement (judgeSpeeds (idleEnvelope s)) =
        takeCause .doorZoneMovement none (judgeSpeeds (idleEnvelope s)) := if_pos (by simpa using hmoved)
    rw [htaken, settle_still _ _ (by rw [hline]; rfl)]
    exact ⟨hline, hcauses⟩
  · have hidle : causeIf (s.anyGrant && decide (30 < distance s.coord s.rope.sRef)) .doorZoneMovement (judgeSpeeds (idleEnvelope s)) =
        judgeSpeeds (idleEnvelope s) := if_neg (by simpa using hstill)
    rw [hidle, (settle_seqFrame s _).sup]
    exact hnone

/-- The second sample in a row above S, with no cause met, takes the service stop (R99, R100). -/
theorem sample_served {h : Header} {s : State} (hnone : s.sup.causes = []) (hforms : s.trip.line.supervised = true)
    (habove : serviceThreshold ((rampCaps h s).formE h) < s.vSup) (hrun : 1 ≤ s.sup.overS) (hstop : s.trip.stop ≠ .service)
    (hunmet : ∀ c, (c, true) ∉ s.sampleCauses h) :
    let t := settle s (sampleWith h s)
    t.sup.causes = [] ∧ t.sup.lastService = some .envelopeService ∧ t.sup.serviceCount = min 255 (s.sup.serviceCount + 1) ∧ t.sup.overS = 0 ∧
    t.trip.held = 0 ∧ t.outputs = (s.sup.ebRel, false, false) := by
  obtain ⟨hcauses, -, hcount⟩ := sampleJudged_list h s
  have hover := sampleJudged_over h hforms
  rw [if_pos habove, if_neg (by omega)] at hover
  have hsample : sampleWith h s = serviceStop .envelopeService (sampleJudged h s) := by
    rw [sampleWith_eq, takeCauses_none hunmet, if_pos (by simp [hforms, habove, hrun])]
  obtain ⟨-, -, -, htrip, -⟩ := sampleJudged_keeps h s
  have hline : (sampleJudged h s).trip.line.supervised = true := by rw [htrip, hforms]
  have hstop' : (sampleJudged h s).trip.stop ≠ .service := by rw [htrip]; exact hstop
  rw [hnone] at hcauses
  obtain ⟨hstopped, hsup, -⟩ := serviceStop_taken (c := .envelopeService) hline hstop' hcauses
  obtain ⟨hsb, hdrv, heb, hlast, hserved, -⟩ := serviceStopped_sup .envelopeService (sampleJudged h s)
  have hframe := settle_seqFrame s (serviceStop .envelopeService (sampleJudged h s))
  have hfigures := (serviceStop_sampled .envelopeService (sampleJudged h s)).sup
  have heb' : (sampleJudged h s).sup.ebRel = s.sup.ebRel := by rw [sampleJudged_sup]
  intro t
  have ht : t = settle s (serviceStop .envelopeService (sampleJudged h s)) := congrArg (settle s) hsample
  refine ⟨?_, ?_, ?_, ?_, ?_, ?_⟩
  · rw [ht, hframe.sup]
    exact (serviceStop_list _ _).1.trans hcauses
  · rw [ht, hframe.sup, hsup]
    exact hlast
  · rw [ht, hframe.sup, hsup]
    exact hserved.trans (by rw [hcount])
  · rw [ht, hframe.sup]
    exact hfigures.2.2.2.2.trans hover
  · have hheld : (serviceStop .envelopeService (sampleJudged h s)).trip.held = 0 := by rw [hstopped, (serviceStopped_trip _ _).1]
    rw [ht]
    rcases hframe.setpoints with e | e
    · exact (congrArg Prod.fst e).trans hheld
    · exact congrArg Prod.fst e
  · rw [ht]
    refine (settleWith_served _ (serviceStop_served .envelopeService hline hstop' hcauses)).trans ?_
    rw [State.outputs, hsup, hsb, hdrv, heb, heb']

/-- The cause first listed is that first met. -/
theorem sample_first {h : Header} {s : State} (hheader : s.tables.header = some h) (hnone : s.sup.causes = []) {c : Cause}
    {l : List (Cause × Bool)} (hfirst : causesMet (s.sampleCauses h) = ⟨c, none⟩ :: causesMet l) (hc : (c, true) ∈ s.sampleCauses h) :
    let t := settle s (sampleWith h s)
    (exec .supervisionSample s = .next t ∧ t.trip.line = .tripped ∧ t.sup.causes.head? = some ⟨c, none⟩ ∧
      t.sup.ebRel = false ∧ t.sup.sbRel = false ∧ t.sup.drvEn = false ∧ t.trip.held = 0 ∧ t.sup.serviceCount = s.sup.serviceCount) ∧
    (c.setsOrders = true → t.sup.railOrder = ⟨.trip, .trip⟩) := by
  obtain ⟨hsettled, hhalted⟩ := sample_halted hnone hc
  intro t
  have ht : t = takeCauses (s.sampleCauses h) (sampleJudged h s) := hsettled
  have hlist : t.sup.causes = (causesMet (s.sampleCauses h)).take 4 := (sample_listing hnone).1
  refine ⟨⟨exec_sampleWith hheader, ?_, by rw [hlist, hfirst]; rfl, ?_⟩, fun horders => ?_⟩
  · rw [ht]; exact hhalted.down.line
  · rw [ht]; exact ⟨hhalted.down.eb, hhalted.down.sb, hhalted.down.drv, hhalted.held, hhalted.count⟩
  · rw [ht]; exact takeCauses_orders _ hc horders

/-- Settles O24: the causes of a sample by the list of its conditions, its counts by the figures it forms. -/
theorem sampleIntervenes : Obligations.SampleIntervenes := by
  refine ⟨fun s => ?_, fun h s hheader hnone => ?_⟩
  · obtain ⟨u, t, hexec, hsampled, -, -, -, -, -, -, hblind, hwith⟩ := sample_formed s
    refine ⟨t, hexec, ?_⟩
    intro moved
    have hmoved : moved ↔ s.anyGrant = true ∧ 30 < distance s.coord s.rope.sRef := by
      rw [State.anyGrant_iff, distance]
      simp only [moved, Int.abs_eq_natAbs]
      exact and_congr Iff.rfl (by omega)
    refine ⟨fun hheader hnone => ?_, fun h hheader => ?_⟩
    · have ht : t = settle s (sampleBlind s) := by
        rw [exec_sampleBlind hheader] at hexec
        exact (Host.Outcome.next.inj hexec).symm
      rw [ht, hmoved]
      exact sampleBlind_list hnone
    · intro capped e forms met fifth
      have ht : t = settle s (sampleWith h s) := by
        rw [exec_sampleWith hheader] at hexec
        exact (Host.Outcome.next.inj hexec).symm
      have he : e = (rampCaps h s).formE h := rfl
      have hmet : ∀ c, met c ↔ (c, true) ∈ s.sampleCauses h := fun c => by
        rw [mem_sampleCauses, endOverrun_iff, ← hmoved]
        cases c <;> simp [met, forms, he, tripThreshold, absoluteThreshold]
      have hfifth : (s.firstCauses h).all (·.2) = true ↔ fifth := by
        rw [firstCauses_all]
        simp only [forall_eq_or_imp, forall_eq, ← hmet]
        exact Iff.rfl
      refine ⟨fun hforms => ?_, fun p => ?_, fun c hc => ?_, fun hnone => ⟨fun f => ?_, ?_, fun ⟨c, hc⟩ => ?_, fun horders => ?_⟩⟩
      · rw [hsampled.sup.2.2.2.2, hwith h hheader, sampleJudged_over h hforms]
        exact ⟨fun hle => if_neg (by rw [serviceThreshold]; omega), fun hlt => if_pos hlt⟩
      · rw [← and_assoc]
        have hflag : (t.links.get p).flags.getLsbD Notice.envelopeWarning.code = ((sampleJudged h s).links.get p).flags.getLsbD 2 := by
          rw [← hwith h hheader]
          exact hsampled.flag p
        rw [hflag, and_assoc]
        exact sampleJudged_flag h s p
      · obtain ⟨hlist, hover⟩ := sample_list h s
        have htold := (takeCauses_told (s.sampleCauses h) (sampleJudged h s)).2 c ((hmet c).mp hc)
        rw [Told, Listed, ← hlist, ← hover, ← ht] at htold
        exact htold
      · rw [ht, (sample_listing hnone).1, sampleCauses_split, (causesMet_take rfl _ _).1, mem_causesMet, mem_firstFour, hmet, hfifth]
      · rw [ht, (sample_listing hnone).2, sampleCauses_split, (causesMet_take rfl _ _).2, hfifth, endOverrun_iff]
      · obtain ⟨hsettled, hhalted⟩ := sample_halted hnone ((hmet c).mp hc)
        rw [ht, hsettled]
        exact ⟨hhalted.down.line, hhalted.down.eb, hhalted.down.sb, hhalted.down.drv, hhalted.held, hhalted.count⟩
      · have htaken : ∀ c, met c → c.setsOrders = true → t.sup.railOrder = ⟨.trip, .trip⟩ := fun c hc hset => by
          rw [ht, (sample_halted hnone ((hmet c).mp hc)).1]
          exact takeCauses_orders _ ((hmet c).mp hc) hset
        exact horders.elim (fun hc => htaken .absoluteOverspeed hc rfl) fun hc => htaken .encoderDisagree hc rfl
  · intro capped e aboveT aboveAbs tripped
    have haboveT : decide aboveT = (s.trip.line.supervised && decide (tripThreshold ((rampCaps h s).formE h) < s.vSup)) := by
      rw [Bool.eq_iff_iff]
      simp only [decide_eq_true_eq, Bool.and_eq_true]
      exact Iff.rfl
    have haboveAbs : decide aboveAbs = decide (absoluteThreshold h < s.vSup) := rfl
    have hcauses : s.sampleCauses h = (.envelopeExceeded, decide aboveT) :: (.absoluteOverspeed, decide aboveAbs) :: (s.sampleCauses h).drop 2 := by
      rw [haboveT, haboveAbs]
      rfl
    refine ⟨fun hT => ?_, fun hT hA => ?_, fun hT hA hforms habove hrun hstop happart hmoved hend => ?_⟩
    · rw [decide_eq_true hT] at hcauses
      exact ⟨_, (sample_first hheader hnone (c := .envelopeExceeded) (by rw [hcauses]; rfl) (by rw [hcauses]; exact List.mem_cons_self)).1⟩
    · rw [decide_eq_false hT, decide_eq_true hA] at hcauses
      obtain ⟨htripped, horders⟩ := sample_first hheader hnone (c := .absoluteOverspeed) (l := (s.sampleCauses h).drop 2)
        (by rw [hcauses]; rfl) (by rw [hcauses]; simp)
      exact ⟨_, htripped, horders rfl⟩
    · have hunmet : ∀ c, (c, true) ∉ s.sampleCauses h := fun c hc => by
        rcases mem_sampleCauses.mp hc with ⟨-, hc⟩ | ⟨-, hc⟩ | ⟨-, hc⟩ | ⟨-, hc⟩ | ⟨-, hc⟩
        · exact hT hc
        · exact hA hc
        · exact happart hc
        · exact hmoved hc
        · rw [hend] at hc
          exact absurd hc nofun
      obtain ⟨hlist, hlast, hcount, hover, hheld, hout⟩ := sample_served hnone hforms habove hrun hstop hunmet
      obtain ⟨heb, hsb, hdrv⟩ : (settle s (sampleWith h s)).sup.ebRel = s.sup.ebRel ∧ (settle s (sampleWith h s)).sup.sbRel = false ∧
          (settle s (sampleWith h s)).sup.drvEn = false := by simpa [State.outputs] using hout
      exact ⟨_, exec_sampleWith hheader, hlist, hlast, hcount, hover, hheld, hsb, hdrv, heb⟩

end Sys2Proof.Machine
end

section
/-! PROOFS. The table store: staging and reading (O11). -/

namespace Sys2Proof.Machine

/-! ### The line states of the table requests (R12) -/

theorem tableRefusal_open {g : TableId} {l : LineState} (h : TableOpen g l) : tableRefusal g l = none := by
  rcases h with rfl | ⟨rfl, rfl | rfl⟩ <;> rfl

theorem TableOpen.still {g : TableId} {l : LineState} (h : TableOpen g l) : l.still = true := by
  rcases h with rfl | ⟨rfl, -⟩ <;> rfl

/-! ### Staging (R9, R10) -/

theorem entrySize_pos (g : TableId) : 0 < g.entrySize := by cases g <;> decide

/-- Whole entries are found again in their bytes. -/
theorem chunks_flatten {size : Nat} (l : List (List Byte)) (h : ∀ e ∈ l, e.length = size) : chunks size l.length l.flatten = l := by
  induction l with
  | nil => rfl
  | cons e l ih =>
    have he : e.length = size := h e List.mem_cons_self
    rw [List.flatten_cons, List.length_cons, chunks, List.take_left' he, List.drop_left' he,
      ih fun e' he' => h e' (List.mem_cons_of_mem e he')]

theorem flatten_length {size : Nat} (l : List (List Byte)) (h : ∀ e ∈ l, e.length = size) : l.flatten.length = l.length * size := by
  rw [List.length_flatten, List.map_congr_left h, List.map_const', List.sum_replicate, smul_eq_mul]

theorem writeEntries_length (es : List (List Byte)) (i : Nat) (l : List (Option (List Byte))) : (writeEntries i es l).length = l.length := by
  induction es generalizing i l with
  | nil => rfl
  | cons e es ih => rw [writeEntries, ih, List.length_set]

/-- The written entries stand from their first index on, the others as they were. -/
theorem writeEntries_get (es : List (List Byte)) (i : Nat) (l : List (Option (List Byte))) {j : Nat} (hj : j < l.length) :
    (writeEntries i es l)[j]? = if i ≤ j ∧ j < i + es.length then some es[j - i]? else l[j]? := by
  induction es generalizing i l with
  | nil => rw [writeEntries, if_neg (by simp)]
  | cons e es ih =>
    rw [writeEntries, ih (i + 1) (l.set i (some e)) (by rw [List.length_set]; exact hj), List.length_cons]
    by_cases hi : j = i
    · subst hi
      rw [if_neg (by omega), if_pos (by omega), List.getElem?_set_self hj, Nat.sub_self]
      rfl
    · rw [List.getElem?_set_ne (Ne.symm hi)]
      by_cases hin : i + 1 ≤ j ∧ j < i + 1 + es.length
      · obtain ⟨k, hk⟩ : ∃ k, j - i = k + 1 := ⟨j - i - 1, by omega⟩
        have hk' : j - (i + 1) = k := by omega
        rw [if_pos hin, if_pos (by omega), hk, hk', List.getElem?_cons_succ]
      · rw [if_neg hin, if_neg (by omega)]

theorem reqTableBegin_open {x : Byte} {g : TableId} {s : State} (hx : TableId.ofCode x.toNat = some g) (hopen : TableOpen g s.trip.line) :
    reqTableBegin .d [x] s = done (s.setTables { s.tables with staging := some ⟨g, List.replicate g.maxEntries none, 0⟩ }) := by
  simp only [reqTableBegin, hx, tableRefusal_open hopen]

theorem reqTableEntries_open {x : Byte} {l : List (List Byte)} {g : Staging} {s : State} (hg : s.tables.staging = some g)
    (hopen : TableOpen g.table s.trip.line) (hl : l ≠ []) (hsize : ∀ e ∈ l, e.length = g.table.entrySize)
    (hfit : x.toNat + l.length ≤ g.table.maxEntries) :
    reqTableEntries .d (x :: l.flatten) s = done (s.setTables { s.tables with staging := some (g.write x.toNat l) }) := by
  have hlength := flatten_length l hsize
  have hpos := entrySize_pos g.table
  have hnumber : l.flatten.length / g.table.entrySize = l.length := by rw [hlength, Nat.mul_div_cancel _ hpos]
  have hnonempty : l.flatten ≠ [] := fun e => by
    rw [e, List.length_nil] at hlength
    rcases Nat.mul_eq_zero.mp hlength.symm with h | h
    · exact hl (List.length_eq_zero_iff.mp h)
    · omega
  have hwhole : ¬(l.flatten = [] ∨ l.flatten.length % g.table.entrySize ≠ 0) := by
    rw [not_or, not_not]
    exact ⟨hnonempty, by rw [hlength, Nat.mul_mod_left]⟩
  simp only [reqTableEntries, hg, tableRefusal_open hopen]
  rw [if_neg hwhole, hnumber, if_neg (by omega), chunks_flatten l hsize]

/-! ### Reading (R17) -/

theorem reqTableRead_entries {p : Port} {x first n : Byte} {g : TableId} {s : State} {l : List (List Byte)}
    (hx : TableId.ofCode x.toNat = some g) (hl : s.tables.entryBytes g = some l) :
    reqTableRead p [x, first, n] s = (s, ⟨.done, .entries g first.toNat ((l.drop first.toNat).take (min n.toNat g.perAnswer))⟩) := by
  simp only [reqTableRead, hx, hl]
  rfl

theorem reqTableRead_absent {p : Port} {x first n : Byte} {g : TableId} {s : State} (hx : TableId.ofCode x.toNat = some g)
    (hl : s.tables.entryBytes g = none) : reqTableRead p [x, first, n] s = refuse .tablesInvalid s := by
  simp only [reqTableRead, hx, hl]

theorem perAnswer_fits (g : TableId) : g.perAnswer * g.entrySize ≤ 44 ∧ 44 < (g.perAnswer + 1) * g.entrySize := by cases g <;> decide

/-- Settles O11: the staging area by what is written, the answer by the entries that exist and fit. -/
theorem tablesAreStagedAndRead : Obligations.TablesAreStagedAndRead := by
  refine ⟨fun x g s hfree hx hopen => ?_, fun x l g s hfree hg hopen hl hsize hfit hlength => ?_,
    fun p x first n g s hfree hx => ⟨fun l hl => ?_, fun hl => ?_⟩⟩
  · exact exec_taken_still (r := .tableBegin) hfree rfl (reqTableBegin_open hx hopen) hopen.still
  · refine ⟨g.write x.toNat l, exec_taken_still (r := .tableEntries) hfree rfl (reqTableEntries_open hg hopen hl hsize hfit) hopen.still, rfl, rfl,
      writeEntries_length l x.toNat g.entries, fun i hi => writeEntries_get l x.toNat g.entries hi⟩
  · obtain ⟨hfits, hless⟩ := perAnswer_fits g
    have htake : (l.drop first.toNat).take (min n.toNat g.perAnswer) =
        (l.drop first.toNat).take (min (min n.toNat g.perAnswer) (l.length - first.toNat)) := by
      rw [← List.length_drop]
      exact List.take_eq_take_min
    refine ⟨min (min n.toNat g.perAnswer) (l.length - first.toNat), by omega, by omega, ?_, ?_, ?_⟩
    · rcases Nat.le_total (min n.toNat g.perAnswer) (l.length - first.toNat) with h | h
      · rw [Nat.min_eq_left h]
        rcases Nat.le_total n.toNat g.perAnswer with h' | h'
        · exact .inl (Nat.min_eq_left h')
        · exact .inr (.inr (by rw [Nat.min_eq_right h']; exact hless))
      · exact .inr (.inl (Nat.min_eq_right h))
    · exact (Nat.mul_le_mul_right _ (by omega)).trans hfits
    · rw [← htake]
      exact exec_inert (r := .tableRead) hfree (by cases p <;> rfl) rfl (reqTableRead_entries (p := p) hx hl)
  · exact exec_inert (r := .tableRead) hfree (by cases p <;> rfl) rfl (reqTableRead_absent (p := p) hx hl)

end Sys2Proof.Machine
end

section
/-! PROOFS. The table store: commits (O12). -/

namespace Sys2Proof.Machine

/-! ### The comparison of the links in ABILITY (R16, R146) -/

theorem compareAbility_idle {x : Car} {s : State} (h : (s.track.cars.get x).link ≠ .ability ∨ s.tables.valid = false) :
    compareAbility x s = s :=
  if_neg fun ⟨hlink, hvalid⟩ => h.elim (fun hn => hn hlink) fun hn => by simp [hn] at hvalid

/-- A comparison moves its car's link and lays out its leaves. -/
theorem compareAbility_keeps (x : Car) (s : State) : (compareAbility x s).tables = s.tables ∧ (compareAbility x s).rope = s.rope ∧
    (compareAbility x s).trip = s.trip ∧ (compareAbility x s).sup = s.sup ∧ (compareAbility x s).now = s.now ∧
    (compareAbility x s).board.cars = s.board.cars ∧ ∀ y, y ≠ x → (compareAbility x s).track.cars.get y = s.track.cars.get y := by
  by_cases h : (s.track.cars.get x).link = .ability
  · cases hreported : (s.track.cars.get x).reported with
    | none =>
      have hsame : compareAbility x s = s := by
        unfold compareAbility
        rw [hreported, ite_self]
      rw [hsame]
      exact ⟨rfl, rfl, rfl, rfl, rfl, rfl, fun _ _ => rfl⟩
    | some r =>
      rw [compareAbility_ability h hreported]
      split
      · split
        · exact ⟨rfl, rfl, rfl, rfl, rfl, rfl, fun y hy => PerCar.get_set_ne _ _ _ _ hy⟩
        · exact ⟨rfl, rfl, rfl, rfl, rfl, rfl, fun y hy => PerCar.get_set_ne _ _ _ _ hy⟩
      · exact ⟨rfl, rfl, rfl, rfl, rfl, rfl, fun _ _ => rfl⟩
  · rw [compareAbility_idle (.inl h)]
    exact ⟨rfl, rfl, rfl, rfl, rfl, rfl, fun _ _ => rfl⟩

theorem compareAbility_link {x : Car} {r : Ability} {s : State} (hlink : (s.track.cars.get x).link = .ability)
    (hreported : (s.track.cars.get x).reported = some r) (hvalid : s.tables.valid = true) :
    ((compareAbility x s).track.cars.get x).link = if s.tables.expected x = some r then .confirm else .mismatch := by
  rw [compareAbility_ability hlink hreported, if_pos hvalid]
  split <;> exact congrArg CarLink.link (PerCar.get_set_same _ _ _)

/-- Both links compared. -/
def compareBoth (s : State) : State := compareAbility .b (compareAbility .a s)

theorem compareBoth_keeps (s : State) : (compareBoth s).tables = s.tables ∧ (compareBoth s).rope = s.rope ∧ (compareBoth s).trip = s.trip ∧
    (compareBoth s).sup = s.sup ∧ (compareBoth s).now = s.now ∧ (compareBoth s).board.cars = s.board.cars := by
  obtain ⟨h1, h2, h3, h4, h5, h6, -⟩ := compareAbility_keeps .a s
  obtain ⟨k1, k2, k3, k4, k5, k6, -⟩ := compareAbility_keeps .b (compareAbility .a s)
  exact ⟨k1.trans h1, k2.trans h2, k3.trans h3, k4.trans h4, k5.trans h5, k6.trans h6⟩

/-- Each car's link after both comparisons is that of its own. -/
theorem compareBoth_cars (s : State) (x : Car) : ∃ t : State, (compareBoth s).track.cars.get x = (compareAbility x t).track.cars.get x ∧
    t.track.cars.get x = s.track.cars.get x ∧ t.tables = s.tables := by
  cases x with
  | a => exact ⟨s, (compareAbility_keeps .b (compareAbility .a s)).2.2.2.2.2.2 .a nofun, rfl, rfl⟩
  | b => exact ⟨compareAbility .a s, rfl, (compareAbility_keeps .a s).2.2.2.2.2.2 .b nofun, (compareAbility_keeps .a s).1⟩

theorem compareBoth_idle {s : State} {x : Car} (h : (s.track.cars.get x).link ≠ .ability ∨ s.tables.valid = false) :
    (compareBoth s).track.cars.get x = s.track.cars.get x := by
  obtain ⟨t, hbelow, hcar, htables⟩ := compareBoth_cars s x
  rw [hbelow, compareAbility_idle (by rw [hcar, htables]; exact h), hcar]

theorem compareBoth_link {s : State} {x : Car} {r : Ability} (hlink : (s.track.cars.get x).link = .ability)
    (hreported : (s.track.cars.get x).reported = some r) (hvalid : s.tables.valid = true) :
    ((compareBoth s).track.cars.get x).link = if s.tables.expected x = some r then .confirm else .mismatch := by
  obtain ⟨t, hbelow, hcar, htables⟩ := compareBoth_cars s x
  rw [hbelow, compareAbility_link (by rw [hcar, hlink]) (by rw [hcar, hreported]) (by rw [htables, hvalid]), htables]

/-! ### A LINE commit (R13, R37, R102) -/

/-- What a LINE commit leaves before its coordinates are judged. -/
def lineTaken (h : Header) (s : State) : State :=
  let t := dwellAfter s.vSup (retakeReference (s.setTables (s.tables.commitLine h)))
  if lineChanged s.tables.header h then setCertainty .unknown t else t

theorem commitLine_eq (h : Header) (s : State) : commitLine h s = (causeIf (lineTaken h s).apart .encoderDisagree (lineTaken h s),
    ⟨.done, .withdrawn (withdrew s.tables.sections (s.tables.commitLine h).sections) (withdrew s.tables.berths (s.tables.commitLine h).berths)
      (withdrew s.tables.markers (s.tables.commitLine h).markers)⟩) := rfl

theorem setCertainty_unknown (s : State) : (setCertainty .unknown s).rope = { s.rope with certainty := .unknown } := by
  unfold setCertainty
  dsimp only
  split <;> simp

theorem retakeReference_set {s : State} (h : s.rope.flag = true) : (retakeReference s).rope = { s.rope with sRef := s.coord } ∧
    (retakeReference s).sup = { s.sup with rollaway := s.sup.rollaway.map fun _ => s.coord } := by
  rw [retakeReference, if_pos h]
  exact ⟨rfl, rfl⟩

theorem retakeReference_clear {s : State} (h : s.rope.flag = false) : retakeReference s = s := if_neg (by rw [h]; nofun)

theorem lineTaken_keeps (h : Header) (s : State) : (lineTaken h s).tables = s.tables.commitLine h ∧ (lineTaken h s).track = s.track ∧
    (lineTaken h s).board.cars = s.board.cars ∧ (lineTaken h s).now = s.now ∧ (lineTaken h s).trip = s.trip := by
  have hretaken : ∀ t : State, (retakeReference t).tables = t.tables ∧ (retakeReference t).track = t.track ∧
      (retakeReference t).board = t.board ∧ (retakeReference t).now = t.now ∧ (retakeReference t).trip = t.trip := fun t => by
    unfold retakeReference
    split <;> exact ⟨rfl, rfl, rfl, rfl, rfl⟩
  obtain ⟨htables, htrack, hboard, hnow, htrip⟩ := hretaken (s.setTables (s.tables.commitLine h))
  unfold lineTaken
  generalize retakeReference (s.setTables (s.tables.commitLine h)) = u at htables htrack hboard hnow htrip
  dsimp only
  split <;> simp only [setCertainty_frame, dwellAfter_frame, htables, htrack, hboard, hnow, htrip] <;> exact ⟨rfl, rfl, rfl, rfl, rfl⟩

/-- The reference and the rollaway anchor after a LINE commit. -/
theorem lineTaken_reference (h : Header) (s : State) :
    (s.rope.flag = true → (lineTaken h s).rope.sRef = (lineTaken h s).coord ∧
      ∀ a, s.sup.rollaway = some a → (lineTaken h s).sup.rollaway = some (lineTaken h s).coord) ∧
    (s.rope.flag = false → (lineTaken h s).rope.sRef = s.rope.sRef) ∧
    (lineChanged s.tables.header h = true → (lineTaken h s).rope.certainty = .unknown) := by
  obtain ⟨htables, -⟩ := lineTaken_keeps h s
  obtain ⟨hrope, hsup⟩ : (∃ d c, (lineTaken h s).rope = { (retakeReference (s.setTables (s.tables.commitLine h))).rope with dwell := d, certainty := c }) ∧
      (lineTaken h s).sup = (retakeReference (s.setTables (s.tables.commitLine h))).sup := by
    obtain ⟨hdwell, -, -, -, hsup⟩ := dwellAfter_eq s.vSup (retakeReference (s.setTables (s.tables.commitLine h)))
    unfold lineTaken
    dsimp only
    split
    · rw [setCertainty_unknown, hdwell]
      exact ⟨⟨_, _, rfl⟩, by simp⟩
    · exact ⟨⟨_, _, hdwell⟩, hsup⟩
  obtain ⟨d, c, hrope⟩ := hrope
  refine ⟨fun hflag => ?_, fun hflag => ?_, fun hchanged => ?_⟩
  · obtain ⟨hset, hwatch⟩ := retakeReference_set (s := s.setTables (s.tables.commitLine h)) hflag
    have hcoord : (lineTaken h s).coord = (s.setTables (s.tables.commitLine h)).coord :=
      State.coord_congr (by rw [htables]; rfl) (by rw [hrope, hset]) (by rw [hrope, hset])
    refine ⟨by rw [hcoord, hrope, hset], fun a ha => ?_⟩
    rw [hsup, hwatch, hcoord]
    exact congrArg (Option.map _) ha
  · rw [hrope, retakeReference_clear (s := s.setTables (s.tables.commitLine h)) hflag]
    rfl
  · rw [lineTaken, if_pos hchanged, setCertainty_unknown]

/-- The judgement of the coordinates after a LINE commit leaves what it has taken. -/
theorem commitLine_leaves (h : Header) (s : State) : ∃ t, commitLine h s = (t, ⟨.done, .withdrawn
      (withdrew s.tables.sections t.tables.sections) (withdrew s.tables.berths t.tables.berths) (withdrew s.tables.markers t.tables.markers)⟩) ∧
    t.tables = s.tables.commitLine h ∧ t.track = s.track ∧ t.board.cars = s.board.cars ∧ t.now = s.now ∧
    t.trip.number = s.trip.number ∧ t.trip.weather = s.trip.weather ∧ (s.trip.line.still = true → t.trip.line.still = true) ∧
    (s.rope.flag = true → t.rope.sRef = t.coord ∧ ∀ a, s.sup.rollaway = some a → t.sup.rollaway = some t.coord) ∧
    (s.rope.flag = false → t.rope.sRef = s.rope.sRef) ∧ (lineChanged s.tables.header h = true → t.rope.certainty = .unknown) := by
  obtain ⟨htables, htrack, hcars, hnow, htrip⟩ := lineTaken_keeps h s
  obtain ⟨hset, hclear, hchanged⟩ := lineTaken_reference h s
  have hsampled := causeIf_sampled (lineTaken h s).apart .encoderDisagree (lineTaken h s)
  have hrope : (causeIf (lineTaken h s).apart .encoderDisagree (lineTaken h s)).rope = (lineTaken h s).rope := by
    unfold causeIf
    split <;> simp
  have hcoord := hsampled.measured.coord
  have hwatch : ∀ a, (lineTaken h s).sup.rollaway = some a →
      (causeIf (lineTaken h s).apart .encoderDisagree (lineTaken h s)).sup.rollaway = some a := fun a ha => by
    unfold causeIf
    split
    · rcases (takeCause_watch .encoderDisagree none (lineTaken h s)).2 with e | ⟨e, -⟩
      · rw [e, ha]
      · rw [ha] at e
        exact absurd e nofun
    · exact ha
  have hstill : (lineTaken h s).trip.line.still = true →
      (causeIf (lineTaken h s).apart .encoderDisagree (lineTaken h s)).trip.line.still = true := fun hs => by
    unfold causeIf
    split
    · by_cases hnone : (lineTaken h s).sup.causes = []
      · rw [(takeCause_first_line hnone).1]
        rfl
      · rw [(takeCause_further_blocks none hnone).1, hs]
    · exact hs
  refine ⟨_, ?_, hsampled.measured.tables.trans htables, hsampled.measured.track.trans htrack, hsampled.measured.cars.trans hcars,
    hsampled.measured.now.trans hnow, hsampled.number.trans (by rw [htrip]), hsampled.weather.trans (by rw [htrip]),
    fun hs => hstill (by rw [htrip, hs]), fun hflag => ?_, fun hflag => by rw [hrope, hclear hflag], fun e => by rw [hrope, hchanged e]⟩
  · rw [commitLine_eq, hsampled.measured.tables, htables]
  · obtain ⟨href, hanchor⟩ := hset hflag
    exact ⟨by rw [hrope, href, hcoord], fun a ha => by rw [hwatch _ (hanchor a ha), hcoord]⟩

/-! ### The other commits (R14, R15) -/

/-- A link sent to LISTEN: its own, unless it is DOWN. -/
theorem relisten_keeps (y : Car) (s : State) : (relisten y s).tables = s.tables ∧ (relisten y s).trip = s.trip ∧
    (relisten y s).now = s.now ∧ (relisten y s).board.cars = s.board.cars ∧
    ((s.track.cars.get y).link ≠ .down →
      ((relisten y s).track.cars.get y).link = .listen ∧ ((relisten y s).track.cars.get y).baselines = none) ∧
    ∀ x, x ≠ y → (relisten y s).track.cars.get x = s.track.cars.get x := by
  have htrip := relisten_trip y s
  by_cases h : (s.track.cars.get y).link = .down
  · have hsame : relisten y s = s := if_pos h
    rw [hsame]
    exact ⟨rfl, rfl, rfl, rfl, fun e => absurd h e, fun _ _ => rfl⟩
  · have hset : relisten y s = setLink y .listen (s.setCar y { s.track.cars.get y with baselines := none }) := if_neg h
    refine ⟨by simp [hset], htrip, by simp [hset], ?_⟩
    · rw [hset, setLink_ne_down_eq _ .listen _ nofun]
      split
      next hlisten =>
        have hlisten' : (s.track.cars.get y).link = .listen := by simpa [State.setCar] using hlisten
        exact ⟨by simp, fun _ => by simp [State.setCar, hlisten'], fun x hx => by simp [State.setCar, PerCar.get_set_ne _ _ _ _ hx]⟩
      next =>
        exact ⟨by simp [linkMoved_board_cars], fun _ => by simp [CarLink.moved, State.setCar],
          fun x hx => by simp [State.setCar, PerCar.get_set_ne _ _ _ _ hx]⟩

/-- A commit of CARS leaves each link that is not DOWN in LISTEN without baselines. -/
theorem commitCars_leaves (c : PerCar Ability) (s : State) : (commitOther (.cars c) s).tables = { s.tables with cars := some c, staging := none } ∧
    (commitOther (.cars c) s).trip = s.trip ∧ (commitOther (.cars c) s).now = s.now ∧ (commitOther (.cars c) s).board.cars = s.board.cars ∧
    ∀ x, (s.track.cars.get x).link ≠ .down → ((commitOther (.cars c) s).track.cars.get x).link = .listen ∧
      ((commitOther (.cars c) s).track.cars.get x).baselines = none := by
  have hcommit : commitOther (.cars c) s = relisten .b (relisten .a (s.setTables { s.tables with cars := some c, staging := none })) := rfl
  obtain ⟨h1, h2, h3, h4, hlisten, hother⟩ := relisten_keeps .a (s.setTables { s.tables with cars := some c, staging := none })
  obtain ⟨k1, k2, k3, k4, klisten, kother⟩ := relisten_keeps .b (relisten .a (s.setTables { s.tables with cars := some c, staging := none }))
  rw [hcommit]
  refine ⟨k1.trans h1, k2.trans h2, k3.trans h3, k4.trans h4, fun x hx => ?_⟩
  cases x with
  | a =>
    rw [kother .a nofun]
    exact hlisten hx
  | b => exact klisten (by rw [hother .b nofun]; exact hx)

/-- A commit before the links are compared. -/
def commitTaken (v : Validated) (s : State) : State × Reply :=
  match v with
  | .line h => commitLine h s
  | _ => done (commitOther v s)

theorem commitValidated_eq (v : Validated) (s : State) : commitValidated v s =
    if s.tables.valid then commitTaken v s else (compareBoth (commitTaken v s).1, (commitTaken v s).2) := rfl

/-- What a commit of any table leaves before the links are compared. -/
structure Committed (v : Validated) (s t : State) : Prop where
  tables : t.tables = v.into s.tables
  cars : t.board.cars = s.board.cars
  now : t.now = s.now
  weather : t.trip.weather = s.trip.weather
  number : t.trip.number = s.trip.number
  still : s.trip.line.still = true → t.trip.line.still = true
  unknown : ∀ h, v = .line h → lineChanged s.tables.header h = true → t.rope.certainty = .unknown
  offsets : ∀ e, v = .berths e → ∀ x b, (t.trip.offsets.get x).get b = ⟨0, 0⟩
  listen : ∀ e, v = .cars e → ∀ x, (s.track.cars.get x).link ≠ .down →
    (t.track.cars.get x).link = .listen ∧ (t.track.cars.get x).baselines = none
  reference : ∀ h, v = .line h → s.rope.flag = true → t.rope.sRef = t.coord ∧ ∀ a, s.sup.rollaway = some a → t.sup.rollaway = some t.coord
  anchor : ∀ h, v = .line h → s.rope.flag = false → t.rope.sRef = s.rope.sRef

/-- The figures of a commit's answer: after LINE the dependents withdrawn. -/
def commitReply (v : Validated) (s t : State) : ReplyData :=
  match v with
  | .line _ => .withdrawn (withdrew s.tables.sections t.tables.sections) (withdrew s.tables.berths t.tables.berths)
      (withdrew s.tables.markers t.tables.markers)
  | _ => .none

theorem commitTaken_committed (v : Validated) (s : State) : ∃ t, commitTaken v s = (t, ⟨.done, commitReply v s t⟩) ∧ Committed v s t ∧
    ((∀ e, v ≠ .cars e) → t.track = s.track) := by
  cases v with
  | line h =>
    obtain ⟨t, hcommit, htables, htrack, hcars, hnow, hnumber, hweather, hstill, hset, hclear, hchanged⟩ := commitLine_leaves h s
    exact ⟨t, hcommit, ⟨htables, hcars, hnow, hweather, hnumber, hstill, fun k hk => by cases hk; exact hchanged, fun _ e => (nomatch e),
      fun _ e => (nomatch e), fun k _ => hset, fun k _ => hclear⟩, fun _ => htrack⟩
  | cars c =>
    obtain ⟨htables, htrip, hnow, hcars, hlisten⟩ := commitCars_leaves c s
    exact ⟨_, rfl, ⟨htables, hcars, hnow, by rw [htrip], by rw [htrip], fun h => by rw [htrip]; exact h, fun _ e => (nomatch e),
      fun _ e => (nomatch e), fun e _ => hlisten, fun _ e => (nomatch e), fun _ e => (nomatch e)⟩, fun h => absurd rfl (h c)⟩
  | berths e =>
    exact ⟨_, rfl, ⟨rfl, rfl, rfl, rfl, rfl, id, fun _ e => (nomatch e), fun _ _ x b => by cases x <;> cases b <;> rfl, fun _ e => (nomatch e),
      fun _ e => (nomatch e), fun _ e => (nomatch e)⟩, fun _ => rfl⟩
  | sections l | markers l | gates l | rules l =>
    exact ⟨_, rfl, ⟨rfl, rfl, rfl, rfl, rfl, id, fun _ e => (nomatch e), fun _ e => (nomatch e), fun _ e => (nomatch e), fun _ e => (nomatch e),
      fun _ e => (nomatch e)⟩, fun _ => rfl⟩

/-- The comparison leaves what a commit has left, and moves the links in ABILITY alone. -/
theorem Committed.compared {v : Validated} {s t : State} (h : Committed v s t) : Committed v s (compareBoth t) := by
  obtain ⟨htables, hrope, htrip, hsup, hnow, hcars⟩ := compareBoth_keeps t
  have hcoord : (compareBoth t).coord = t.coord := State.coord_congr (by rw [htables]) (by rw [hrope]) (by rw [hrope])
  refine ⟨htables.trans h.tables, hcars.trans h.cars, hnow.trans h.now, by rw [htrip, h.weather], by rw [htrip, h.number],
    by rw [htrip]; exact h.still, by rw [hrope]; exact h.unknown, by rw [htrip]; exact h.offsets, fun e hv x hx => ?_,
    by rw [hrope, hsup, hcoord]; exact h.reference, by rw [hrope]; exact h.anchor⟩
  obtain ⟨hlisten, hbase⟩ := h.listen e hv x hx
  rw [compareBoth_idle (.inl (by rw [hlisten]; nofun))]
  exact ⟨hlisten, hbase⟩

/-- A commit taken, with its answer and what becomes of the links. -/
theorem commitValidated_committed (v : Validated) (s : State) : ∃ t, commitValidated v s = (t, ⟨.done, commitReply v s t⟩) ∧ Committed v s t ∧
    ((∀ e, v ≠ .cars e) →
      (s.tables.valid = false → t.tables.valid = true → ∀ x r, (s.track.cars.get x).link = .ability → (s.track.cars.get x).reported = some r →
        (t.track.cars.get x).link = if t.tables.expected x = some r then .confirm else .mismatch) ∧
      ∀ x, (s.track.cars.get x).link ≠ .ability ∨ s.tables.valid = true ∨ t.tables.valid = false →
        t.track.cars.get x = s.track.cars.get x) := by
  obtain ⟨u, htaken, hcommitted, htrack⟩ := commitTaken_committed v s
  rw [commitValidated_eq, htaken]
  cases hvalid : s.tables.valid with
  | true =>
    exact ⟨u, rfl, hcommitted, fun hv => ⟨nofun, fun x _ => by rw [htrack hv]⟩⟩
  | false =>
    obtain ⟨htables, -⟩ := compareBoth_keeps u
    have hreply : commitReply v s u = commitReply v s (compareBoth u) := by
      cases v <;> simp only [commitReply, htables]
    refine ⟨compareBoth u, by rw [← hreply]; rfl, hcommitted.compared, fun hv => ⟨fun _ hafter x r hlink hreported => ?_, fun x hx => ?_⟩⟩
    · rw [htables] at hafter
      rw [compareBoth_link (by rw [htrack hv, hlink]) (by rw [htrack hv, hreported]) hafter, htables]
    · rw [htables] at hx
      rw [compareBoth_idle (hx.imp (by rw [htrack hv]; exact id) fun h => h.resolve_left nofun), htrack hv]

theorem reqTableCommit_open {g : Staging} {s : State} (hg : s.tables.staging = some g) (hopen : TableOpen g.table s.trip.line) :
    (∀ f, g.validate s.tables.header = .error f →
      reqTableCommit .d [g.table.code] s = (s, ⟨.badTable, .tableFault g.table f.1 f.2⟩)) ∧
    (∀ v, g.validate s.tables.header = .ok v → reqTableCommit .d [g.table.code] s = commitValidated v s) := by
  refine ⟨fun f hf => ?_, fun v hv => ?_⟩
  · simp only [reqTableCommit, hg, ne_eq, not_true_eq_false, if_false, tableRefusal_open hopen, hf]
    rfl
  · simp only [reqTableCommit, hg, ne_eq, not_true_eq_false, if_false, tableRefusal_open hopen, hv]

/-- Settles O12: what a commit leaves by its table, the links by the comparison after it. -/
theorem commitTakesOrKeepsTheTable : Obligations.CommitTakesOrKeepsTheTable := by
  intro g s hfree hg hopen
  obtain ⟨hbad, hgood⟩ := reqTableCommit_open hg hopen
  refine ⟨fun f hf => exec_taken_still (r := .tableCommit) hfree rfl (hbad f hf) hopen.still, fun v hv => ?_⟩
  obtain ⟨t, hcommit, h, hlinks⟩ := commitValidated_committed v s
  have hstaging : (v.into s.tables).staging = none := by cases v <;> rfl
  refine ⟨t.answering .d .tableCommit [g.table.code] .done (commitReply v s t), commitReply v s t,
    exec_taken_still (r := .tableCommit) hfree rfl ((hgood v hv).trans hcommit) (h.still hopen.still), ?_, h.tables, ?_, h.cars, h.now, h.weather,
    h.number, h.unknown, h.offsets, h.listen, ?_, h.reference, h.anchor, fun hv => (hlinks hv).1, fun hv => (hlinks hv).2⟩
  · simp [State.answering, State.setPort]
    rfl
  · exact (congrArg Tables.staging h.tables).trans hstaging
  · cases v <;> rfl

end Sys2Proof.Machine
end

section
/-! PROOFS. What the two resets leave (O53). -/

namespace Sys2Proof.Machine

/-! ### The line reset block by block (R59) -/

theorem frameDir_congr {s t : State} (hline : t.trip.line = s.trip.line) (hrecord : t.trip.record = s.trip.record) (hframe : t.trip.frame = s.trip.frame) :
    t.frameDir = s.frameDir := by
  simp only [State.frameDir, hline, hrecord, hframe]

/-- The outputs down and the setpoints 0, with the frame sent before the trip record is lost. -/
theorem zeroed_trip (s : State) : (forceZero (setDrv false (setSb false (setEb false s)))).trip = { s.trip with
    held := 0, forming := 0, stepping := s.trip.stepping && !s.sup.drvEn, frameCount := (s.trip.frameCount + 1) % 256
    frame := ⟨s.frameDir, 0, s.trip.number, (s.trip.frameCount + 1) % 256⟩ } := by
  have hdir : (setDrv false (setSb false (setEb false s))).frameDir = s.frameDir :=
    frameDir_congr (by simp [setDrv_off_trip_eq, -setDrv_off_trip]) (by simp [setDrv_off_trip_eq, -setDrv_off_trip])
      (by simp [setDrv_off_trip_eq, -setDrv_off_trip])
  rw [forceZero_trip, hdir]
  simp [setDrv_off_trip_eq, -setDrv_off_trip]

theorem resetOrders_sup (s : State) : ∃ o c, resetOrders s = { s with sup := { s.sup with railOrder := o, orderClears := c } } := by
  unfold resetOrders
  split
  · exact ⟨_, _, rfl⟩
  · exact ⟨s.sup.railOrder, _, rfl⟩

theorem resetSupervisor_blocks (s : State) : (resetSupervisor s).trip = (forceZero (setDrv false (setSb false (setEb false s)))).trip ∧
    (resetSupervisor s).sched = s.sched ∧ (resetSupervisor s).track = s.track ∧ (resetSupervisor s).doors = s.doors ∧
    (resetSupervisor s).board = s.board ∧ (resetSupervisor s).links = s.links := by
  unfold resetSupervisor
  dsimp only
  obtain ⟨o, c, e⟩ := resetOrders_sup { forceZero (setDrv false (setSb false (setEb false s))) with
    sup := { (forceZero (setDrv false (setSb false (setEb false s)))).sup with
      lastTrip := s.resetRecord, causes := [], overflow := false, overS := 0, warning := false, dirWatch := none } }
  rw [e]
  exact ⟨rfl, by simp, by simp, by simp, by simp, by simp⟩

theorem resetSupervisor_sup (s : State) : (resetSupervisor s).sup.ebRel = false ∧ (resetSupervisor s).sup.sbRel = false ∧
    (resetSupervisor s).sup.overflow = false ∧ (resetSupervisor s).sup.serviceCount = s.sup.serviceCount ∧
    (resetSupervisor s).sup.tripCount = s.sup.tripCount ∧ (resetSupervisor s).sup.windCap = s.sup.windCap ∧
    (resetSupervisor s).sup.lastTrip = s.resetRecord ∧ (resetSupervisor s).sup.ebFb = s.sup.ebFb ∧ (resetSupervisor s).sup.sbFb = s.sup.sbFb := by
  unfold resetSupervisor
  dsimp only
  obtain ⟨o, c, e⟩ := resetOrders_sup { forceZero (setDrv false (setSb false (setEb false s))) with
    sup := { (forceZero (setDrv false (setSb false (setEb false s)))).sup with
      lastTrip := s.resetRecord, causes := [], overflow := false, overS := 0, warning := false, dirWatch := none } }
  rw [e]
  simp

theorem resetTest_blocks (s : State) : (resetTest s).sched.obligations = s.sched.obligations ∧ (resetTest s).track = s.track ∧
    (resetTest s).links = s.links := by
  unfold resetTest
  split <;> simp [writeTest, stopTestLimits]

/-- The blocks that the line's controllers leave to the others. -/
theorem lineClosed_blocks (s : State) : (lineClosed s).sched.obligations = s.sched.obligations ∧ (lineClosed s).track = s.track ∧
    (lineClosed s).doors = s.doors ∧ (lineClosed s).board = s.board ∧ (lineClosed s).links = s.links := by
  obtain ⟨-, hsched, htrack, hdoors, hboard, hlinks⟩ := resetSupervisor_blocks s
  obtain ⟨hobligations, htracked, hlinked⟩ := resetTest_blocks (resetSupervisor s)
  simp [lineClosed, resetTripController, resetTest_fields, hsched, htrack, hdoors, hboard, hlinks, hobligations, htracked, hlinked]

theorem lineClosed_sup (s : State) : (lineClosed s).sup.ebRel = false ∧ (lineClosed s).sup.sbRel = false ∧
    (lineClosed s).sup.overflow = false ∧ (lineClosed s).sup.serviceCount = s.sup.serviceCount ∧
    (lineClosed s).sup.tripCount = s.sup.tripCount ∧ (lineClosed s).sup.windCap = s.sup.windCap ∧
    (lineClosed s).sup.lastTrip = s.resetRecord ∧ (lineClosed s).sup.ebFb = s.sup.ebFb ∧ (lineClosed s).sup.sbFb = s.sup.sbFb := by
  have hclosed : (resetTripController (resetTest (resetSupervisor s))).sup = (resetSupervisor s).sup := (resetTest_fields (resetSupervisor s)).1
  unfold lineClosed
  rcases armRollaway_sup (resetTripController (resetTest (resetSupervisor s))) with e | e
  · rw [e, hclosed]
    exact resetSupervisor_sup s
  · rw [e, hclosed]
    exact resetSupervisor_sup s

theorem lineClosed_trip (s : State) : (lineClosed s).trip = { s.trip with
    line := .closed, record := none, stage := none, dispatchLimit := false, stop := .none, holdCause := none, slot := none
    forming := 0, held := 0, stepping := false, distances := false, resumeRelease := false, moveRelease := false, parkedBerth := none, origin := .none
    consentLower := false, consentUpper := false, frameCount := (s.trip.frameCount + 1) % 256
    frame := ⟨s.frameDir, 0, s.trip.number, (s.trip.frameCount + 1) % 256⟩ } := by
  obtain ⟨-, -, -, -, -, htrip, -⟩ := lineClosed_fields s
  rw [htrip, resetTripController, (resetTest_fields _).2.1, (resetSupervisor_blocks s).1, zeroed_trip]

/-- The last trip record after a line reset (R114). -/
theorem resetRecord_cases (s : State) :
    (s.trip.line = .tripped → s.resetRecord = some ⟨s.trip.number, s.sup.causes ++ (if s.rope.flag then [] else [⟨.resetInMotion, none⟩]),
      s.sup.overflow⟩) ∧
    (s.trip.line = .dispatch ∨ s.trip.line.inMotion = true ∨ s.trip.line.isTest = true →
      s.resetRecord = some ⟨s.trip.number, [⟨.resetInMotion, none⟩], false⟩) ∧
    (s.trip.line = .closed ∨ s.trip.line = .parked ∨ s.trip.line = .held ∨ s.trip.line = .recovery false → s.resetRecord = s.sup.lastTrip) := by
  refine ⟨fun h => ?_, fun h => ?_, fun h => ?_⟩
  · cases hflag : s.rope.flag <;> simp [State.resetRecord, h, hflag, motionEntry]
  · have hmotion : s.trip.line.resetInMotion = true := by
      rcases h with h | h | h
      · rw [h]; rfl
      · revert h
        cases s.trip.line with
        | recovery m => cases m <;> exact id
        | _ => simp [LineState.inMotion, LineState.resetInMotion]
      · revert h
        cases s.trip.line <;> simp [LineState.isTest, LineState.resetInMotion]
    have htripped : s.trip.line ≠ .tripped := fun e => by rw [e] at hmotion; exact absurd hmotion nofun
    unfold State.resetRecord
    split
    next e => exact absurd e htripped
    next => rw [if_pos hmotion]; rfl
  · rcases h with h | h | h | h <;> simp [State.resetRecord, h, LineState.resetInMotion]

/-- Settles O53: the power-on values block by block, the line reset by what its controllers leave. -/
theorem resetsLeaveTheirValues : Obligations.ResetsLeaveTheirValues := by
  intro s
  refine ⟨⟨powerOn s, rfl, rfl, rfl, rfl, rfl, rfl, rfl, rfl, rfl, rfl, rfl, rfl, rfl, rfl, rfl, fun ch => by cases ch <;> exact ⟨rfl, rfl⟩, rfl, rfl,
    rfl, rfl, rfl, rfl, rfl, rfl, fun x => by cases x <;> exact ⟨rfl, rfl, rfl⟩, fun p => by cases p <;> exact ⟨rfl, rfl, rfl, rfl, rfl⟩⟩, ?_⟩
  obtain ⟨hcauses, hdrv, hrope, htables, htest, -⟩ := lineClosed_fields s
  obtain ⟨heb, hsb, hoverflow, hservice, htrips, hwind, hlast, hebFb, hsbFb⟩ := lineClosed_sup s
  obtain ⟨hobligations, htrack, hdoors, hboard, hlinks⟩ := lineClosed_blocks s
  obtain ⟨htripped, hmoving, hstanding⟩ := resetRecord_cases s
  have htrack' : (lineReset s).track = (resetTrack s).track := congrArg (fun t : Track => (resetTrack { s with track := t }).track) htrack
  refine ⟨lineReset s, rfl, congrArg (fun t : Tables => { t with staging := none }) htables,
    congrArg (fun r : Rope => { r with certainty := if s.rope.certainty = Certainty.known then Certainty.uncertain else s.rope.certainty }) hrope,
    lineClosed_trip s, heb, hsb, hdrv, hcauses, hoverflow, hservice, htrips, hwind, fun h => hlast.trans (htripped h), fun h => hlast.trans (hmoving h),
    fun h => hlast.trans (hstanding h), hobligations, htest, hebFb, hsbFb, ?_⟩
  have hdoors' : ∀ x, (lineReset s).doors.get x = (s.doors.get x).lineReset := fun x => by
    rw [← hdoors]
    exact PerCar.get_map _ _ x
  have hcars : ∀ x, (lineReset s).board.cars.get x = ⟨(s.board.cars.get x).onboard, true⟩ := fun x => by
    rw [← hboard]
    exact PerCar.get_map _ _ x
  have hlinks' : ∀ p, (lineReset s).links.get p = (s.links.get p).lineReset (s.rope.certainty == .known) := fun p => by
    rw [← hlinks]
    exact PerPort.get_map _ _ p
  have hcar : ∀ x, (lineReset s).track.cars.get x = (s.track.cars.get x).lineReset := fun x => by
    rw [htrack']
    exact PerCar.get_map _ _ x
  rw [htrack']
  refine ⟨rfl, rfl, rfl, rfl, rfl, rfl, rfl, rfl, fun x => ?_, fun b => ?_, fun p => ?_⟩
  · rw [← htrack', hcar, hdoors', hcars]
    exact ⟨rfl, rfl, rfl, rfl, rfl, dropBoth_anyGrant _, rfl, by simp [CarDoors.lineReset], rfl⟩
  · have hberth : (lineReset s).board.berths.get b = (s.board.berths.get b).lineReset := by
      rw [← hboard]
      exact PerBerth.get_map _ _ b
    exact hberth
  · rw [hlinks', PortState.lineReset]
    simp only [beq_iff_eq]

end Sys2Proof.Machine
end

section
/-! PROOFS. The tables' own rules: the sections of the line (R3, R94), the first part of O13. -/

namespace Sys2Proof.Machine

/-! ### A table's first fault -/

theorem firstFault_cons {α : Type} (check : Nat → Option α → α → TableJudgement) (i : Nat) (prev : Option α) (e : α) (l : List α) :
    firstFault check i prev (e :: l) = none ↔ check i prev e = none ∧ firstFault check (i + 1) (some e) l = none := by
  rw [firstFault]
  cases check i prev e <;> simp

theorem failAt_ite {c : Prop} [Decidable c] {i : Nat} {r : TableReason} {j : TableJudgement} :
    (if c then failAt i r else j) = none ↔ ¬c ∧ j = none := by
  by_cases h : c <;> simp [h, failAt]

/-- Where each entry is judged by itself, a table passes where every entry does. -/
theorem firstFault_indexed {α : Type} (check : Nat → α → TableJudgement) (i : Nat) (prev : Option α) (l : List α) :
    firstFault (fun i _ e => check i e) i prev l = none ↔ ∀ k e, l[k]? = some e → check (i + k) e = none := by
  induction l generalizing i prev with
  | nil => simp [firstFault]
  | cons e l ih =>
    rw [firstFault_cons, ih]
    constructor
    · rintro ⟨he, hl⟩ k f hf
      cases k with
      | zero => exact Option.some.inj hf ▸ he
      | succ k => exact (by omega : i + 1 + k = i + (k + 1)) ▸ hl k f hf
    · intro h
      exact ⟨h 0 e rfl, fun k f hf => (by omega : i + 1 + k = i + (k + 1)) ▸ h (k + 1) f hf⟩

/-! ### Sections joined one to the next (R3) -/

/-- Sections from a point on, each from the end of the one before. -/
def Joined : Nat → List SectionEntry → Prop
  | _, [] => True
  | a, e :: l => e.start = a ∧ e.start < e.stop ∧ Joined e.stop l

/-- A section's end and limit are in range. -/
def SectionEntry.inRange (e : SectionEntry) (len : Nat) : Prop := 300 ≤ e.limit ∧ e.limit ≤ 14000 ∧ e.stop ≤ len

/-- Where the sections before end. -/
def endOf : Option SectionEntry → Nat
  | some q => q.stop
  | none => 0

theorem judgeSection_none {len i : Nat} {prev : Option SectionEntry} {e : SectionEntry} (h : judgeSection len i prev e = none) :
    e.start = endOf prev ∧ e.start < e.stop ∧ e.inRange len := by
  cases prev
  all_goals
    simp only [judgeSection, failAt_ite] at h
    obtain ⟨hstart, horder, hlen, hlimit, -⟩ := h
    exact ⟨by rw [endOf]; omega, by omega, by omega, by omega, by omega⟩

theorem firstFault_joined {len i : Nat} {prev : Option SectionEntry} {l : List SectionEntry}
    (h : firstFault (judgeSection len) i prev l = none) : Joined (endOf prev) l ∧ ∀ e ∈ l, e.inRange len := by
  induction l generalizing i prev with
  | nil => exact ⟨trivial, by simp⟩
  | cons e l ih =>
    obtain ⟨he, hl⟩ := (firstFault_cons _ _ _ _ _).mp h
    obtain ⟨hstart, horder, hrange⟩ := judgeSection_none he
    obtain ⟨hjoined, hall⟩ := ih hl
    exact ⟨⟨hstart, horder, hjoined⟩, List.forall_mem_cons.mpr ⟨hrange, hall⟩⟩

/-- Accepted sections join from 0 to LINE_LEN. -/
theorem judgeSections_none {h : Header} {l : List SectionEntry} (hl : l ≠ []) (hj : judgeSections h l = none) :
    Joined 0 l ∧ (∀ e ∈ l, e.inRange h.lineLen) ∧ ∃ e, l.getLast? = some e ∧ e.stop = h.lineLen := by
  unfold judgeSections at hj
  split at hj
  · exact absurd hj nofun
  next hfirst =>
    obtain ⟨hjoined, hall⟩ := firstFault_joined hfirst
    split at hj
    next e he =>
      refine ⟨hjoined, hall, e, he, ?_⟩
      split at hj
      · assumption
      · exact absurd hj nofun
    next hnone => exact absurd (List.getLast?_eq_none_iff.mp hnone) hl

theorem Joined.mem {a : Nat} {l : List SectionEntry} (h : Joined a l) {e : SectionEntry} (he : e ∈ l) : a ≤ e.start ∧ e.start < e.stop := by
  induction l generalizing a with
  | nil => simp at he
  | cons d l ih =>
    obtain ⟨hstart, horder, hjoined⟩ := h
    rcases List.mem_cons.mp he with rfl | he
    · omega
    · have := ih hjoined he
      omega

/-- Every point from the first start to the last end lies in a section. -/
theorem Joined.covers {a x : Nat} {l : List SectionEntry} (h : Joined a l) {e : SectionEntry} (he : l.getLast? = some e) (hax : a ≤ x) (hx : x < e.stop) :
    ∃ d ∈ l, d.start ≤ x ∧ x < d.stop := by
  induction l generalizing a with
  | nil => simp at he
  | cons d l ih =>
    obtain ⟨hstart, horder, hjoined⟩ := h
    by_cases hd : x < d.stop
    · exact ⟨d, List.mem_cons_self, by omega, hd⟩
    · cases l with
      | nil =>
        obtain rfl : d = e := by simpa using he
        exact absurd hx hd
      | cons f l =>
        obtain ⟨g, hg, hin⟩ := ih hjoined (by rwa [List.getLast?_cons_cons] at he) (by omega)
        exact ⟨g, List.mem_cons_of_mem _ hg, hin⟩

/-- No point lies in two sections. -/
theorem Joined.unique {a x : Nat} {l : List SectionEntry} (h : Joined a l) {d e : SectionEntry} (hd : d ∈ l) (he : e ∈ l)
    (hdx : d.start ≤ x ∧ x < d.stop) (hex : e.start ≤ x ∧ x < e.stop) : d = e := by
  induction l generalizing a with
  | nil => simp at hd
  | cons f l ih =>
    obtain ⟨-, -, hjoined⟩ := h
    rcases List.mem_cons.mp hd with rfl | hd'
    · rcases List.mem_cons.mp he with rfl | he'
      · rfl
      · have := hjoined.mem he'
        omega
    · rcases List.mem_cons.mp he with rfl | he'
      · have := hjoined.mem hd'
        omega
      · exact ih hjoined hd' he'

/-! ### The current limit (R94) -/

/-- The last section that starts at or before a position. -/
theorem Joined.started {a : Nat} {l : List SectionEntry} (h : Joined a l) {e : SectionEntry} (he : e ∈ l) {x : Int} (hstart : e.start ≤ x)
    (hstop : x < e.stop) : (l.filter fun d => decide ((d.start : Int) ≤ x)).getLast? = some e := by
  induction l generalizing a with
  | nil => simp at he
  | cons d l ih =>
    obtain ⟨-, horder, hjoined⟩ := h
    rcases List.mem_cons.mp he with rfl | he
    · have hlater : l.filter (fun d => decide ((d.start : Int) ≤ x)) = [] := List.filter_eq_nil_iff.mpr fun f hf => by
        have := (hjoined.mem hf).1
        simp only [decide_eq_true_eq]
        omega
      rw [List.filter_cons_of_pos (by simpa using hstart), hlater]
      rfl
    · have hbefore := (hjoined.mem he).1
      rw [List.filter_cons_of_pos (by simp only [decide_eq_true_eq]; omega), List.getLast?_cons, ih hjoined he]
      rfl

theorem currentLimit_of_started {l : List SectionEntry} {x : Int} {e : SectionEntry}
    (h : (l.filter fun d => decide ((d.start : Int) ≤ x)).getLast? = some e) : currentLimit l x = some e.limit := by
  simp only [currentLimit, h]

theorem currentLimit_below {l : List SectionEntry} {x : Int} (hx : x < 0) : currentLimit l x = l.head?.map fun e => e.limit := by
  have hnone : l.filter (fun d => decide ((d.start : Int) ≤ x)) = [] := List.filter_eq_nil_iff.mpr fun f _ => by
    simp only [decide_eq_true_eq]
    omega
  simp only [currentLimit, hnone, List.getLast?_nil]

theorem currentLimit_beyond {h : Header} {l : List SectionEntry} {x : Int} {e : SectionEntry} (hjoined : Joined 0 l)
    (hall : ∀ e ∈ l, e.inRange h.lineLen) (he : l.getLast? = some e) (hx : h.lineLen ≤ x) : currentLimit l x = some e.limit := by
  refine currentLimit_of_started ?_
  rw [List.filter_eq_self.mpr fun d hd => ?_, he]
  have horder := (hjoined.mem hd).2
  obtain ⟨-, -, hstop⟩ := hall d hd
  simp only [decide_eq_true_eq]
  omega

/-- Accepted sections cover the line exactly once, each with its limit. -/
theorem sections_accepted (h : Header) (l : List SectionEntry) (hl : l ≠ []) (hj : judgeSections h l = none) :
    (∀ e ∈ l, 300 ≤ e.limit ∧ e.limit ≤ 14000 ∧ e.stop ≤ h.lineLen) ∧
    (∀ x < h.lineLen, ∃ e ∈ l, (e.start ≤ x ∧ x < e.stop) ∧ ∀ e' ∈ l, e'.start ≤ x ∧ x < e'.stop → e' = e) ∧
    (∃ e, l.getLast? = some e ∧ e.stop = h.lineLen ∧ e.start < h.lineLen ∧ (∀ e' ∈ l, e'.start ≤ h.lineLen ∧ h.lineLen < e'.stop → False) ∧
      ∀ x : Int, h.lineLen ≤ x → currentLimit l x = some e.limit) ∧
    (∀ e ∈ l, ∀ x : Int, e.start ≤ x → x < e.stop → currentLimit l x = some e.limit) ∧
    (∀ x < (0 : Int), currentLimit l x = l.head?.map fun e => e.limit) := by
  obtain ⟨hjoined, hall, e, he, hstop⟩ := judgeSections_none hl hj
  refine ⟨hall, fun x hx => ?_, ⟨e, he, hstop, ?_, fun d hd hdx => ?_, fun x hx => currentLimit_beyond hjoined hall he hx⟩,
    fun d hd x hstart hend => currentLimit_of_started (hjoined.started hd hstart hend), fun x hx => currentLimit_below hx⟩
  · obtain ⟨d, hd, hin⟩ := hjoined.covers he (Nat.zero_le x) (by omega)
    exact ⟨d, hd, hin, fun d' hd' hin' => hjoined.unique hd' hd hin' hin⟩
  · have horder := (hjoined.mem (List.mem_of_getLast? he)).2
    omega
  · obtain ⟨-, -, hrange⟩ := hall d hd
    omega

end Sys2Proof.Machine
end

section
/-! PROOFS. The tables' own rules: the fields of a LINE table (R1, R2), the second part of O13. -/

namespace Sys2Proof.Machine

/-! ### The fields of LINE -/

/-- A staged field's bytes as a number. -/
def stagedNat (l : List (List Byte)) (i : Nat) : Nat := beNat (l.getD i [])

/-- A LINE field as committed: the staged one, or its default. -/
def lineValue (l : List (List Byte)) (i : Nat) : Int := substitute i (stagedNat l 1 : Int) (lineField i (l.getD i []))

theorem lineFields_get (l : List (List Byte)) {k : Nat} (hk : k < 21) : (lineFields l)[k]? = some (lineValue l k) := by
  have hrange : (List.range 21)[k]? = some k := by rw [List.getElem?_range hk]
  rw [lineFields, List.getElem?_map, hrange]
  rfl

theorem lineFields_getD (l : List (List Byte)) {k : Nat} (hk : k < 21) : (lineFields l).getD k 0 = lineValue l k := by
  rw [List.getD_eq_getElem?_getD, lineFields_get l hk, Option.getD_some]

/-- An accepted LINE has each field in its range, given the staged v_line. -/
theorem judgeLine_ranges {l : List (List Byte)} (h : judgeLine (lineFields l) = none) {k : Nat} (hk : k < 21) :
    (lineRange k (stagedNat l 1)).1 ≤ lineValue l k ∧ lineValue l k ≤ (lineRange k (stagedNat l 1)).2 := by
  have hspeed : (lineFields l).getD 1 0 = (stagedNat l 1 : Int) := lineFields_getD l (by decide)
  unfold judgeLine at h
  rw [firstFault_indexed, hspeed] at h
  have hfield := h k _ (lineFields_get l hk)
  rw [Nat.zero_add] at hfield
  split at hfield
  · assumption
  · exact absurd hfield nofun

theorem validateOwn_line {l : List (List Byte)} {h : Header} (hv : validateOwn none .line l = .ok (.line h)) :
    judgeLine (lineFields l) = none ∧ h = clampDec (.ofFields (lineFields l)) := by
  have hjudged : judged (judgeLine (lineFields l)) (.line (clampDec (.ofFields (lineFields l)))) = .ok (.line h) := hv
  cases hj : judgeLine (lineFields l) with
  | some f =>
    rw [hj] at hjudged
    exact absurd hjudged nofun
  | none =>
    rw [hj] at hjudged
    exact ⟨rfl, (Validated.line.inj (Except.ok.inj hjudged)).symm⟩

/-- A field of a range, with its default for a staged 0. -/
theorem field_taken {l : List (List Byte)} {k d lo hi value : Nat} (hk : k < 21) (h : judgeLine (lineFields l) = none)
    (hvalue : value = ((lineFields l).getD k 0).toNat) (hstaged : lineValue l k = if stagedNat l k = 0 then (d : Int) else stagedNat l k)
    (hrange : lineRange k (stagedNat l 1) = ((lo : Int), (hi : Int))) :
    value = (if stagedNat l k = 0 then d else stagedNat l k) ∧ lo ≤ value ∧ value ≤ hi := by
  obtain ⟨hlo, hhi⟩ := judgeLine_ranges h hk
  rw [hrange] at hlo hhi
  rw [lineFields_getD l hk] at hvalue
  have hcast : lineValue l k = ((if stagedNat l k = 0 then d else stagedNat l k : Nat) : Int) := by rw [hstaged]; split <;> rfl
  omega

theorem lineField_unsigned (l : List (List Byte)) {k : Nat} (h : k ≠ 18) : lineField k (l.getD k []) = (stagedNat l k : Int) := if_neg h

/-- A field with no default. -/
theorem lineValue_plain (l : List (List Byte)) {k : Nat} (hsigned : k ≠ 18) (hdefault : lineDefault k (stagedNat l 1) = none) :
    lineValue l k = if stagedNat l k = 0 then ((0 : Nat) : Int) else stagedNat l k := by
  rw [lineValue, substitute, hdefault, lineField_unsigned l hsigned]
  by_cases e : stagedNat l k = 0
  · rw [if_pos e, e]
  · rw [if_neg e]

/-- A field with a default. -/
theorem lineValue_default (l : List (List Byte)) {k d : Nat} (hsigned : k ≠ 18) (hdefault : lineDefault k (stagedNat l 1) = some (d : Int)) :
    lineValue l k = if stagedNat l k = 0 then (d : Int) else stagedNat l k := by
  rw [lineValue, substitute, hdefault, lineField_unsigned l hsigned]
  by_cases e : stagedNat l k = 0
  · rw [if_pos e]
    exact if_pos (by rw [e]; rfl)
  · rw [if_neg e]
    exact if_neg (by omega)

/-- An accepted LINE table field by field. -/
theorem line_accepted (l : List (List Byte)) (h : Header) (hv : validateOwn none .line l = .ok (.line h)) :
    let staged := fun i => beNat (l.getD i [])
    let field := fun (i default lo hi value : Nat) => value = (if staged i = 0 then default else staged i) ∧ lo ≤ value ∧ value ≤ hi
    let v := h.vLine
    field 0 0 100000 4000000 h.lineLen ∧ field 1 0 1000 14000 v ∧ field 2 0 200 1500 h.aAcc ∧
    (200 ≤ staged 3 ∧ staged 3 ≤ 1500 ∧ h.aDec = min (staged 3) (h.aSb * 7 / 8)) ∧ field 4 0 300 2000 h.aSb ∧ field 5 0 100 1000 h.vCr ∧
    field 6 0 500 5000 h.dM ∧ field 7 0 1000 10000 h.creepRun ∧ field 8 0 500 20000 h.scale ∧ field 9 (v / 2) 300 v h.reducedCap ∧
    field 10 1000 300 (min 2000 v) h.inspectionCap ∧ field 11 (min 3000 v) 300 v h.uncertainCap ∧ field 12 (min 9000 v) 300 v h.windCap1 ∧
    field 13 (min 6000 v) 300 v h.windCap2 ∧ field 14 (min 3000 v) 300 v h.windCap3 ∧ field 15 480 30 1440 h.ebInterval ∧
    field 16 1440 30 1440 h.railAInterval ∧ field 17 1440 30 1440 h.railBInterval ∧
    (h.coldLimit = signed 32 (staged 18) ∧ -20 ≤ h.coldLimit ∧ h.coldLimit ≤ 20) ∧ field 19 8 2 30 h.passageWindow ∧
    field 20 0 0 20 h.alightAllow := by
  obtain ⟨hj, hh⟩ := validateOwn_line hv
  intro staged field v
  have hspeed : v = stagedNat l 1 := by
    have hvalue : v = ((lineFields l).getD 1 0).toNat := by simp only [v, hh]; rfl
    rw [lineFields_getD l (by decide), lineValue_plain l (by decide) rfl] at hvalue
    split at hvalue <;> omega
  have hplain : ∀ {k lo hi value : Nat} (hk : k < 21), k ≠ 18 → lineDefault k (stagedNat l 1) = none →
      value = ((lineFields l).getD k 0).toNat → lineRange k (stagedNat l 1) = ((lo : Int), (hi : Int)) → field k 0 lo hi value :=
    fun hk hsigned hdefault hvalue hrange => field_taken hk hj hvalue (lineValue_plain l hsigned hdefault) hrange
  have hdefault : ∀ {k d lo hi value : Nat} (hk : k < 21), k ≠ 18 → lineDefault k (stagedNat l 1) = some (d : Int) →
      value = ((lineFields l).getD k 0).toNat → lineRange k (stagedNat l 1) = ((lo : Int), (hi : Int)) → field k d lo hi value :=
    fun hk hsigned hdefault hvalue hrange => field_taken hk hj hvalue (lineValue_default l hsigned hdefault) hrange
  have hbrake : 200 ≤ staged 3 ∧ staged 3 ≤ 1500 ∧ h.aDec = min (staged 3) (h.aSb * 7 / 8) := by
    obtain ⟨hvalue, hlo, hhi⟩ := field_taken (k := 3) (d := 0) (lo := 200) (hi := 1500) (by decide) hj rfl (lineValue_plain l (by decide) rfl) rfl
    have hstaged : ((lineFields l).getD 3 0).toNat = staged 3 := by
      rw [hvalue]
      exact ite_eq_right_iff.mpr fun e => e.symm
    rw [hstaged] at hlo hhi
    refine ⟨hlo, hhi, ?_⟩
    rw [← hstaged, hh]
    rfl
  have hcold : h.coldLimit = signed 32 (staged 18) ∧ -20 ≤ h.coldLimit ∧ h.coldLimit ≤ 20 := by
    have hvalue : h.coldLimit = lineValue l 18 := by
      rw [← lineFields_getD l (by decide), hh]
      rfl
    obtain ⟨hlo, hhi⟩ := judgeLine_ranges hj (k := 18) (by decide)
    rw [hvalue]
    exact ⟨rfl, hlo, hhi⟩
  rw [hspeed]
  refine ⟨hplain (by decide) (by decide) rfl (by rw [hh]; rfl) rfl, hplain (by decide) (by decide) rfl (by rw [← hspeed]; simp only [v, hh]; rfl) rfl,
    hplain (by decide) (by decide) rfl (by rw [hh]; rfl) rfl, hbrake, hplain (by decide) (by decide) rfl (by rw [hh]; rfl) rfl,
    hplain (by decide) (by decide) rfl (by rw [hh]; rfl) rfl, hplain (by decide) (by decide) rfl (by rw [hh]; rfl) rfl,
    hplain (by decide) (by decide) rfl (by rw [hh]; rfl) rfl, hplain (by decide) (by decide) rfl (by rw [hh]; rfl) rfl,
    hdefault (by decide) (by decide) rfl (by rw [hh]; rfl) rfl, hdefault (by decide) (by decide) rfl (by rw [hh]; rfl) ?_,
    hdefault (by decide) (by decide) ?_ (by rw [hh]; rfl) rfl, hdefault (by decide) (by decide) ?_ (by rw [hh]; rfl) rfl,
    hdefault (by decide) (by decide) ?_ (by rw [hh]; rfl) rfl, hdefault (by decide) (by decide) ?_ (by rw [hh]; rfl) rfl,
    hdefault (by decide) (by decide) rfl (by rw [hh]; rfl) rfl, hdefault (by decide) (by decide) rfl (by rw [hh]; rfl) rfl,
    hdefault (by decide) (by decide) rfl (by rw [hh]; rfl) rfl, hcold, hdefault (by decide) (by decide) rfl (by rw [hh]; rfl) rfl,
    hplain (by decide) (by decide) rfl (by rw [hh]; rfl) rfl⟩
  all_goals simp [lineRange, lineDefault, Nat.cast_min]

end Sys2Proof.Machine
end

section
/-! PROOFS. The tables' own rules: berths, markers, cars, gates and admission rules (R4 to R8), and O13 as a whole. -/

namespace Sys2Proof.Machine

/-! ### BERTHS (R4) -/

/-- A berth's own fields and its zone. -/
def BerthEntry.inRange (e : BerthEntry) (len : Nat) : Prop :=
  e.position ≤ len ∧ -1000 ≤ e.zoneLo ∧ e.zoneLo ≤ e.position ∧ e.position ≤ e.zoneHi ∧ e.zoneHi ≤ len + 1000 ∧
    e.sides.toNat ≤ 3 ∧ 1 ≤ e.first ∧ e.first ≤ e.last ∧ e.last ≤ 6 ∧ e.autoRelease ≤ 1 ∧ (e.autoRelease = 1 → e.sides ≠ 0)

/-- A berth above the one before it. -/
def BerthEntry.above (e q : BerthEntry) : Prop := q.zoneHi < e.zoneLo ∧ q.position < e.position

theorem judgeBerth_first {len i : Nat} {e : BerthEntry} : judgeBerth len i none e = none ↔ e.inRange len := by
  simp only [judgeBerth, failAt_ite, and_true, Bool.false_eq_true, not_false_eq_true, true_and, BerthEntry.inRange]
  by_cases hsides : e.sides = 0 <;> simp only [hsides, and_true, and_false, not_true_eq_false, not_false_eq_true, ne_eq, imp_false, implies_true] <;> omega

theorem judgeBerth_next {len i : Nat} {e q : BerthEntry} : judgeBerth len i (some q) e = none ↔ e.inRange len ∧ e.above q := by
  simp only [judgeBerth, failAt_ite, and_true, decide_eq_true_eq, BerthEntry.inRange, BerthEntry.above]
  by_cases hsides : e.sides = 0 <;> simp only [hsides, and_true, and_false, not_true_eq_false, not_false_eq_true, ne_eq, imp_false, implies_true] <;> omega

theorem berths_accepted (h : Header) (t : PerBerth BerthEntry) : judgeBerths h t = none ↔ (∀ b, (t.get b).inRange h.lineLen) ∧
    (∀ b c, c.idx = b.idx + 1 → (t.get c).above (t.get b)) ∧
    |((t.b1.position : Int) + t.b2.position) - h.lineLen| ≤ 500 ∧ |((t.b0.position : Int) + t.b3.position) - h.lineLen| ≤ 500 := by
  have hfirst : firstFault (judgeBerth h.lineLen) 0 none [t.b0, t.b1, t.b2, t.b3] = none ↔
      (∀ b, (t.get b).inRange h.lineLen) ∧ ∀ b c, c.idx = b.idx + 1 → (t.get c).above (t.get b) := by
    simp only [firstFault_cons, judgeBerth_first, judgeBerth_next]
    constructor
    · rintro ⟨h0, ⟨h1, a1⟩, ⟨h2, a2⟩, ⟨h3, a3⟩, -⟩
      refine ⟨fun b => by cases b <;> assumption, fun b c hc => ?_⟩
      cases b <;> cases c <;> first | exact absurd hc (by decide) | assumption
    · rintro ⟨hall, habove⟩
      exact ⟨hall .b0, ⟨hall .b1, habove .b0 .b1 rfl⟩, ⟨hall .b2, habove .b1 .b2 rfl⟩, ⟨hall .b3, habove .b2 .b3 rfl⟩, rfl⟩
  have hmirror : ∀ a b : Int, |a - b| ≤ 500 ↔ ¬500 < distance a b := fun a b => by rw [distance, Int.abs_eq_natAbs]; omega
  rw [← and_assoc, ← hfirst, hmirror, hmirror]
  unfold judgeBerths
  cases firstFault (judgeBerth h.lineLen) 0 none [t.b0, t.b1, t.b2, t.b3] with
  | some f => simp
  | none => simp only [failAt_ite, true_and, and_true]

/-! ### MARKERS (R5) -/

/-- A free marker's own fields. -/
def MarkerEntry.inRange (e : MarkerEntry) (len : Nat) : Prop :=
  4 ≤ e.input ∧ e.input ≤ 7 ∧ e.position ≤ len ∧ 1 ≤ e.car ∧ e.car ≤ 3 ∧ 100 ≤ e.window ∧ e.window ≤ 3000

theorem judgeMarker_none {len i : Nat} {prev : Option MarkerEntry} {e : MarkerEntry} :
    judgeMarker len i prev e = none ↔ e.inRange len ∧ ∀ q ∈ prev, q.input < e.input := by
  cases prev with
  | none =>
    simp only [judgeMarker, failAt_ite, and_true, Bool.false_eq_true, not_false_eq_true, MarkerEntry.inRange, Option.not_mem_none,
      false_implies, implies_true]
    omega
  | some q =>
    simp only [judgeMarker, failAt_ite, and_true, decide_eq_true_eq, MarkerEntry.inRange, Option.mem_some_iff, forall_eq']
    omega

theorem firstFault_markers {len i : Nat} {prev : Option MarkerEntry} {l : List MarkerEntry} : firstFault (judgeMarker len) i prev l = none ↔
    (∀ e ∈ l, e.inRange len) ∧ l.Pairwise (fun e f => e.input < f.input) ∧ ∀ q ∈ prev, ∀ e ∈ l, q.input < e.input := by
  induction l generalizing i prev with
  | nil => simp [firstFault]
  | cons e l ih =>
    rw [firstFault_cons, judgeMarker_none, ih, List.forall_mem_cons, List.pairwise_cons]
    constructor
    · rintro ⟨⟨hrange, hprev⟩, hall, hpair, hnext⟩
      have habove : ∀ f ∈ l, e.input < f.input := hnext e rfl
      exact ⟨⟨hrange, hall⟩, ⟨habove, hpair⟩, fun q hq => List.forall_mem_cons.mpr ⟨hprev q hq, fun f hf => (hprev q hq).trans (habove f hf)⟩⟩
    · rintro ⟨⟨hrange, hall⟩, ⟨habove, hpair⟩, hprev⟩
      exact ⟨⟨hrange, fun q hq => (hprev q hq) e List.mem_cons_self⟩, hall, hpair, fun q hq f hf => Option.mem_some_iff.mp hq ▸ habove f hf⟩

theorem markers_accepted (h : Header) (l : List MarkerEntry) :
    judgeMarkers h l = none ↔ (∀ e ∈ l, e.inRange h.lineLen) ∧ l.Pairwise fun e f => e.input < f.input := by
  rw [judgeMarkers, firstFault_markers]
  simp

/-! ### CARS (R6) -/

/-- The digest is the sum of the twelve bytes before it, modulo 256. -/
theorem sum_toNat (r : Ability) : r.sum.toNat = ((r.bytes.take (r.bytes.length - 1)).map BitVec.toNat).sum % 256 := by
  have hfold : ∀ (l : List Byte) (b : Byte), (l.foldl (· + ·) b).toNat = (b.toNat + (l.map BitVec.toNat).sum) % 256 := fun l => by
    induction l with
    | nil => intro b; simp [Nat.mod_eq_of_lt b.isLt]
    | cons x l ih =>
      intro b
      rw [List.foldl_cons, ih, BitVec.toNat_add, List.map_cons, List.sum_cons]
      omega
  have hbytes : r.bytes.take (r.bytes.length - 1) = r.bytes12 := by
    rw [Ability.bytes, List.length_append, List.length_singleton, Nat.add_sub_cancel, List.take_left]
  rw [hbytes, Ability.sum, hfold]
  simp

/-- One compartment of an ability record: with a capacity and a leaf up to the count, with neither beyond it. -/
def Ability.Compartment (r : Ability) (k : Nat) : Prop :=
  let n := (r.capacities.toList.getD k 0).toNat
  let leaf := r.left.getLsbD k = true ∨ r.right.getLsbD k = true
  if k < r.count then 1 ≤ n ∧ n ≤ 40 ∧ leaf else n = 0 ∧ ¬leaf

theorem compartmentOk_iff (r : Ability) (k : Nat) : compartmentOk r k = true ↔ r.Compartment k := by
  unfold compartmentOk Ability.Compartment
  dsimp only [memberAt]
  split <;> simp [and_assoc]

/-- An ability record's fields in range and in agreement. -/
def Ability.InRange (r : Ability) : Prop :=
  1 ≤ r.identity ∧ 1 ≤ r.count ∧ r.count ≤ 6 ∧ r.left.toNat < 64 ∧ r.right.toNat < 64 ∧ r.railKind.toNat ≤ 1

theorem abilityOk_iff (r : Ability) : abilityOk r = true ↔ r.InRange ∧ ∀ k < 6, r.Compartment k := by
  simp only [abilityOk, Bool.and_eq_true, decide_eq_true_eq, List.all_eq_true, List.mem_range, compartmentOk_iff, Ability.InRange, and_assoc]

theorem judgeCar_none {i : Nat} {prev : Option Ability} {r : Ability} : judgeCar i prev r = none ↔
    (r.InRange ∧ ∀ k < 6, r.Compartment k) ∧ r.digest = r.sum ∧ ∀ q ∈ prev, q.identity ≠ r.identity := by
  cases prev <;> simp only [judgeCar, failAt_ite, ← abilityOk_iff] <;> simp

theorem cars_accepted (c : PerCar Ability) : firstFault judgeCar 0 none [c.a, c.b] = none ↔
    (∀ x, ((c.get x).InRange ∧ ∀ k < 6, (c.get x).Compartment k) ∧ (c.get x).digest = (c.get x).sum) ∧ c.a.identity ≠ c.b.identity := by
  simp only [firstFault_cons, judgeCar_none]
  constructor
  · rintro ⟨⟨ha, hda, -⟩, ⟨hb, hdb, hid⟩, -⟩
    exact ⟨fun x => by cases x <;> [exact ⟨ha, hda⟩; exact ⟨hb, hdb⟩], hid c.a rfl⟩
  · rintro ⟨hall, hid⟩
    exact ⟨⟨(hall .a).1, (hall .a).2, nofun⟩, ⟨(hall .b).1, (hall .b).2, fun q hq => Option.mem_some_iff.mp hq ▸ hid⟩, rfl⟩

/-! ### GATES and RULES (R7, R8) -/

theorem judgeGate_none {i : Nat} {prev : Option GateEntry} {e : GateEntry} : judgeGate i prev e = none ↔
    e.kind ≤ 2 ∧ (e.kind ≠ 0 → if i < 8 then e.berth ≤ 1 else e.berth = 2 ∨ e.berth = 3) := by
  unfold judgeGate
  by_cases hkind : 2 < e.kind
  · simp [hkind, failAt]
  · by_cases hunused : e.kind = 0
    · simp [hunused]
    · by_cases hi : i < 8
      · by_cases hb : e.berth ≤ 1
        · simp [hunused, hi, hb]
          omega
        · simp [hkind, hunused, hi, hb, failAt]
      · by_cases hb : e.berth = 2 ∨ e.berth = 3
        · simp [hkind, hunused, hi, hb]
          omega
        · simp [hkind, hunused, hi, hb, failAt]

theorem gates_accepted (l : List GateEntry) : firstFault judgeGate 0 none l = none ↔
    ∀ i e, l[i]? = some e → e.kind ≤ 2 ∧ (e.kind ≠ 0 → if i < 8 then e.berth ≤ 1 else e.berth = 2 ∨ e.berth = 3) := by
  have hself : judgeGate = fun i _ e => judgeGate i none e := rfl
  rw [hself, firstFault_indexed]
  simp only [judgeGate_none, Nat.zero_add]

theorem judgeRule_none {i : Nat} {prev : Option RuleEntry} {e : RuleEntry} : judgeRule i prev e = none ↔
    (e.action = 1 ∨ e.action = 2) ∧ 1 ≤ e.limit ∧ e.limit ≤ 8 := by
  simp only [judgeRule, failAt_ite, and_true]
  omega

theorem rules_accepted (l : List RuleEntry) : firstFault judgeRule 0 none l = none ↔
    ∀ e ∈ l, (e.action = 1 ∨ e.action = 2) ∧ 1 ≤ e.limit ∧ e.limit ≤ 8 := by
  have hself : judgeRule = fun i _ e => judgeRule i none e := rfl
  rw [hself, firstFault_indexed]
  simp only [judgeRule_none]
  exact ⟨fun h e he => (List.mem_iff_getElem?.mp he).elim fun k hk => h k e hk, fun h k e hk => h e (List.mem_of_getElem? hk)⟩

/-- Settles O13: each table by the rule of its own entries. -/
theorem acceptedTablesMeetTheirRules : Obligations.AcceptedTablesMeetTheirRules := by
  refine ⟨sections_accepted, line_accepted, berths_accepted, markers_accepted, fun c => ?_, gates_accepted, rules_accepted⟩
  have hdigest : ∀ r : Ability, r.digest = r.sum ↔ r.digest.toNat = ((r.bytes.take (r.bytes.length - 1)).map BitVec.toNat).sum % 256 := fun r => by
    rw [← sum_toNat, BitVec.toNat_inj]
  rw [cars_accepted]
  refine and_congr (forall_congr' fun x => ?_) Iff.rfl
  rw [hdigest]
  constructor
  · rintro ⟨⟨⟨h1, h2, h3, h4, h5, h6⟩, hcompartments⟩, hd⟩
    exact ⟨h1, h2, h3, h4, h5, h6, hd, hcompartments⟩
  · rintro ⟨h1, h2, h3, h4, h5, h6, hd, hcompartments⟩
    exact ⟨⟨⟨h1, h2, h3, h4, h5, h6⟩, hcompartments⟩, hd⟩

end Sys2Proof.Machine
end
